-- ==== Sys2Proof/Word.lean ====
section
/-! DEFINITION. The byte of the command link and of the account store. -/

namespace Sys2Proof

/-- One byte on the command link or in the store (R185, R188). -/
abbrev Byte := BitVec 8

end Sys2Proof
end

