-- ==== Sys2Proof/Syntax.lean ====
section
/-! DEFINITION. The steps of the part: one constructor for each row of the opcode table.
Rows 0x10 to 0x73 are commands of the station controller, each standing for an accepted request
(R175, R176); the other rows are field events, expiries and events of the supply. -/

namespace Sys2Proof

/-- The generating units U1 to U8. -/
inductive UnitId where
  | u1 | u2 | u3 | u4 | u5 | u6 | u7 | u8
deriving DecidableEq, Repr

/-- The trip inputs I1 to I4 of a unit. -/
inductive InputId where
  | i1 | i2 | i3 | i4
deriving DecidableEq, Repr

/-- The two reference inputs (R7). -/
inductive SourceId where
  | refA | refB
deriving DecidableEq, Repr

/-- The two contacts of a unit (R103). -/
inductive ContactId where
  | breaker | pumpMode
deriving DecidableEq, Repr

/-- The nine converter channels: channels 1 to 8 carry the speed loops, channel 9 the supply tap (R96). -/
inductive Channel where
  | speed (u : UnitId)
  | supply
deriving DecidableEq, Repr

/-- The steps of the part, in the order of the opcode table.
A command row carries the fields of its request body (R190); an event row carries its key and what
the outside world brings with it. -/
inductive Instr where
  | readTime
  /-- `broadcast`: the frame was sent to address 0 (R13, R173). -/
  | setTime (broadcast : Bool) (seconds fraction uncertainty : BitVec 32)
  | readTimebase
  | setReference (source enable priority : Byte) (delay : BitVec 16)
  | setLoop (k : Byte) (threshold : BitVec 32) (rate : BitVec 16)
  | setInput (unit input enable cls stops priority exponent : Byte)
  | readInput (unit input clear : Byte)
  | setTestMode (unit mode : Byte)
  | readCase (number : BitVec 16)
  | listCases (selector : Byte) (cursor : BitVec 16)
  | ackCase (number badge : BitVec 16)
  | clearCase (number badge : BitVec 16)
  | retireCase (number : BitVec 16)
  | readOverflow (unit : Byte)
  | clearOverflow (unit : Byte)
  | readGroup (unit : Byte)
  | setGroupWindow (n : Byte)
  | readUnit (unit : Byte)
  | setSpeedBands (selector : Byte) (rollingOn rollingOff atSpeedOn atSpeedOff : BitVec 16)
  | setSpeedCal (unit sign magnitude : Byte)
  | readAccount (unit kind : Byte)
  | presetAccount (unit kind : Byte) (lifetime interval : BitVec 32)
  | retireAccount (unit kind : Byte)
  | reinstateAccount (unit kind : Byte)
  | commit
  | setStore (mode exponent : Byte)
  | readStoreStatus
  /-- The count byte of the body is the length of `minutes` (R190). -/
  | setRoster (minutes : List (BitVec 16))
  | signOn (badge : BitVec 16) (team : Byte)
  | presence (badge : BitVec 16)
  | offer (badge : BitVec 16)
  | readHandover (page : Byte)
  | accept (badge version : BitVec 16) (team : Byte)
  | withdraw (badge : BitVec 16)
  | readShift
  | readPreviousShift
  | setShiftTiming (lead grace interval mode : Byte)
  | readNotices
  | setNoticeMask (time trip unit store shift supply : Byte)
  | resetGroupT
  | resetGroupC
  | resetGroupA
  | resetGroupS
  | identify
  | unknownCommand (code : Byte)
  /-- The line has been silent for 2 ms after the last byte (R174). -/
  | frameEnd
  | replyComplete
  | localSecondBoundary
  | holdBackEnd
  | dutySecondBoundary
  | refPulse (source : SourceId)
  | sourceLoss (source : SourceId)
  /-- `closed`: the level the contact takes at the edge. -/
  | tripContactEdge (unit : UnitId) (input : InputId) (closed : Bool)
  | assertionConfirmation (unit : UnitId) (input : InputId)
  | releaseConfirmation (unit : UnitId) (input : InputId)
  | groupExpiry (unit : UnitId)
  | sampleEvent (channel : Channel) (raw : BitVec 10)
  | unitContactEdge (unit : UnitId) (contact : ContactId) (closed : Bool)
  | unitContactConfirmation (unit : UnitId) (contact : ContactId)
  | busGrant
  | grantTimeout
  | transferComplete
  | storeWriteCycleDone
  | notReadyTimeout
  /-- `bytes`: the sixteen bytes the store gives at the read-back. -/
  | readBackComplete (bytes : List Byte)
  | grantWithdrawn
  /-- `bytes`: the sixteen bytes the store gives to the load. -/
  | storeReadComplete (bytes : List Byte)
  | commitPeriodExpiry
  | presenceExpiry
  | pfiEdge (asserted : Bool)
  | pfiConfirmation
  | restoreExpiry
  | backupEntry
  /-- `address`, `fast`: the levels of the five address straps and of the rate strap at the start (R173). -/
  | mainSupplyReturn (address : BitVec 5) (fast : Bool)
  /-- `address`, `fast`: the levels of the straps at the start, as for `mainSupplyReturn`. -/
  | resetPin (address : BitVec 5) (fast : Bool)
  | watchOscillatorCycle
  /-- `stopBit`: the byte's stop bit was present (R174). -/
  | linkByteReceived (byte : Byte) (stopBit : Bool)
  | backupRetentionLost
deriving DecidableEq, Repr

end Sys2Proof
end

