-- ==== Sys2Proof/Decode.lean ====
section
/-! DEFINITION. The words of the opcode table. No row of the table gives bits (the part takes commands,
not words), so no word spells a command. Requests arrive as frames of bytes and are read by FRAME_END
in `Sys2Proof/Machine/Link.lean`. -/

namespace Sys2Proof

/-- The command a word of the opcode table spells: none, since no row has bits. -/
def decodeTableWord (_nbits _w : Nat) : Option Instr := none

end Sys2Proof
end

