-- ==== Sys2Proof/Config.lean ====
section
/-! DEFINITION. What is fixed from outside the manual: the strap levels that the reset state is
given. The manual gives every other number; each stands in the definition that uses it. -/

namespace Sys2Proof

/-- The address straps at first power. DESIGN CHOICE (notes/assumptions/1.md), unsafe: R173 leaves them to the
station; 0 would make a part that answers no frame. -/
def Config.strapAddress : Nat := 1

/-- The rate strap at first power: `false` is 38,400 baud, `true` 115,200 baud.
DESIGN CHOICE (notes/assumptions/1.md), unsafe. -/
def Config.strapFast : Bool := false

end Sys2Proof
end

