-- ==== Sys2Proof/Machine/Tables.lean ====
section
/-! DEFINITION. Fixed tables indexed by the part's keys: one entry for each unit, input, kind, slot or
notice. Every table is a plain structure, so an entry always exists. -/

namespace Sys2Proof.Machine

/-- One entry for each unit. -/
@[ext] structure PerUnit (α : Type) where
  (u1 u2 u3 u4 u5 u6 u7 u8 : α)
deriving DecidableEq, Repr

/-- One entry for each trip input of a unit. -/
@[ext] structure PerInput (α : Type) where
  (i1 i2 i3 i4 : α)
deriving DecidableEq, Repr

/-- The five account kinds (R113). -/
inductive Kind where
  | gen | pump | rotate | starts | trips
deriving DecidableEq, Repr

/-- One entry for each account kind. -/
@[ext] structure PerKind (α : Type) where
  (gen pump rotate starts trips : α)
deriving DecidableEq, Repr

/-- The four slots of a case set (R55). -/
inductive SlotId where
  | s0 | s1 | s2 | s3
deriving DecidableEq, Repr

/-- One entry for each slot. -/
@[ext] structure PerSlot (α : Type) where
  (s0 s1 s2 s3 : α)
deriving DecidableEq, Repr

/-- The twenty-two notices (R179, R189). -/
inductive Notice where
  | sourceChange | step | lockGained | holdoverEntered | qualityDrop
  | newCase | firstOutFinal | overflow
  | speedSignalLost | speedSignalBack
  | commitDone | commitFailed | storeFault | suspectLoaded | queueFull
  | windowOpen | overdue | presenceLapsed | handoverDone
  | holdup | warmStart | coldStart
deriving DecidableEq, Repr

/-- One entry for each notice. -/
@[ext] structure PerNotice (α : Type) where
  (sourceChange step lockGained holdoverEntered qualityDrop : α)
  (newCase firstOutFinal overflow : α)
  (speedSignalLost speedSignalBack : α)
  (commitDone commitFailed storeFault suspectLoaded queueFull : α)
  (windowOpen overdue presenceLapsed handoverDone : α)
  (holdup warmStart coldStart : α)
deriving DecidableEq, Repr

variable {α β : Type}

/-! ### Units -/

/-- The units in order U1 to U8. -/
def allUnits : List UnitId := [.u1, .u2, .u3, .u4, .u5, .u6, .u7, .u8]

/-- The unit's number, 1 to 8. -/
def unitNumber : UnitId → Nat
  | .u1 => 1 | .u2 => 2 | .u3 => 3 | .u4 => 4 | .u5 => 5 | .u6 => 6 | .u7 => 7 | .u8 => 8

/-- The unit a key names, if it is 1 to 8. -/
def unitOf? : Nat → Option UnitId
  | 1 => some .u1 | 2 => some .u2 | 3 => some .u3 | 4 => some .u4
  | 5 => some .u5 | 6 => some .u6 | 7 => some .u7 | 8 => some .u8
  | _ => none

def PerUnit.get (p : PerUnit α) : UnitId → α
  | .u1 => p.u1 | .u2 => p.u2 | .u3 => p.u3 | .u4 => p.u4
  | .u5 => p.u5 | .u6 => p.u6 | .u7 => p.u7 | .u8 => p.u8

def PerUnit.set (p : PerUnit α) (u : UnitId) (a : α) : PerUnit α :=
  match u with
  | .u1 => { p with u1 := a } | .u2 => { p with u2 := a }
  | .u3 => { p with u3 := a } | .u4 => { p with u4 := a }
  | .u5 => { p with u5 := a } | .u6 => { p with u6 := a }
  | .u7 => { p with u7 := a } | .u8 => { p with u8 := a }

def PerUnit.fill (a : α) : PerUnit α := ⟨a, a, a, a, a, a, a, a⟩

def PerUnit.map (p : PerUnit α) (f : α → β) : PerUnit β :=
  ⟨f p.u1, f p.u2, f p.u3, f p.u4, f p.u5, f p.u6, f p.u7, f p.u8⟩

def PerUnit.toList (p : PerUnit α) : List α := [p.u1, p.u2, p.u3, p.u4, p.u5, p.u6, p.u7, p.u8]

/-! ### Inputs -/

/-- The inputs of a unit in order I1 to I4. -/
def allInputs : List InputId := [.i1, .i2, .i3, .i4]

/-- The input's number, 1 to 4. -/
def inputNumber : InputId → Nat
  | .i1 => 1 | .i2 => 2 | .i3 => 3 | .i4 => 4

/-- The input a key names, if it is 1 to 4. -/
def inputOf? : Nat → Option InputId
  | 1 => some .i1 | 2 => some .i2 | 3 => some .i3 | 4 => some .i4
  | _ => none

def PerInput.get (p : PerInput α) : InputId → α
  | .i1 => p.i1 | .i2 => p.i2 | .i3 => p.i3 | .i4 => p.i4

def PerInput.set (p : PerInput α) (i : InputId) (a : α) : PerInput α :=
  match i with
  | .i1 => { p with i1 := a } | .i2 => { p with i2 := a }
  | .i3 => { p with i3 := a } | .i4 => { p with i4 := a }

def PerInput.fill (a : α) : PerInput α := ⟨a, a, a, a⟩

def PerInput.map (p : PerInput α) (f : α → β) : PerInput β := ⟨f p.i1, f p.i2, f p.i3, f p.i4⟩

def PerInput.toList (p : PerInput α) : List α := [p.i1, p.i2, p.i3, p.i4]

/-- Every trip input in input order, U1/I1 to U8/I4 (R51). -/
def inputOrder : List (UnitId × InputId) :=
  allUnits.flatMap fun u => allInputs.map fun i => (u, i)

/-! ### Account kinds -/

/-- The kinds in the order of their numbers (R113). -/
def allKinds : List Kind := [.gen, .pump, .rotate, .starts, .trips]

/-- The kind's number, 0 to 4 (R113). -/
def kindNumber : Kind → Nat
  | .gen => 0 | .pump => 1 | .rotate => 2 | .starts => 3 | .trips => 4

/-- The kind a key names, if it is 0 to 4. -/
def kindOf? : Nat → Option Kind
  | 0 => some .gen | 1 => some .pump | 2 => some .rotate | 3 => some .starts | 4 => some .trips
  | _ => none

/-- GEN, PUMP and ROTATE are the seconds kinds; STARTS and TRIPS are the counter kinds (R113). -/
def isSecondsKind : Kind → Bool
  | .gen | .pump | .rotate => true
  | .starts | .trips => false

def PerKind.get (p : PerKind α) : Kind → α
  | .gen => p.gen | .pump => p.pump | .rotate => p.rotate | .starts => p.starts | .trips => p.trips

def PerKind.set (p : PerKind α) (k : Kind) (a : α) : PerKind α :=
  match k with
  | .gen => { p with gen := a } | .pump => { p with pump := a }
  | .rotate => { p with rotate := a } | .starts => { p with starts := a }
  | .trips => { p with trips := a }

def PerKind.fill (a : α) : PerKind α := ⟨a, a, a, a, a⟩

def PerKind.map (p : PerKind α) (f : α → β) : PerKind β :=
  ⟨f p.gen, f p.pump, f p.rotate, f p.starts, f p.trips⟩

def PerKind.toList (p : PerKind α) : List α := [p.gen, p.pump, p.rotate, p.starts, p.trips]

/-- The walk position of an account, 0 to 39 (R132). -/
def walkPosition (u : UnitId) (k : Kind) : Nat := (unitNumber u - 1) * 5 + kindNumber k

/-- The accounts in walk order, ascending walk position (R132). -/
def walkOrder : List (UnitId × Kind) :=
  allUnits.flatMap fun u => allKinds.map fun k => (u, k)

/-! ### Slots -/

/-- The slots of a set in the order 0 to 3. -/
def allSlots : List SlotId := [.s0, .s1, .s2, .s3]

def PerSlot.get (p : PerSlot α) : SlotId → α
  | .s0 => p.s0 | .s1 => p.s1 | .s2 => p.s2 | .s3 => p.s3

def PerSlot.set (p : PerSlot α) (i : SlotId) (a : α) : PerSlot α :=
  match i with
  | .s0 => { p with s0 := a } | .s1 => { p with s1 := a }
  | .s2 => { p with s2 := a } | .s3 => { p with s3 := a }

def PerSlot.fill (a : α) : PerSlot α := ⟨a, a, a, a⟩

def PerSlot.map (p : PerSlot α) (f : α → β) : PerSlot β := ⟨f p.s0, f p.s1, f p.s2, f p.s3⟩

def PerSlot.toList (p : PerSlot α) : List α := [p.s0, p.s1, p.s2, p.s3]

/-! ### Notices -/

def PerNotice.get (p : PerNotice α) : Notice → α
  | .sourceChange => p.sourceChange | .step => p.step | .lockGained => p.lockGained
  | .holdoverEntered => p.holdoverEntered | .qualityDrop => p.qualityDrop
  | .newCase => p.newCase | .firstOutFinal => p.firstOutFinal | .overflow => p.overflow
  | .speedSignalLost => p.speedSignalLost | .speedSignalBack => p.speedSignalBack
  | .commitDone => p.commitDone | .commitFailed => p.commitFailed | .storeFault => p.storeFault
  | .suspectLoaded => p.suspectLoaded | .queueFull => p.queueFull
  | .windowOpen => p.windowOpen | .overdue => p.overdue
  | .presenceLapsed => p.presenceLapsed | .handoverDone => p.handoverDone
  | .holdup => p.holdup | .warmStart => p.warmStart | .coldStart => p.coldStart

def PerNotice.set (p : PerNotice α) (n : Notice) (a : α) : PerNotice α :=
  match n with
  | .sourceChange => { p with sourceChange := a } | .step => { p with step := a }
  | .lockGained => { p with lockGained := a } | .holdoverEntered => { p with holdoverEntered := a }
  | .qualityDrop => { p with qualityDrop := a } | .newCase => { p with newCase := a }
  | .firstOutFinal => { p with firstOutFinal := a } | .overflow => { p with overflow := a }
  | .speedSignalLost => { p with speedSignalLost := a }
  | .speedSignalBack => { p with speedSignalBack := a }
  | .commitDone => { p with commitDone := a } | .commitFailed => { p with commitFailed := a }
  | .storeFault => { p with storeFault := a } | .suspectLoaded => { p with suspectLoaded := a }
  | .queueFull => { p with queueFull := a } | .windowOpen => { p with windowOpen := a }
  | .overdue => { p with overdue := a } | .presenceLapsed => { p with presenceLapsed := a }
  | .handoverDone => { p with handoverDone := a } | .holdup => { p with holdup := a }
  | .warmStart => { p with warmStart := a } | .coldStart => { p with coldStart := a }

def PerNotice.fill (a : α) : PerNotice α :=
  ⟨a, a, a, a, a, a, a, a, a, a, a, a, a, a, a, a, a, a, a, a, a, a⟩

/-- The notices of each category in bit order: TIME, TRIP, UNIT, STORE, SHIFT, SUPPLY (R189). -/
def noticeCategories : List (List Notice) :=
  [[.sourceChange, .step, .lockGained, .holdoverEntered, .qualityDrop],
   [.newCase, .firstOutFinal, .overflow],
   [.speedSignalLost, .speedSignalBack],
   [.commitDone, .commitFailed, .storeFault, .suspectLoaded, .queueFull],
   [.windowOpen, .overdue, .presenceLapsed, .handoverDone],
   [.holdup, .warmStart, .coldStart]]

/-- Every notice, category by category. -/
def allNotices : List Notice := noticeCategories.flatten

end Sys2Proof.Machine
end

