-- ==== Sys2Proof/Machine/State.lean ====
section
/-! DEFINITION. The state of the part, block by block, as plain data, and the state after reset.
Each field's docstring names the rule that gives it. -/

namespace Sys2Proof.Machine

/-! ### Stamps and the Timebase (chapters 1 and 2) -/

/-- The quality classes (R32). -/
inductive Quality where
  | u | a | b | c | d
deriving DecidableEq, Repr

/-- A stamp: station time, quality class and elapsed count of one instant (R5). -/
@[ext] structure Stamp where
  seconds : Nat
  frac : Nat
  quality : Quality
  elapsed : Nat
deriving DecidableEq, Repr

/-- The timebase states (R19). -/
inductive TbState where
  | free | acquire | locked | holdover
deriving DecidableEq, Repr

/-- The Timebase: the two counts (R1, R2), the backup records (R6) and the discipline record (R19). -/
@[ext] structure Timebase where
  /-- Seconds of the station time, 0 to 4,294,967,295 (R1). -/
  seconds : Nat
  /-- Fraction of the station time, 0 to 9,999,999 cu (R1). -/
  frac : Nat
  /-- The elapsed count, 0 to 2^62 (R2). -/
  elapsed : Nat
  /-- The time-set flag (R1). -/
  timeSet : Bool
  /-- The periods a hold-back in progress has still to hold, absent when there is none (R4). -/
  holdBack : Option Nat
  /-- The period in which the fraction passes its limit has come and its local second boundary has not been
  taken, so another event of that instant can still be taken first (R13, R24, R26). The model's own
  (notes/assumptions/31.md). -/
  boundaryDue : Bool
  /-- The duty-second boundaries handed on, or passed in BACKUP (R3). The model's own count: it tells
  which boundary the elapsed count has passed and the Run-Hour Accounts have not yet taken. -/
  dutyHanded : Nat
  /-- The backup accumulator, 0 to 32,767 (R6). -/
  backupAcc : Nat
  /-- The elapsed count recorded on entry to BACKUP (R6). -/
  backupEntry : Nat
  /-- The timebase state (R19). -/
  state : TbState
  /-- The frequency estimate F in ppb (R19). -/
  freq : Int
  /-- The trim T in ppb (R19). -/
  trim : Int
  /-- The trim remainder in hundredths of a cu (R19). -/
  trimRem : Int
  /-- The outlier run (R19). -/
  outlierRun : Nat
  /-- The first outlier of the chain (R19). -/
  firstOutlier : Option Int
  /-- The lock run (R19). -/
  lockRun : Nat
  /-- Whether LOCKED has been entered since the last cold start or group T reset (R19). -/
  lockHeld : Bool
  /-- The uncertainty in cu (R19). -/
  uncertainty : Nat
  /-- The growth remainder in hundredths of a cu (R19). -/
  growthRem : Nat
  /-- The reported class (R19, R33). -/
  reported : Quality
  /-- The loop exponent k (R19). -/
  loopExp : Nat
  /-- The step threshold S in cu (R19). -/
  stepThreshold : Nat
  /-- The holdover rate H in ppb (R19). -/
  holdRate : Nat
deriving DecidableEq, Repr

/-! ### Reference Input Unit (R7) -/

/-- How far a source is trusted (R7). -/
inductive SourceState where
  | absent | candidate | qualified
deriving DecidableEq, Repr

/-- The source record of one reference input (R7). -/
@[ext] structure Source where
  enable : Bool
  /-- 1 or 2; 1 is followed in preference to 2. -/
  priority : Nat
  /-- The cable delay D in cu. -/
  delay : Nat
  state : SourceState
  /-- The qualification run, 0 to 8. -/
  run : Nat
  /-- The elapsed count at the last accepted pulse. -/
  lastPulse : Option Nat
  /-- The phase error of the last accepted pulse. -/
  lastError : Option Int
  /-- The extra-pulse count, 0 to 255. -/
  extra : Nat
deriving DecidableEq, Repr

/-- The Reference Input Unit: both source records and the selection (R7, R11). -/
@[ext] structure Riu where
  refA : Source
  refB : Source
  selection : Option SourceId
deriving DecidableEq, Repr

/-! ### Trip Input Unit (chapter 3) -/

/-- The class of a trip input (R39). -/
inductive TripClass where
  | electrical | mechanical | hydraulic | external
deriving DecidableEq, Repr

/-- The five settings of a trip input (R39). -/
@[ext] structure InputSettings where
  enable : Bool
  cls : TripClass
  stops : Bool
  /-- 0 to 3, 0 first. -/
  priority : Nat
  /-- The filter exponent n, 0 to 5. -/
  exponent : Nat
deriving DecidableEq, Repr

/-- The filter states with the pending stamp, which is present exactly in the two pending states, and
the test item that travels with a pending assertion (R41, R47). -/
inductive FilterState where
  | idle
  | pendingAssert (stamp : Stamp) (test : Bool)
  | asserted
  | pendingRelease (stamp : Stamp)
deriving DecidableEq, Repr

/-- One trip input: configuration, settings in force, filter record and contact level (R38 to R41). -/
@[ext] structure TripInput where
  config : InputSettings
  inForce : InputSettings
  filter : FilterState
  /-- The chatter count, 0 to 255. -/
  chatter : Nat
  /-- The present level at the contact: `true` is closed (R38). -/
  closed : Bool
deriving DecidableEq, Repr

/-- The Trip Input Unit: thirty-two inputs and the units' test modes (R38, R47). -/
@[ext] structure Tiu where
  inputs : PerUnit (PerInput TripInput)
  testMode : PerUnit Bool
deriving DecidableEq, Repr

/-! ### Unit modes, used by the case table and the units -/

/-- The unit modes (R104). -/
inductive UnitMode where
  | stopped | spinning | generating | pumping | tripped
deriving DecidableEq, Repr

/-! ### Case Table (chapter 4) -/

/-- The states of a case (R56). -/
inductive CaseState where
  | active | activeAck | latched | acknowledged | cleared
deriving DecidableEq, Repr

/-- A trip case (R56). -/
@[ext] structure Case where
  /-- The case number, 1 to 65,535. -/
  number : Nat
  unit : UnitId
  input : InputId
  cls : TripClass
  state : CaseState
  /-- The TEST mark (R57). -/
  test : Bool
  /-- The FIRST_OUT mark (R57). -/
  firstOut : Bool
  /-- The PROVISIONAL mark (R57). -/
  provisional : Bool
  /-- The RELEASE_UNOBSERVED mark (R57). -/
  releaseUnobserved : Bool
  assertStamp : Stamp
  releaseStamp : Option Stamp
  /-- The repeat count, 0 to 255. -/
  repeats : Nat
  lastRetrip : Option Stamp
  groupId : Nat
  openedIn : Nat
  /-- The handover count, 0 to 255. -/
  handovers : Nat
  ackBadge : Option Nat
  clearBadge : Option Nat
  /-- The run snapshot's unit mode (R62). -/
  snapMode : UnitMode
  /-- The run snapshot's GEN lifetime value (R62). -/
  snapGen : Nat
deriving DecidableEq, Repr

/-- A unit's case set: four slots, INVALID (absent) or holding a case, and the pseudo-LRU bits (R55, R70). -/
@[ext] structure CaseSet where
  slots : PerSlot (Option Case)
  b0 : Bool
  b1 : Bool
  b2 : Bool
deriving DecidableEq, Repr

/-- A unit's overflow record (R71). -/
@[ext] structure Overflow where
  count : Nat
  first : Option Stamp
  last : Option Stamp
  seen : PerInput Bool
deriving DecidableEq, Repr

/-- The Case Table (R55). -/
@[ext] structure Ct where
  sets : PerUnit CaseSet
  overflow : PerUnit Overflow
  /-- The case number counter (R61). -/
  counter : Nat
deriving DecidableEq, Repr

/-! ### Trip Group Resolver (chapter 5) -/

/-- A member entry of a group (R80). -/
@[ext] structure Member where
  number : Nat
  input : InputId
  edge : Stamp
  priority : Nat
deriving DecidableEq, Repr

/-- An open-group record (R80). -/
@[ext] structure OpenGroup where
  id : Nat
  earliest : Stamp
  firstOut : Nat
  window : Nat
  maxFilter : Nat
  closeAt : Nat
  members : List Member
deriving DecidableEq, Repr

/-- The reasons a group closes for (R81). -/
inductive CloseReason where
  | expired | superseded | warmStart
deriving DecidableEq, Repr

/-- A last-closed summary (R81). The members' priorities are kept with their entries and are not reported. -/
@[ext] structure ClosedGroup where
  id : Nat
  earliest : Stamp
  firstOut : Nat
  firstOutInput : InputId
  members : List Member
  reason : CloseReason
  closedAt : Stamp
deriving DecidableEq, Repr

/-- The Trip Group Resolver (R80 to R83). -/
@[ext] structure Tgr where
  groups : PerUnit (Option OpenGroup)
  closed : PerUnit (Option ClosedGroup)
  /-- The exponent n of the window setting, 4 to 10 (R82). -/
  windowExp : Nat
  /-- The group id counter (R83). -/
  counter : Nat
deriving DecidableEq, Repr

/-! ### Unit State Monitor (chapter 6) -/

/-- The speed states (R100). -/
inductive SpeedState where
  | unknown | standstill | rolling | atSpeed
deriving DecidableEq, Repr

/-- A breaker or pump-mode contact; `true` is closed (R103). -/
@[ext] structure Contact where
  /-- The present level at the contact. -/
  level : Bool
  /-- The stable level. -/
  stable : Bool
  /-- The elapsed count of the edge that began the pending change. -/
  pending : Option Nat
deriving DecidableEq, Repr

/-- The four band settings in tenths of a percent (R100). -/
@[ext] structure Bands where
  rollingOn : Nat
  rollingOff : Nat
  atSpeedOn : Nat
  atSpeedOff : Nat
deriving DecidableEq, Repr

/-- The running state of one unit (R96 to R105). -/
@[ext] structure UnitRecord where
  speed : SpeedState
  /-- The start-armed flag (R102). -/
  armed : Bool
  /-- The SIGNAL_LOST flag (R99). -/
  lost : Bool
  /-- The signal-loss run, 0 to 2 (R99). -/
  lossRun : Nat
  lastRaw : Option Nat
  lastCorrected : Option Nat
  lastSpeed : Option Nat
  breaker : Contact
  pumpMode : Contact
  /-- The TRIPPED flag (R105). -/
  tripped : Bool
  /-- The case-held indicator (R105). -/
  caseHeld : Bool
  /-- The unit mode in force (R104). -/
  mode : UnitMode
  /-- The sign of the offset calibration: `true` is minus (R97). -/
  calMinus : Bool
  /-- The magnitude of the offset calibration, 0 to 7 (R97). -/
  calMagnitude : Nat
  bands : Bands
deriving DecidableEq, Repr

/-- The Unit State Monitor (R96, R107). -/
@[ext] structure Usm where
  units : PerUnit UnitRecord
  /-- The channel whose conversion completes next (R96). -/
  scan : Channel
  /-- The last supply reading in tenths of a volt (R107). -/
  supplyReading : Option Nat
deriving DecidableEq, Repr

/-! ### Run-Hour Accounts (chapter 7) -/

/-- The change during write (R119). -/
inductive WriteChange where
  | none | seconds | queue
deriving DecidableEq, Repr

/-- The persistence state of an account (R119). The change during write exists only in WRITING, and an
account whose load is outstanding has a pending amount in place of a persistence state (R129). -/
inductive Persistence where
  | clean
  | dirty
  | queued
  | writing (change : WriteChange)
  | loading (pending : Nat)
deriving DecidableEq, Repr

/-- A run-hour account's working copy (R113). -/
@[ext] structure Account where
  lifetime : Nat
  interval : Nat
  /-- The preset stamp: seconds of the station time. -/
  preset : Option Nat
  retired : Bool
  suspect : Bool
  saturated : Bool
  status : Persistence
deriving DecidableEq, Repr

/-- The Run-Hour Accounts: forty accounts and forty shift tallies (R113, R118). -/
@[ext] structure Rha where
  accounts : PerUnit (PerKind Account)
  tallies : PerUnit (PerKind Nat)
deriving DecidableEq, Repr

/-! ### Account Store Controller (chapter 8) -/

/-- What a store record holds: an account or the format mark (R132). -/
inductive StoreItem where
  | account (u : UnitId) (k : Kind)
  | mark
deriving DecidableEq, Repr

/-- The phases of a store transaction (R132). -/
inductive Phase where
  | waitGrant | transfer | readBack
deriving DecidableEq, Repr

/-- What a store transaction is made for: a queue entry, a commit, a blank-store initialization or a
load's read (R135 to R145). -/
inductive Origin where
  | queue | commit | init | read
deriving DecidableEq, Repr

/-- The record in flight (R132, R134 to R136). -/
@[ext] structure Transaction where
  item : StoreItem
  origin : Origin
  phase : Phase
  /-- The elapsed count at which the grant wait expires (R134). -/
  grantBy : Nat
  /-- The elapsed count at which the wait for the write cycle expires; absent until the last byte has
  been sent (R135). -/
  cycleBy : Option Nat
  /-- The sixteen bytes sent; empty for a read. -/
  record : List Byte
deriving DecidableEq, Repr

/-- The stages of a load: a group A reset that waits for a record in flight (R146), the read of the
format mark, the reads of the records (R144) and the writes of a blank store (R145). -/
inductive LoadStage where
  | afterWrite
  | readMark
  /-- `second`: the first read of the record was bad. -/
  | readRecord (second : Bool)
  /-- `attempt`: 1 to 3. -/
  | initRecord (attempt : Nat)
  | initMark (attempt : Nat)
deriving DecidableEq, Repr

/-- A load in progress (R144 to R146). -/
@[ext] structure Load where
  stage : LoadStage
  /-- Reads of the present record that have ended in a row without a record. -/
  misses : Nat
  /-- STORE_FAULT has been raised for reads of this load. -/
  told : Bool
  /-- A record of this initialization has exhausted its attempts. -/
  initFailed : Bool
deriving DecidableEq, Repr

/-- The activity of the controller (R132). -/
inductive Activity where
  | idle
  | committing
  | loading (l : Load)
deriving DecidableEq, Repr

/-- The reasons a transaction fails for (R150). -/
inductive FailReason where
  | grantTimeout | grantLost | notReady | mismatch
deriving DecidableEq, Repr

/-- The last commit (R132). -/
@[ext] structure LastCommit where
  /-- `true` is done, `false` is failed. -/
  done : Bool
  written : Nat
  failed : Nat
  stamp : Stamp
deriving DecidableEq, Repr

/-- The last failure (R132). -/
@[ext] structure LastFailure where
  item : StoreItem
  reason : FailReason
  stamp : Stamp
deriving DecidableEq, Repr

/-- The Account Store Controller (R132). -/
@[ext] structure Asc where
  /-- The write-through queue, oldest first, 0 to 16 accounts. -/
  queue : List (UnitId × Kind)
  activity : Activity
  /-- The commit cursor, 0 to 40. -/
  cursor : Nat
  /-- The record at the cursor has ended, so the walk goes on from the position after it (R140). -/
  cursorTaken : Bool
  /-- Commit written, 0 to 41. -/
  written : Nat
  recommit : Bool
  inFlight : Option Transaction
  /-- The store mode: `true` is FROZEN. -/
  frozen : Bool
  freezePending : Bool
  /-- The commit period exponent, 0 to 6. -/
  periodExp : Nat
  /-- The elapsed count at which the period timer expires. -/
  periodBy : Nat
  /-- The failed-commit count, 0 to 255. -/
  failedCommits : Nat
  fault : Bool
  formatPending : Bool
  lastCommit : Option LastCommit
  lastFailure : Option LastFailure
  /-- The bus request line (R134). -/
  busRequest : Bool
deriving DecidableEq, Repr

/-! ### Shift Controller (chapter 9) -/

/-- The states of the shift (R151). -/
inductive ShiftState where
  | noShift | onShift | window | offered
deriving DecidableEq, Repr

/-- An offer: the offering badge and the offer stamp (R151). -/
@[ext] structure Offer where
  badge : Nat
  stamp : Stamp
deriving DecidableEq, Repr

/-- The previous-shift summary (R164). -/
@[ext] structure ShiftSummary where
  number : Nat
  team : Option Nat
  duty : Option Nat
  start : Option Stamp
  stop : Stamp
  tallies : PerUnit (PerKind Nat)
  lapses : Nat
  overdue : Bool
  /-- `true` is ended by ACCEPT, `false` by SIGN_ON. -/
  byAccept : Bool
deriving DecidableEq, Repr

/-- The Shift Controller: the shift context, the roster and the timing settings (R151 to R153). -/
@[ext] structure Shc where
  number : Nat
  state : ShiftState
  team : Option Nat
  duty : Option Nat
  start : Option Stamp
  /-- The window boundary, a minute of the day. -/
  window : Option Nat
  due : Bool
  overdue : Bool
  /-- The skip boundary, a minute of the day. -/
  skip : Option Nat
  offer : Option Offer
  /-- The offer version, 0 to 65,535. -/
  version : Nat
  /-- The presence timer: its expiry, absent when it is stopped. -/
  presenceBy : Option Nat
  alarm : Bool
  /-- The presence lapse count, 0 to 255. -/
  lapses : Nat
  /-- The last time seen: seconds of the day. -/
  seenSeconds : Nat
  /-- The last time seen: fraction. -/
  seenFrac : Nat
  previous : Option ShiftSummary
  roster : List Nat
  lead : Nat
  grace : Nat
  /-- The exponent n of the presence interval, absent when it is off. -/
  presenceExp : Option Nat
  /-- The presence mode: `true` is AUTO. -/
  auto : Bool
deriving DecidableEq, Repr

/-! ### Link and Notice Unit (chapter 10) -/

/-- The receiver (R174). -/
inductive Rx where
  /-- The line has been silent for 2 ms: the next byte begins a frame. -/
  | silent
  /-- Bytes that belong to no frame of this part's: silence is awaited. -/
  | ignoring
  /-- A frame is being received. -/
  | frame (bytes : List Byte) (overlong framingError : Bool)
deriving DecidableEq, Repr

/-- The unit sets of the five notices that carry one (R179). -/
@[ext] structure UnitSets where
  newCase : PerUnit Bool
  firstOutFinal : PerUnit Bool
  overflow : PerUnit Bool
  speedSignalLost : PerUnit Bool
  speedSignalBack : PerUnit Bool
deriving DecidableEq, Repr

/-- The handover lamp (R157). -/
inductive Lamp where
  | dark | steady | flashing
deriving DecidableEq, Repr

/-- The Link and Notice Unit (R173 to R182). -/
@[ext] structure Lnu where
  /-- The link address, 0 to 31. -/
  address : Nat
  /-- The link rate: `true` is 115,200 baud. -/
  fast : Bool
  /-- ANSWERING; READY otherwise (R175). -/
  answering : Bool
  rx : Rx
  /-- The reply frame being sent, empty when there is none (R175). -/
  tx : List Byte
  /-- The driver enable output (R175). -/
  driver : Bool
  /-- The link error count, 0 to 65,535 (R174). -/
  errors : Nat
  flags : PerNotice Bool
  unitSets : UnitSets
  /-- The masks: `true` is masked (R180). -/
  masks : PerNotice Bool
  /-- The attention line: `true` is asserted, pulled low (R180). -/
  attention : Bool
  /-- The case lamp output (R182). -/
  caseLamp : Bool
  /-- What drives the handover lamp output (R182). -/
  handoverLamp : Lamp
  /-- The presence alarm line: `true` is driven (R182). -/
  presenceLine : Bool
deriving DecidableEq, Repr

/-! ### Supply Monitor (chapter 11) -/

/-- The supply states (R192). -/
inductive Supply where
  | run | holdup | backup
deriving DecidableEq, Repr

/-- The Supply Monitor (R192, R196). -/
@[ext] structure Spm where
  supply : Supply
  /-- The level at PFI: `true` is asserted. -/
  pfiLevel : Bool
  /-- The stable level of PFI. -/
  pfiStable : Bool
  /-- The elapsed count of the edge that began the pending change of PFI. -/
  pfiPending : Option Nat
  /-- The low-supply run, 0 to 2. -/
  lowRun : Nat
  /-- The restore timer: its expiry, absent when it is stopped. -/
  restoreBy : Option Nat
  /-- The retention record: the backed-up domain has been held (R196). -/
  retained : Bool
deriving DecidableEq, Repr

/-! ### The machine -/

/-- The state of the part, and the steps that wait to be taken, first in, first out. -/
@[ext]
structure State where
  tb : Timebase
  riu : Riu
  tiu : Tiu
  ct : Ct
  tgr : Tgr
  usm : Usm
  rha : Rha
  asc : Asc
  shc : Shc
  lnu : Lnu
  spm : Spm
  /-- The steps waiting, the front first. The model's own field. -/
  pending : List Instr
deriving DecidableEq, Repr

/-- Why the machine would stop with a fault. There is no reason: the manual gives every step of the
part an effect in every state, so no meaning faults. -/
inductive Fault where
deriving DecidableEq, Repr

/-- Why an instruction is refused. -/
inductive Refusal where
  /-- Raised by `exec` alone, for an instruction the model gives no meaning; no arm of this model raises
  it. Safe: nothing can be proved of a state that is not reached. -/
  | notModelled (mnemonic : String)
deriving DecidableEq, Repr

/-! ### Reset: the part just after a cold start at first power (R198) -/

/-- The defaults of a trip input's settings (R39, R52). -/
def defaultSettings : InputSettings :=
  { enable := true, cls := .external, stops := true, priority := 3, exponent := 2 }

/-- The default bands (R100). -/
def defaultBands : Bands := { rollingOn := 30, rollingOff := 20, atSpeedOn := 950, atSpeedOff := 900 }

/-- A source record after a cold start (R16). -/
def coldSource (priority : Nat) : Source :=
  { enable := true, priority := priority, delay := 0, state := .absent, run := 0, lastPulse := none,
    lastError := none, extra := 0 }

/-- A trip input after a cold start that finds its contact open (R52). -/
def coldInput : TripInput :=
  { config := defaultSettings, inForce := defaultSettings, filter := .idle, chatter := 0, closed := false }

/-- A case set after a cold start (R79). -/
def emptySet : CaseSet := { slots := PerSlot.fill none, b0 := false, b1 := false, b2 := false }

/-- An empty overflow record (R71). -/
def emptyOverflow : Overflow := { count := 0, first := none, last := none, seen := PerInput.fill false }

/-- A contact found open at a start (R103). -/
def openContact : Contact := { level := false, stable := false, pending := none }

/-- A unit after a cold start that finds both its contacts open (R112). -/
def coldUnit : UnitRecord :=
  { speed := .unknown, armed := false, lost := false, lossRun := 0, lastRaw := none,
    lastCorrected := none, lastSpeed := none, breaker := openContact, pumpMode := openContact,
    tripped := false, caseHeld := false, mode := .stopped, calMinus := false, calMagnitude := 0,
    bands := defaultBands }

/-- An account at a cold start: its load is outstanding (R131). The values it holds until the load delivers its
record are not given; DESIGN CHOICE zero (notes/assumptions/2.md), unsafe. -/
def coldAccount : Account :=
  { lifetime := 0, interval := 0, preset := none, retired := false, suspect := false, saturated := false,
    status := .loading 0 }

/-- The read of the format mark with which a load begins (R134, R136, R144). -/
def markRead (now : Nat) : Transaction :=
  { item := .mark, origin := .read, phase := .waitGrant, grantBy := now + 500000, cycleBy := none, record := [] }

/-- No unit in any unit set (R179). -/
def emptyUnitSets : UnitSets :=
  { newCase := PerUnit.fill false, firstOutFinal := PerUnit.fill false, overflow := PerUnit.fill false,
    speedSignalLost := PerUnit.fill false, speedSignalBack := PerUnit.fill false }

/-- The machine right after reset: the cold start at first power, with every contact found open and PFI
found released (R16, R37, R52, R79, R93, R112, R131, R144, R172, R180, R198). The levels at the contacts
and at PFI and the straps are the outside world's; DESIGN CHOICE (notes/assumptions/1.md), unsafe. -/
def State.reset : State where
  tb :=
    { seconds := 0, frac := 0, elapsed := 0, timeSet := false, holdBack := none, boundaryDue := false, dutyHanded := 0,
      backupAcc := 0, backupEntry := 0, state := .free, freq := 0, trim := 0, trimRem := 0,
      outlierRun := 0, firstOutlier := none, lockRun := 0, lockHeld := false,
      uncertainty := 4000000000, growthRem := 0, reported := .u, loopExp := 5,
      stepThreshold := 10000, holdRate := 50 }
  riu := { refA := coldSource 1, refB := coldSource 2, selection := none }
  tiu := { inputs := PerUnit.fill (PerInput.fill coldInput), testMode := PerUnit.fill false }
  ct := { sets := PerUnit.fill emptySet, overflow := PerUnit.fill emptyOverflow, counter := 1 }
  tgr := { groups := PerUnit.fill none, closed := PerUnit.fill none, windowExp := 8, counter := 1 }
  usm := { units := PerUnit.fill coldUnit, scan := .speed .u1, supplyReading := none }
  rha :=
    { accounts := PerUnit.fill (PerKind.fill coldAccount), tallies := PerUnit.fill (PerKind.fill 0) }
  asc :=
    { queue := [],
      activity := .loading { stage := .readMark, misses := 0, told := false, initFailed := false },
      cursor := 0, cursorTaken := false, written := 0, recommit := false, inFlight := some (markRead 0),
      frozen := false, freezePending := false, periodExp := 4, periodBy := 9600000000,
      failedCommits := 0, fault := false, formatPending := false, lastCommit := none,
      lastFailure := none, busRequest := true }
  shc :=
    { number := 0, state := .noShift, team := none, duty := none, start := none, window := none,
      due := false, overdue := false, skip := none, offer := none, version := 0, presenceBy := none,
      alarm := false, lapses := 0, seenSeconds := 0, seenFrac := 0, previous := none, roster := [],
      lead := 15, grace := 10, presenceExp := some 5, auto := false }
  lnu :=
    { address := Config.strapAddress, fast := Config.strapFast, answering := false, rx := .silent,
      tx := [], driver := false, errors := 0,
      flags := { PerNotice.fill false with coldStart := true }, unitSets := emptyUnitSets,
      masks := PerNotice.fill true, attention := false, caseLamp := false, handoverLamp := .dark,
      presenceLine := false }
  spm :=
    { supply := .run, pfiLevel := false, pfiStable := false, pfiPending := none, lowRun := 0,
      restoreBy := none, retained := true }
  pending := []

end Sys2Proof.Machine
end

