-- ==== Sys2Proof/Machine/Bytes.lean ====
section
/-! DEFINITION. Byte order, the two checks and the records that cross the part's boundary: CRC-16
(R185), CRC-8 (R133), the store record and the format mark (R188). -/

namespace Sys2Proof.Machine

/-- A number in `width` bytes, most significant byte first (R185). -/
def toBytes : Nat → Nat → List Byte
  | 0, _ => []
  | width + 1, n => BitVec.ofNat 8 (n / 256 ^ width) :: toBytes width n

/-- A signed number in `width` bytes, two's complement, most significant byte first (R185). -/
def signedBytes (width : Nat) (x : Int) : List Byte :=
  toBytes width (x % ((256 : Int) ^ width)).toNat

/-- The number a list of bytes holds, most significant byte first (R185). -/
def fromBytes (bytes : List Byte) : Nat := bytes.foldl (fun n b => n * 256 + b.toNat) 0

/-- The number in `width` bytes from position `at_` (R190). -/
def field (bytes : List Byte) (pos width : Nat) : Nat := fromBytes ((bytes.drop pos).take width)

/-- One bit as a number. -/
def bit (b : Bool) (place : Nat) : Nat := if b then 2 ^ place else 0

/-- A byte from its bits, bit 0 first. -/
def packBits : List Bool → Nat
  | [] => 0
  | b :: bs => b.toNat + 2 * packBits bs

/-- Bit `i` of a number. -/
def testBit (n i : Nat) : Bool := n / 2 ^ i % 2 == 1

/-! ### The two cyclic checks -/

/-- Shifts `n` bits of a CRC-16 with the polynomial 0x1021 (R185). -/
def crc16Shift : Nat → BitVec 16 → BitVec 16
  | 0, c => c
  | n + 1, c => crc16Shift n (if c.msb then (c <<< 1) ^^^ 0x1021#16 else c <<< 1)

/-- The CRC-16 of a list of bytes: initial value 0xFFFF, most significant bit first, no final inversion
(R185). -/
def crc16 (bytes : List Byte) : BitVec 16 :=
  bytes.foldl (fun c b => crc16Shift 8 (c ^^^ ((b.setWidth 16 : BitVec 16) <<< (8 : Nat)))) 0xFFFF#16

/-- Shifts `n` bits of a CRC-8 with the generator x^8 + x^2 + x + 1 (R133). -/
def crc8Shift : Nat → BitVec 8 → BitVec 8
  | 0, c => c
  | n + 1, c => crc8Shift n (if c.msb then (c <<< 1) ^^^ 0x07#8 else c <<< 1)

/-- The CRC-8 of a list of bytes: initial value 0xFF, most significant bit first, no final inversion
(R133). -/
def crc8 (bytes : List Byte) : BitVec 8 := bytes.foldl (fun c b => crc8Shift 8 (c ^^^ b)) 0xFF#8

/-! ### The store record (R133, R188) -/

/-- The preset seconds that stand for an absent preset stamp (R133). -/
def absentPreset : Nat := 4294967295

/-- The flags byte: bit 0 RETIRED, bit 1 SUSPECT, bit 2 SATURATED (R187). -/
def flagsByte (a : Account) : Nat := packBits [a.retired, a.suspect, a.saturated]

/-- The store record of an account (R188). -/
def storeRecord (u : UnitId) (k : Kind) (a : Account) : List Byte :=
  let body := toBytes 1 (unitNumber u * 16 + kindNumber k) ++ toBytes 1 (flagsByte a) ++ toBytes 1 0
    ++ toBytes 4 a.lifetime ++ toBytes 4 a.interval ++ toBytes 4 (a.preset.getD absentPreset)
  body ++ [crc8 body]

/-- The store record of a blank store's account: zeroes, an absent preset stamp and no flags (R145). -/
def blankRecord (u : UnitId) (k : Kind) : List Byte :=
  storeRecord u k
    { lifetime := 0, interval := 0, preset := none, retired := false, suspect := false,
      saturated := false, status := .clean }

/-- The format mark's fixed content (R188). -/
def formatMark : List Byte :=
  [0x4A#8, 0x54#8, 0x34#8, 0x38#8, 0x41#8, 0x43#8, 0x43#8, 0x54#8,
   0xA5#8, 0xA5#8, 0xA5#8, 0xA5#8, 0xA5#8, 0xA5#8, 0xA5#8, 0xA5#8]

/-- The store address of an item (R133, R188). -/
def storeAddress : StoreItem → Nat
  | .account u k => 16 * walkPosition u k
  | .mark => 640

/-- The two address bytes of an item's transaction, most significant byte first (R188). -/
def addressBytes (item : StoreItem) : List Byte := toBytes 2 (storeAddress item)

/-- A record read for an account is good: its CRC-8 agrees, its unit and kind are those of its address,
its pad is 0 and its flags name no flag but the three (R133). -/
def recordGood (u : UnitId) (k : Kind) (bytes : List Byte) : Bool :=
  bytes.length == 16
    && [crc8 (bytes.take 15)] == bytes.drop 15
    && field bytes 0 1 == unitNumber u * 16 + kindNumber k
    && field bytes 2 1 == 0
    && decide (field bytes 1 1 < 8)

/-- The account a record holds, as read: a flags byte that names other flags gives the three it names
(R144). -/
def recordAccount (bytes : List Byte) (status : Persistence) : Account :=
  let flags := field bytes 1 1
  let preset := field bytes 11 4
  { lifetime := field bytes 3 4
    interval := field bytes 7 4
    preset := if preset = absentPreset then none else some preset
    retired := testBit flags 0
    suspect := testBit flags 1
    saturated := testBit flags 2
    status := status }

end Sys2Proof.Machine
end

