-- ==== Sys2Proof/Machine/Ops.lean ====
section
/-! DEFINITION. The named operations every block uses: saturating counts, the elapsed count, the
quality class and stamps. -/

namespace Sys2Proof.Machine

/-- The outcome of every step of the part: a next state, no fault and no refusal. -/
abbrev Result := Host.Outcome State Fault Refusal

/-- Adds one to a count that stays at its limit. -/
def bump (limit n : Nat) : Nat := if n < limit then n + 1 else n

/-- Adds an amount to a value that saturates at a limit. -/
def addUpTo (limit n amount : Nat) : Nat := min (n + amount) limit

/-- The limit of a 32-bit value (R113, R118). -/
abbrev limit32 : Nat := 4294967295

/-- The elapsed count after `n` more cu; it stays at 2^62 (R2). -/
def advanceElapsed (e n : Nat) : Nat := addUpTo 4611686018427387904 e n

/-- The seconds after an increment; the increment after 4,294,967,295 gives 0 (R1). -/
def nextSecond (n : Nat) : Nat := (n + 1) % 4294967296

/-- The seconds before a decrement; they wrap from 0 to 4,294,967,295 (R25). -/
def prevSecond (n : Nat) : Nat := (n + 4294967295) % 4294967296

/-- The limit of the uncertainty in cu (R19, R29). -/
abbrev maxUncertainty : Nat := 4000000000

/-- The part is in RUN or HOLDUP, so its main domain works (R192). -/
def State.powered (s : State) : Bool := s.spm.supply != .backup

/-- The quality class that the time-set flag and the uncertainty give (R32). -/
def Timebase.quality (t : Timebase) : Quality :=
  if t.timeSet = false then .u
  else if t.uncertainty ≤ 10 then .a
  else if t.uncertainty ≤ 1000 then .b
  else if t.uncertainty ≤ 100000 then .c
  else .d

/-- The rank of a class among A to D, best first; absent for U (R33). -/
def qualityRank : Quality → Option Nat
  | .u => none
  | .a => some 0 | .b => some 1 | .c => some 2 | .d => some 3

/-- The new class is worse than the old one, both being among A to D (R33). -/
def isDrop (old new : Quality) : Bool :=
  match qualityRank old, qualityRank new with
  | some o, some n => decide (o < n)
  | _, _ => false

/-- The station time and the elapsed count `n` cu later (R1, R2). -/
def Timebase.advanced (t : Timebase) (n : Nat) : Timebase :=
  let x := t.frac + n
  { t with
    seconds := if 9999999 < x then nextSecond t.seconds else t.seconds
    frac := if 9999999 < x then x - 10000000 else x
    elapsed := advanceElapsed t.elapsed n }

/-- Applied, from the trim and the trim remainder (R23). -/
def Timebase.applied (t : Timebase) : Int := (t.trimRem + t.trim).tdiv 100

/-- The Timebase with the counts that the present period reads (R5). While a local second boundary is due they
are those after its insertion; in a hold-back, and at every other instant, they are the counts as they stand.
The insertion is that of the trim and the remainder as they stand, so an event of the instant that changes them (a pulse,
a loss of the selection, a group T reset, a warm start) changes the counts read after it, which may then be fewer; the
stored elapsed count does not fall (R2). DESIGN CHOICE (notes/assumptions/31.md). -/
def Timebase.present (t : Timebase) : Timebase :=
  if t.boundaryDue = true ∧ 0 ≤ t.applied then t.advanced (1 + t.applied.toNat) else t

/-- The stamp of the present instant (R5). -/
def Timebase.stamp (t : Timebase) : Stamp :=
  { seconds := t.present.seconds, frac := t.present.frac, quality := t.quality, elapsed := t.present.elapsed }

/-- The stamp of the present instant (R5). -/
def State.now (s : State) : Stamp := s.tb.stamp

/-- The elapsed count of the present instant (R2, R5). -/
def State.elapsed (s : State) : Nat := s.tb.present.elapsed

/-- The account of a unit and kind. -/
def State.account (s : State) (u : UnitId) (k : Kind) : Account := (s.rha.accounts.get u).get k

/-- Writes the account of a unit and kind. -/
def State.setAccount (s : State) (u : UnitId) (k : Kind) (a : Account) : State :=
  { s with rha := { s.rha with
      accounts := s.rha.accounts.set u ((s.rha.accounts.get u).set k a) } }

/-- The shift tally of a unit and kind. -/
def State.tally (s : State) (u : UnitId) (k : Kind) : Nat := (s.rha.tallies.get u).get k

/-- Writes the shift tally of a unit and kind. -/
def State.setTally (s : State) (u : UnitId) (k : Kind) (n : Nat) : State :=
  { s with rha := { s.rha with
      tallies := s.rha.tallies.set u ((s.rha.tallies.get u).set k n) } }

/-- Writes an account's persistence state. -/
def State.setStatus (s : State) (u : UnitId) (k : Kind) (p : Persistence) : State :=
  s.setAccount u k { s.account u k with status := p }

/-- The running record of a unit. -/
def State.unit (s : State) (u : UnitId) : UnitRecord := s.usm.units.get u

/-- Writes the running record of a unit. -/
def State.setUnit (s : State) (u : UnitId) (r : UnitRecord) : State :=
  { s with usm := { s.usm with units := s.usm.units.set u r } }

/-- The record of a trip input. -/
def State.input (s : State) (u : UnitId) (i : InputId) : TripInput := (s.tiu.inputs.get u).get i

/-- Writes the record of a trip input. -/
def State.setInput (s : State) (u : UnitId) (i : InputId) (t : TripInput) : State :=
  { s with tiu := { s.tiu with
      inputs := s.tiu.inputs.set u ((s.tiu.inputs.get u).set i t) } }

/-- The source record of a reference input. -/
def Riu.source (r : Riu) : SourceId → Source
  | .refA => r.refA
  | .refB => r.refB

/-- Writes the source record of a reference input. -/
def Riu.setSource (r : Riu) (x : SourceId) (v : Source) : Riu :=
  match x with
  | .refA => { r with refA := v }
  | .refB => { r with refB := v }

/-- The other reference input. -/
def otherSource : SourceId → SourceId
  | .refA => .refB
  | .refB => .refA

/-- An expiry has been reached by the elapsed count (R2). -/
def State.reached (s : State) (expiry : Nat) : Bool := decide (expiry ≤ s.elapsed)

/-- Sorts a list by a key, ascending and stable. -/
def insertBy {α : Type} (key : α → Nat) (x : α) : List α → List α
  | [] => [x]
  | y :: ys => if key x < key y then x :: y :: ys else y :: insertBy key x ys

/-- Sorts a list by a key, ascending and stable. -/
def sortBy {α : Type} (key : α → Nat) (l : List α) : List α :=
  l.foldl (fun acc x => insertBy key x acc) []

end Sys2Proof.Machine
end

