-- ==== Sys2Proof/Machine/Operands.lean ====
section
/-! DEFINITION. The forms of a request's fields: keys, codes with two values and clamped settings
(R176, R177, R185), and the forms of stamps and options in a reply (R185). -/

namespace Sys2Proof.Machine

/-- A code field of two values, 0 and 1; any other value has no meaning (R176). -/
def flagOf? : Nat → Option Bool
  | 0 => some false
  | 1 => some true
  | _ => none

/-- The class a code names (R53). -/
def classOf? : Nat → Option TripClass
  | 0 => some .electrical
  | 1 => some .mechanical
  | 2 => some .hydraulic
  | 3 => some .external
  | _ => none

/-- The source a code names, 1 for REFA and 2 for REFB (R12). -/
def sourceOf? : Nat → Option SourceId
  | 1 => some .refA
  | 2 => some .refB
  | _ => none

/-- A setting brought to the nearest end of its range (R177). -/
def clamp (low high n : Nat) : Nat := max low (min n high)

/-! ### Codes of a reply (R185, R191) -/

def qualityCode : Quality → Nat
  | .u => 0 | .a => 1 | .b => 2 | .c => 3 | .d => 4

def classCode : TripClass → Nat
  | .electrical => 0 | .mechanical => 1 | .hydraulic => 2 | .external => 3

def caseStateCode : CaseState → Nat
  | .active => 0 | .activeAck => 1 | .latched => 2 | .acknowledged => 3 | .cleared => 4

def modeCode : UnitMode → Nat
  | .stopped => 0 | .spinning => 1 | .generating => 2 | .pumping => 3 | .tripped => 4

def tbStateCode : TbState → Nat
  | .free => 0 | .acquire => 1 | .locked => 2 | .holdover => 3

def sourceStateCode : SourceState → Nat
  | .absent => 0 | .candidate => 1 | .qualified => 2

def selectionCode : Option SourceId → Nat
  | none => 0 | some .refA => 1 | some .refB => 2

def speedCode : SpeedState → Nat
  | .unknown => 0 | .standstill => 1 | .rolling => 2 | .atSpeed => 3

def filterCode : FilterState → Nat
  | .idle => 0 | .pendingAssert _ _ => 1 | .asserted => 2 | .pendingRelease _ => 3

def shiftStateCode : ShiftState → Nat
  | .noShift => 0 | .onShift => 1 | .window => 2 | .offered => 3

def activityCode : Activity → Nat
  | .idle => 0 | .committing => 1 | .loading _ => 2

def phaseCode : Phase → Nat
  | .waitGrant => 0 | .transfer => 1 | .readBack => 2

def failReasonCode : FailReason → Nat
  | .grantTimeout => 0 | .grantLost => 1 | .notReady => 2 | .mismatch => 3

def closeReasonCode : CloseReason → Nat
  | .expired => 0 | .superseded => 1 | .warmStart => 2

/-- The code of a persistence state; an account whose load is outstanding has none and is answered no
READ_ACCOUNT (R129), so its code is never sent. -/
def persistenceCode : Persistence → Nat
  | .clean => 0 | .dirty => 1 | .queued => 2 | .writing _ => 3 | .loading _ => 0

/-! ### Stamps and options in a reply (R185, R191) -/

/-- A full stamp, seventeen bytes. -/
def fullStamp (t : Stamp) : List Byte :=
  toBytes 4 t.seconds ++ toBytes 4 t.frac ++ toBytes 1 (qualityCode t.quality) ++ toBytes 8 t.elapsed

/-- A date, nine bytes. -/
def date (t : Stamp) : List Byte :=
  toBytes 4 t.seconds ++ toBytes 4 t.frac ++ toBytes 1 (qualityCode t.quality)

/-- Bytes all 0, for an item that is absent. -/
def zeros (width : Nat) : List Byte := List.replicate width 0#8

/-- A full stamp that may be absent. -/
def optStamp : Option Stamp → List Byte
  | some t => fullStamp t
  | none => zeros 17

/-- A date that may be absent. -/
def optDate : Option Stamp → List Byte
  | some t => date t
  | none => zeros 9

/-- A number that may be absent. -/
def optNum (width : Nat) (n : Option Nat) : List Byte := toBytes width (n.getD 0)

/-- A set of units: bit u − 1 for unit u. -/
def unitSetByte (p : PerUnit Bool) : List Byte := toBytes 1 (packBits p.toList)

/-- The shift tallies of all units, 160 bytes. -/
def tallyBytes (p : PerKind Nat) : List Byte := p.toList.flatMap (toBytes 4)

/-- The cu left until an expiry. -/
def remaining (s : State) (expiry : Nat) : Nat := expiry - s.elapsed

end Sys2Proof.Machine
end

