-- ==== Sys2Proof/Machine/Flags.lean ====
section
/-! DEFINITION. The notice flags with their unit sets, the masks and the attention line (R179, R180),
the lamp and alarm outputs (R182), and the quality class with its notice (R33). -/

namespace Sys2Proof.Machine

/-- Some flag is set whose mask is unmasked (R180). -/
def anyUnmasked (flags masks : PerNotice Bool) : Bool :=
  allNotices.any fun n => flags.get n && !masks.get n

/-- Evaluates the attention line (R180). -/
def Lnu.evalAttention (l : Lnu) : Lnu := { l with attention := anyUnmasked l.flags l.masks }

/-- Adds a unit to the unit set of a notice that carries one (R179). -/
def UnitSets.add (x : UnitSets) (n : Notice) (u : UnitId) : UnitSets :=
  match n with
  | .newCase => { x with newCase := x.newCase.set u true }
  | .firstOutFinal => { x with firstOutFinal := x.firstOutFinal.set u true }
  | .overflow => { x with overflow := x.overflow.set u true }
  | .speedSignalLost => { x with speedSignalLost := x.speedSignalLost.set u true }
  | .speedSignalBack => { x with speedSignalBack := x.speedSignalBack.set u true }
  | _ => x

/-- Raises a notice that carries no unit set (R179). -/
def raise (n : Notice) (s : State) : State :=
  { s with lnu := Lnu.evalAttention { s.lnu with flags := s.lnu.flags.set n true } }

/-- Raises a notice for a unit (R179). -/
def raiseFor (n : Notice) (u : UnitId) (s : State) : State :=
  { s with lnu := Lnu.evalAttention { s.lnu with
      flags := s.lnu.flags.set n true, unitSets := s.lnu.unitSets.add n u } }

/-- The flags as bytes 1 to 6 of a READ_NOTICES reply (R189). -/
def noticeBytes (p : PerNotice Bool) : List Byte :=
  noticeCategories.flatMap fun c => toBytes 1 (packBits (c.map p.get))

/-- The overview indications (R179, R189). -/
def overview (p : PerNotice Bool) : Nat := packBits (noticeCategories.map fun c => c.any p.get)

/-- The handover lamp output at the present instant: a flashing lamp is lit in the first half of each
duty second (R182). -/
def handoverLampLit (s : State) : Bool :=
  match s.lnu.handoverLamp with
  | .dark => false
  | .steady => true
  | .flashing => decide (s.elapsed % 10000000 < 5000000)

/-- A slot holds a case that lights the case lamp: ACTIVE or LATCHED and not marked TEST (R74). -/
def lightsLamp : Option Case → Bool
  | some c => !c.test && (c.state == .active || c.state == .latched)
  | none => false

/-- The case lamp's condition: some case lights it (R74). -/
def lampCondition (c : Ct) : Bool := c.sets.toList.any fun x => x.slots.toList.any lightsLamp

/-- The Case Table evaluates the case lamp and hands it to the output (R74, R182). -/
def evalCaseLamp (s : State) : State :=
  { s with lnu := { s.lnu with caseLamp := lampCondition s.ct } }

/-- The handover lamp's condition (R157). -/
def handoverCondition (h : Shc) : Lamp :=
  match h.state with
  | .window | .offered => if h.overdue then .flashing else .steady
  | .noShift | .onShift => .dark

/-- The Shift Controller evaluates the handover lamp (R157, R182). -/
def evalHandoverLamp (s : State) : State :=
  { s with lnu := { s.lnu with handoverLamp := handoverCondition s.shc } }

/-- Switches the presence alarm, and its line with it (R165, R182). -/
def setAlarm (on : Bool) (s : State) : State :=
  { s with shc := { s.shc with alarm := on }, lnu := { s.lnu with presenceLine := on } }

/-- Derives the quality class afresh, raises QUALITY_DROP on a worsening among A to D, and reports the new
class (R33). -/
def evalQuality (s : State) : State :=
  let new := s.tb.quality
  let s' := if isDrop s.tb.reported new then raise .qualityDrop s else s
  { s' with tb := { s'.tb with reported := new } }

end Sys2Proof.Machine
end

