-- ==== Sys2Proof/Machine/StoreOps.lean ====
section
/-! DEFINITION. The shared operations of the Run-Hour Accounts and of the Account Store Controller: the
increment of an account (R114), its persistence state (R120 to R123), the write-through queue (R138), the
choice of the next record (R137), commits (R139 to R141) and loads (R144 to R146). -/

namespace Sys2Proof.Machine

/-! ### Persistence states (R119 to R121) -/

/-- A queue request (R121, R138): the account is appended to the queue and becomes QUEUED, is merged with
its entry, or becomes DIRTY with QUEUE_FULL raised. -/
def requestQueue (u : UnitId) (k : Kind) (s : State) : State :=
  if (u, k) ∈ s.asc.queue then s
  else if s.asc.queue.length < 16 then
    State.setStatus { s with asc := { s.asc with queue := s.asc.queue ++ [(u, k)] } } u k .queued
  else raise .queueFull (s.setStatus u k .dirty)

/-- The effect of a seconds change on the persistence state (R120). -/
def afterSeconds : Persistence → Persistence
  | .clean => .dirty
  | .writing .none => .writing .seconds
  | p => p

/-- A seconds change (R120). -/
def secondsChange (u : UnitId) (k : Kind) (s : State) : State :=
  s.setStatus u k (afterSeconds (s.account u k).status)

/-- A queue change (R121). -/
def queueChange (u : UnitId) (k : Kind) (s : State) : State :=
  match (s.account u k).status with
  | .clean | .dirty => requestQueue u k s
  | .writing _ => s.setStatus u k (.writing .queue)
  | .queued | .loading _ => s

/-- The change of persistence state that an increment brings, by the kind of the account (R114). -/
def countChange (u : UnitId) (k : Kind) (s : State) : State :=
  if isSecondsKind k then secondsChange u k s else queueChange u k s

/-! ### Increments (R114, R118, R129) -/

/-- An account after an increment: lifetime and interval saturate, and SATURATED is set when the lifetime
is found at its limit (R114). -/
def Account.incremented (a : Account) : Account :=
  { a with
    lifetime := bump limit32 a.lifetime
    interval := bump limit32 a.interval
    saturated := a.saturated || decide (limit32 ≤ a.lifetime) }

/-- An increment of an account and of its shift tally (R114, R118). While the account's load is
outstanding the increment is held in the pending amount (R129). -/
def increment (u : UnitId) (k : Kind) (s : State) : State :=
  let a := s.account u k
  match a.status with
  | .loading p => s.setStatus u k (.loading (bump 65535 p))
  | _ =>
    if a.retired then s
    else
      let s' := (s.setAccount u k a.incremented).setTally u k (bump limit32 (s.tally u k))
      if a.incremented = a then s' else countChange u k s'

/-- An account after its pending amount is applied (R129). -/
def Account.withPending (a : Account) (p : Nat) : Account :=
  { a with
    lifetime := addUpTo limit32 a.lifetime p
    interval := addUpTo limit32 a.interval p
    saturated := a.saturated || decide (limit32 ≤ a.lifetime + p) }

/-- Applies a pending amount to a delivered account and to its shift tally (R129). -/
def applyPending (u : UnitId) (k : Kind) (p : Nat) (s : State) : State :=
  let a := s.account u k
  if a.retired || p == 0 then s
  else
    let s' := (s.setAccount u k (a.withPending p)).setTally u k (addUpTo limit32 (s.tally u k) p)
    if a.withPending p = a then s' else countChange u k s'

/-- The pending amount of a persistence state: 0 unless the load is outstanding (R129). -/
def pendingAmount : Persistence → Nat
  | .loading p => p
  | _ => 0

/-- The load of an account is outstanding (R129). -/
def isOutstanding : Persistence → Bool
  | .loading _ => true
  | _ => false

/-- Delivers a loaded account, which ends its outstanding load, and applies its pending amount
(R129, R144). -/
def deliver (u : UnitId) (k : Kind) (a : Account) (s : State) : State :=
  applyPending u k (pendingAmount (s.account u k).status) (s.setAccount u k a)

/-! ### Transactions (R122, R134) -/

/-- Begins a transaction: the request line is asserted and the grant is awaited for 50 ms (R134). -/
def beginTransaction (item : StoreItem) (origin : Origin) (record : List Byte) (s : State) : State :=
  { s with asc := { s.asc with
      inFlight := some
        { item := item, origin := origin, phase := .waitGrant, grantBy := s.elapsed + 500000,
          cycleBy := none, record := record }
      busRequest := true } }

/-- Begins the write of an account: it becomes WRITING with a snapshot of its working copy (R122). -/
def beginAccountWrite (u : UnitId) (k : Kind) (origin : Origin) (s : State) : State :=
  beginTransaction (.account u k) origin (storeRecord u k (s.account u k))
    (s.setStatus u k (.writing .none))

/-- Ends the transaction in flight: the request line and the bus are released (R135). -/
def release (s : State) : State :=
  { s with asc := { s.asc with inFlight := none, busRequest := false } }

/-- The end of a write for its account (R123). -/
def writeEnd (u : UnitId) (k : Kind) (written : Bool) (s : State) : State :=
  match (s.account u k).status with
  | .writing .queue => requestQueue u k (s.setStatus u k .dirty)
  | .writing .none => s.setStatus u k (if written then .clean else .dirty)
  | .writing .seconds => s.setStatus u k .dirty
  | _ => s

/-! ### Commits and the choice of the next record (R137 to R141) -/

/-- Writing is allowed: the store is NORMAL, the supply is in HOLDUP, or a commit is running (R137). -/
def writingAllowed (s : State) : Bool :=
  s.powered && (!s.asc.frozen || s.spm.supply == .holdup || decide (s.asc.activity = .committing))

/-- A load is in progress. -/
def isLoadActivity : Activity → Bool
  | .loading _ => true
  | _ => false

/-- Begins a commit (R139). -/
def beginCommit (s : State) : State :=
  { s with asc := { s.asc with activity := .committing, cursor := 0, cursorTaken := false, written := 0 } }

/-- Takes a commit trigger, without yet choosing a record (R139). -/
def takeTrigger (s : State) : State :=
  match s.asc.activity with
  | .idle => if !s.asc.frozen || s.spm.supply == .holdup then beginCommit s else s
  | _ => { s with asc := { s.asc with recommit := true } }

/-- After a commit or a load: a set recommit flag is cleared and taken as a trigger (R141, R144). -/
def takeRecommit (s : State) : State :=
  if s.asc.recommit then takeTrigger { s with asc := { s.asc with recommit := false } } else s

/-- A freeze that waited for the commit takes effect (R141). -/
def takeFreeze (s : State) : State :=
  if s.asc.freezePending then
    { s with asc := { s.asc with frozen := true, freezePending := false } }
  else s

/-- The end of a commit, done or failed (R141). -/
def commitEnd (done : Bool) (s : State) : State :=
  let count := if done then 0 else bump 255 s.asc.failedCommits
  let newFault := !done && decide (3 ≤ count) && !s.asc.fault
  let s1 := { s with asc := { s.asc with
    lastCommit := some
      { done := done, written := s.asc.written, failed := if done then 0 else 1, stamp := s.now }
    failedCommits := count
    fault := !done && (s.asc.fault || newFault)
    activity := .idle } }
  let s2 := if newFault then raise .storeFault s1 else s1
  let s3 := raise (if done then .commitDone else .commitFailed) s2
  takeRecommit (takeFreeze s3)

/-- The walk position from which the commit's next record is sought (R140). -/
def walkStart (a : Asc) : Nat := if a.cursorTaken then a.cursor + 1 else a.cursor

/-- The first DIRTY account at or after the walk's position (R140). -/
def nextDirty (s : State) : Option (UnitId × Kind) :=
  walkOrder.find? fun p =>
    decide (walkStart s.asc ≤ walkPosition p.1 p.2) && decide ((s.account p.1 p.2).status = .dirty)

/-- Chooses the next record to write: the head of the queue first, then the commit's next record
(R137, R140). A commit that ends here may begin its successor, whose first record is then chosen; `fuel`
bounds those turns, of which there are at most two. -/
def chooseNext : Nat → State → State
  | 0, s => s
  | fuel + 1, s =>
    if s.asc.inFlight.isSome || isLoadActivity s.asc.activity || !writingAllowed s then s
    else
      match s.asc.queue with
      | (u, k) :: rest =>
        beginAccountWrite u k .queue { s with asc := { s.asc with queue := rest } }
      | [] =>
        if s.asc.activity = .committing then
          match nextDirty s with
          | some (u, k) =>
            beginAccountWrite u k .commit
              { s with asc := { s.asc with cursor := walkPosition u k, cursorTaken := false } }
          | none =>
            let s' := { s with asc := { s.asc with cursor := 40, cursorTaken := true } }
            if s.asc.formatPending then beginTransaction .mark .commit formatMark s'
            else chooseNext fuel (commitEnd true s')
        else s

/-- The choice made whenever no record is in flight and no load is in progress (R137). -/
def serveStore (s : State) : State := chooseNext 3 s

/-- A commit trigger (R139). -/
def commitTrigger (s : State) : State := serveStore (takeTrigger s)

/-- One start or trip handed to its account (R117); the queue entry it makes is served (R137). -/
def countOne (u : UnitId) (k : Kind) (s : State) : State := serveStore (increment u k s)

/-! ### Loads (R144 to R146) -/

/-- Writes the progress of the load. -/
def setLoad (l : Load) (s : State) : State := { s with asc := { s.asc with activity := .loading l } }

/-- The store is taken as faulty and STORE_FAULT is raised (R144, R145). -/
def raiseFault (s : State) : State :=
  raise .storeFault { s with asc := { s.asc with fault := true } }

/-- The first account in walk order whose load is outstanding. -/
def firstOutstanding (s : State) : Option (UnitId × Kind) :=
  walkOrder.find? fun p => isOutstanding (s.account p.1 p.2).status

/-- The end of a load: a trigger taken during it begins a commit, and the queue is served (R144). -/
def endLoad (s : State) : State :=
  serveStore (takeRecommit { s with asc := { s.asc with activity := .idle } })

/-- A load with nothing yet read. -/
def newLoad (stage : LoadStage) : Load :=
  { stage := stage, misses := 0, told := false, initFailed := false }

/-- The load reads the next outstanding record, or ends (R144). -/
def loadNextRead (l : Load) (s : State) : State :=
  match firstOutstanding s with
  | some (u, k) =>
    beginTransaction (.account u k) .read []
      (setLoad { l with stage := .readRecord false, misses := 0 } s)
  | none => endLoad s

/-- The initialization writes the next outstanding record, then the format mark unless a record failed,
or ends (R145). That a failed record sets format pending where the mark would be written, at the end of the records, and
not when its own attempts are exhausted, is a DESIGN CHOICE (notes/assumptions/32.md). -/
def loadNextInit (l : Load) (s : State) : State :=
  match firstOutstanding s with
  | some (u, k) =>
    beginTransaction (.account u k) .init (blankRecord u k) (setLoad { l with stage := .initRecord 1 } s)
  | none =>
    if l.initFailed then endLoad { s with asc := { s.asc with formatPending := true } }
    else beginTransaction .mark .init formatMark (setLoad { l with stage := .initMark 1 } s)

/-- Every account's load becomes outstanding, with nothing pending (R129, R146). -/
def allOutstanding (r : Rha) : Rha :=
  { r with accounts := r.accounts.map fun p => p.map fun a => { a with status := .loading 0 } }

/-- The reload of a group A reset begins: the queue is emptied, every load becomes outstanding, and the
records are read in walk order without the format mark (R146). -/
def beginReload (s : State) : State :=
  loadNextRead (newLoad (.readRecord false))
    { s with rha := allOutstanding s.rha, asc := { s.asc with queue := [] } }

/-- What follows the end of a write of the queue or of a commit: the reload of a group A reset that
waited for it (R146), or the choice of the next record (R137). -/
def afterRecord (s : State) : State :=
  match s.asc.activity with
  | .loading l => if l.stage = .afterWrite then beginReload s else s
  | _ => serveStore s

/-- A zeroed account as the initialization delivers it (R145). -/
def blankAccount (status : Persistence) : Account :=
  { lifetime := 0, interval := 0, preset := none, retired := false, suspect := false, saturated := false,
    status := status }

/-- A record of the initialization has been written (R145). -/
def initWritten (l : Load) (item : StoreItem) (s : State) : State :=
  match item with
  | .account u k => loadNextInit l (deliver u k (blankAccount .clean) s)
  | .mark => endLoad { s with asc := { s.asc with formatPending := false } }

/-- A record of the initialization has failed: up to three attempts are made in all (R145). -/
def initFailure (l : Load) (item : StoreItem) (s : State) : State :=
  match item, l.stage with
  | .account u k, .initRecord n =>
    if n < 3 then
      beginTransaction item .init (blankRecord u k) (setLoad { l with stage := .initRecord (n + 1) } s)
    else
      loadNextInit { l with initFailed := true }
        (deliver u k (blankAccount .dirty) (if l.initFailed then s else raiseFault s))
  | .mark, .initMark n =>
    if n < 3 then
      beginTransaction item .init formatMark (setLoad { l with stage := .initMark (n + 1) } s)
    else
      endLoad (raiseFault { s with asc := { s.asc with formatPending := true } })
  | _, _ => s

/-- A read has ended without a record: it is made again at once, and the third such ending in a row sets
the fault flag and raises STORE_FAULT, once in a load (R144). -/
def readMissed (l : Load) (item : StoreItem) (s : State) : State :=
  let tell := decide (3 ≤ l.misses + 1) && !l.told
  beginTransaction item .read []
    (setLoad { l with misses := l.misses + 1, told := l.told || tell }
      (if tell then raiseFault s else s))

/-- The end of a write for its item: an account leaves WRITING (R123); a written format mark clears format
pending (R140). -/
def itemEnd (item : StoreItem) (written : Bool) (s : State) : State :=
  match item with
  | .account u k => writeEnd u k written s
  | .mark => if written then { s with asc := { s.asc with formatPending := false } } else s

/-- A commit record has been written: it is counted, and the format mark, written last, ends the commit
(R140, R141). -/
def commitRecordWritten (item : StoreItem) (s : State) : State :=
  let s' := { s with asc := { s.asc with written := s.asc.written + 1, cursorTaken := true } }
  match item with
  | .mark => commitEnd true s'
  | .account _ _ => s'

/-- A write transaction has ended with its record written (R135). -/
def transactionWritten (t : Transaction) (s : State) : State :=
  let s1 := release s
  match t.origin with
  | .queue => afterRecord (itemEnd t.item true s1)
  | .commit =>
    let s2 := itemEnd t.item true s1
    afterRecord (if s2.asc.activity = .committing then commitRecordWritten t.item s2 else s2)
  | .init =>
    match s1.asc.activity with
    | .loading l => initWritten l t.item s1
    | _ => s1
  | .read => s1

/-- A transaction has failed: the last failure takes the record, the reason and a stamp (R135, R136). -/
def transactionFailed (t : Transaction) (reason : FailReason) (s : State) : State :=
  let s0 := release s
  let s1 := { s0 with asc := { s0.asc with
    lastFailure := some { item := t.item, reason := reason, stamp := s.now } } }
  match t.origin with
  | .queue => afterRecord (itemEnd t.item false s1)
  | .commit =>
    let s2 := itemEnd t.item false s1
    afterRecord (if s2.asc.activity = .committing then commitEnd false s2 else s2)
  | .init =>
    match s1.asc.activity with
    | .loading l => initFailure l t.item s1
    | _ => s1
  | .read =>
    match s1.asc.activity with
    | .loading l => readMissed l t.item s1
    | _ => s1

/-- A record that is bad again at its second read: it is delivered as read with SUSPECT added, and with
its interval brought to its lifetime, DIRTY, if it was greater (R144). -/
def suspectAccount (bytes : List Byte) : Account :=
  let a := recordAccount bytes .clean
  if a.lifetime < a.interval then { a with suspect := true, interval := a.lifetime, status := .dirty }
  else { a with suspect := true }

/-- A read of a load has delivered sixteen bytes, which are judged (R144). -/
def readDelivered (l : Load) (item : StoreItem) (bytes : List Byte) (s : State) : State :=
  match item, l.stage with
  | .mark, .readMark =>
    let l' := { l with misses := 0 }
    if bytes = formatMark then loadNextRead l' s else loadNextInit l' s
  | .account u k, .readRecord second =>
    if recordGood u k bytes then loadNextRead l (deliver u k (recordAccount bytes .clean) s)
    else if second then
      loadNextRead l (deliver u k (suspectAccount bytes) (raise .suspectLoaded s))
    else
      beginTransaction item .read [] (setLoad { l with stage := .readRecord true, misses := 0 } s)
  | _, _ => s

end Sys2Proof.Machine
end

