-- ==== Sys2Proof/Machine/Reply.lean ====
section
/-! DEFINITION. Requests and replies: the status codes, the reply frame and the path every accepted
request takes (R175 to R178, R185). -/

namespace Sys2Proof.Machine

/-- The status codes (R176). -/
inductive Status where
  | ok | clamped | accepted | unknownCommand | badLength | outOfRange | noSuchRecord | wrongState
  | offerChanged | sameOperator | notDutyOperator | retired | holdup
deriving DecidableEq, Repr

/-- The code of a status (R176). -/
def Status.code : Status → Nat
  | .ok => 0x00 | .clamped => 0x01 | .accepted => 0x02 | .unknownCommand => 0x10
  | .badLength => 0x11 | .outOfRange => 0x12 | .noSuchRecord => 0x13 | .wrongState => 0x14
  | .offerChanged => 0x15 | .sameOperator => 0x16 | .notDutyOperator => 0x17 | .retired => 0x18
  | .holdup => 0x19

/-- A block's answer to a request: the status and the body of the reply (R177). -/
structure Answer where
  status : Status
  body : List Byte
deriving DecidableEq, Repr

/-- A refusal with an empty body (R177). -/
def refuse (st : Status) : Answer := { status := st, body := [] }

/-- A request taken with every setting in range is answered OK, one with a clamped setting CLAMPED
(R177). -/
def okOrClamped (wasClamped : Bool) : Status := if wasClamped then .clamped else .ok

/-- The reply frame: address plus 0x80, length, command echo, status, body and CRC-16 (R177, R185). -/
def replyFrame (address code : Nat) (a : Answer) : List Byte :=
  let head := toBytes 1 (address + 128) ++ toBytes 1 (2 + a.body.length) ++ toBytes 1 code
    ++ toBytes 1 a.status.code ++ a.body
  head ++ toBytes 2 (crc16 head).toNat

/-- The LNU enters ANSWERING and sends the reply. The receive buffer is empty and the next frame must
follow 2 ms of silence (R174, R175). The driver is enabled at the acceptance instant;
DESIGN CHOICE (notes/assumptions/10.md), safe: the manual lets up to 5 ms pass. -/
def sendReply (code : Nat) (a : Answer) (s : State) : State :=
  { s with lnu := { s.lnu with
      answering := true, rx := .ignoring, tx := replyFrame s.lnu.address code a, driver := true } }

/-- A frame can be accepted for this part's address: the LNU is READY, the part works, and the link address
is not 0 (R173, R175). -/
def State.listening (s : State) : Bool := s.powered && !s.lnu.answering && s.lnu.address != 0

/-- Serves an accepted request. The hold-up test comes first: in HOLDUP only the commands of R178 are
taken (R176). Otherwise the block answers and the reply is sent. A request that meets an ANSWERING or
stopped LNU is not accepted and has no effect (R175). -/
def serve (code : Nat) (duringHoldup : Bool) (act : State → State × Answer) (s : State) : State :=
  if s.listening then
    if s.spm.supply = .holdup ∧ duringHoldup = false then sendReply code (refuse .holdup) s
    else sendReply code (act s).2 (act s).1
  else s

end Sys2Proof.Machine
end

