-- ==== Sys2Proof/Machine/ShiftOps.lean ====
section
/-! DEFINITION. The shared operations of the Shift Controller: the new time of day and the points it
crosses (R154 to R156), the presence timer (R165) and the offer version (R160). -/

namespace Sys2Proof.Machine

/-- One day in cu (R154). -/
abbrev dayCu : Nat := 864000000000

/-- Half a day in cu (R154). -/
abbrev halfDayCu : Nat := 432000000000

/-- The position of a time within the day, in cu (R154). -/
def dayPosition (seconds frac : Nat) : Nat := 10000000 * (seconds % 86400) + frac

/-- The three points of a roster boundary (R152). -/
inductive Point where
  | opening | due | overdue
deriving DecidableEq, Repr

/-- The minute of the day at which a boundary's point falls (R152). -/
def pointMinute (h : Shc) (p : Point) (b : Nat) : Nat :=
  match p with
  | .opening => (b + 1440 - h.lead) % 1440
  | .due => b
  | .overdue => (b + h.grace) % 1440

/-- How far around the clock face a minute lies from a position, in cu (R152, R154). -/
def distance (pos minute : Nat) : Nat := (600000000 * minute + dayCu - pos) % dayCu

/-- The order of points at one position: open, due, overdue (R154). -/
def pointRank : Point → Nat
  | .opening => 0 | .due => 1 | .overdue => 2

/-- Every point the clock can cross: the three of each roster boundary (R154), and the due and overdue
points of an open window whose boundary has left the roster (R152). -/
def clockPoints (h : Shc) : List (Point × Nat) :=
  (h.roster.flatMap fun b => [(.opening, b), (.due, b), (.overdue, b)])
    ++ match h.window with
       | some w => if w ∈ h.roster then [] else [(.due, w), (.overdue, w)]
       | none => []

/-- The points a forward movement crosses, in clock order from the old position (R154). -/
def crossings (h : Shc) (old advance : Nat) : List (Point × Nat) :=
  let dist := fun (x : Point × Nat) => distance old (pointMinute h x.1 x.2)
  sortBy (fun x => dist x * 3 + pointRank x.1)
    ((clockPoints h).filter fun x => decide (0 < dist x) && decide (dist x ≤ advance))

/-- A window opens on a boundary, with its notice (R155). -/
def openWindow (b : Nat) (state : ShiftState) (s : State) : State :=
  evalHandoverLamp (raise .windowOpen
    { s with shc := { s.shc with state := state, window := some b, due := false } })

/-- The crossing of the open point of a boundary (R155). -/
def crossOpening (b : Nat) (s : State) : State :=
  if s.shc.skip = some b then { s with shc := { s.shc with skip := none } }
  else
    match s.tb.quality with
    | .u | .d => s
    | _ =>
      match s.shc.state, s.shc.window with
      | .noShift, _ => s
      | .onShift, _ => openWindow b .window s
      | st, none => openWindow b st s
      | _, some w =>
        if w = b then s
        else { s with shc := { s.shc with window := some b, due := false } }

/-- The crossing of the due point of a boundary (R156). -/
def crossDue (b : Nat) (s : State) : State :=
  if s.shc.window = some b ∧ (s.shc.state = .window ∨ s.shc.state = .offered) then
    { s with shc := { s.shc with due := true } }
  else s

/-- The crossing of the overdue point of a boundary (R156). -/
def crossOverdue (b : Nat) (s : State) : State :=
  if s.shc.window = some b ∧ s.shc.overdue = false then
    evalHandoverLamp (raise .overdue { s with shc := { s.shc with overdue := true } })
  else s

/-- The crossing of one point (R155, R156). -/
def crossPoint (s : State) (x : Point × Nat) : State :=
  match x.1 with
  | .opening => crossOpening x.2 s
  | .due => crossDue x.2 s
  | .overdue => crossOverdue x.2 s

/-- The advance of the time of day since it was last seen, around the clock face (R154). -/
def advance (s : State) : Nat :=
  (dayPosition s.tb.seconds s.tb.frac + dayCu
    - dayPosition s.shc.seenSeconds s.shc.seenFrac) % dayCu

/-- An advance below half a day is a forward movement (R154). -/
def isForward (cu : Nat) : Bool := decide (cu < halfDayCu)

/-- A forward movement crosses its points one at a time; a backward one crosses nothing (R154). -/
def crossPoints (s : State) : State :=
  if isForward (advance s) then
    (crossings s.shc (dayPosition s.shc.seenSeconds s.shc.seenFrac) (advance s)).foldl crossPoint s
  else s

/-- The last time seen takes the present time of day (R154). -/
def seeTime (seconds frac : Nat) (s : State) : State :=
  { s with shc := { s.shc with seenSeconds := seconds % 86400, seenFrac := frac } }

/-- The Shift Controller takes a new time of day (R154). -/
def takeTimeOfDay (s : State) : State := seeTime s.tb.seconds s.tb.frac (crossPoints s)

/-- The presence timer restarts and the presence alarm becomes off (R165). -/
def restartPresence (s : State) : State :=
  setAlarm false
    { s with shc := { s.shc with
        presenceBy := s.shc.presenceExp.map fun n => s.elapsed + 600000000 * 2 ^ n } }

/-- A command that carries a badge and is answered OK shows presence in AUTO mode when the badge is the
duty badge (R165, R166). -/
def showPresence (badge : Nat) (s : State) : State :=
  if s.shc.auto = true ∧ s.shc.duty = some badge then restartPresence s else s

/-- The offer version increments, from 65,535 to 0 (R160). -/
def bumpVersion (s : State) : State :=
  { s with shc := { s.shc with version := (s.shc.version + 1) % 65536 } }

/-- The duty is held: ON_SHIFT, WINDOW or OFFERED (R165). -/
def dutyHeld (h : Shc) : Bool := h.state != .noShift

/-- The boundary of a list whose open point lies first at or after a position, around the clock face
(R163, R168). -/
def firstOpening (h : Shc) (boundaries : List Nat) (pos : Nat) : Option Nat :=
  (sortBy (fun b => distance pos (pointMinute h .opening b)) boundaries).head?

end Sys2Proof.Machine
end

