-- ==== Sys2Proof/Machine/UnitOps.lean ====
section
/-! DEFINITION. The shared operations of the Unit State Monitor: the unit mode (R104), the TRIPPED flag
(R105) and the rotating indication (R106). -/

namespace Sys2Proof.Machine

/-- The rotating indication: the speed state is ROLLING or AT_SPEED (R106). -/
def UnitRecord.rotating (r : UnitRecord) : Bool := r.speed == .rolling || r.speed == .atSpeed

/-- The unit mode that the flag, the contacts and the speed state give (R104). -/
def UnitRecord.derivedMode (r : UnitRecord) : UnitMode :=
  if r.tripped then .tripped
  else if r.breaker.stable && r.pumpMode.stable then .pumping
  else if r.breaker.stable then .generating
  else if r.rotating then .spinning
  else .stopped

/-- A unit's record with its mode evaluated (R104). -/
def UnitRecord.evaluated (r : UnitRecord) : UnitRecord := { r with mode := r.derivedMode }

/-- A unit's record after its TRIPPED flag is set, whatever its value before (R105). -/
def UnitRecord.trip (r : UnitRecord) : UnitRecord := UnitRecord.evaluated { r with tripped := true }

/-- The condition under which a set TRIPPED flag clears (R105). -/
def UnitRecord.mayClear (r : UnitRecord) : Bool := r.speed == .standstill && !r.caseHeld

/-- A unit's record after the TRIPPED clearing check (R105). -/
def UnitRecord.checkTripped (r : UnitRecord) : UnitRecord :=
  if r.tripped && r.mayClear then UnitRecord.evaluated { r with tripped := false } else r

/-- Sets a unit's TRIPPED flag and evaluates its mode (R105). -/
def setTripped (u : UnitId) (s : State) : State := s.setUnit u (s.unit u).trip

/-- A contact of a unit. -/
def UnitRecord.contact (r : UnitRecord) : ContactId → Contact
  | .breaker => r.breaker
  | .pumpMode => r.pumpMode

/-- Writes a contact of a unit. -/
def UnitRecord.setContact (r : UnitRecord) (c : ContactId) (v : Contact) : UnitRecord :=
  match c with
  | .breaker => { r with breaker := v }
  | .pumpMode => { r with pumpMode := v }

end Sys2Proof.Machine
end

