-- ==== Sys2Proof/Machine/CaseOps.lean ====
section
/-! DEFINITION. The shared operations of the Case Table (slots, the pseudo-LRU tree, case numbers, the
report of a change) and of the Trip Group Resolver (opening, joining and closing a group), and the one
event that an assertion or a release is (R55 to R93). -/

namespace Sys2Proof.Machine

/-- A confirmed assertion as the Trip Input Unit hands it on (R42). -/
structure Assertion where
  unit : UnitId
  input : InputId
  stamp : Stamp
  cls : TripClass
  stops : Bool
  priority : Nat
  test : Bool
deriving DecidableEq, Repr

/-! ### Slots and cases -/

/-- A unit's case set. -/
def State.caseSet (s : State) (u : UnitId) : CaseSet := s.ct.sets.get u

/-- Writes a unit's case set. -/
def State.setCaseSet (s : State) (u : UnitId) (c : CaseSet) : State :=
  { s with ct := { s.ct with sets := s.ct.sets.set u c } }

/-- What a slot holds. -/
def State.slot (s : State) (u : UnitId) (i : SlotId) : Option Case := (s.caseSet u).slots.get i

/-- Writes a slot. -/
def State.setSlot (s : State) (u : UnitId) (i : SlotId) (c : Option Case) : State :=
  s.setCaseSet u { s.caseSet u with slots := (s.caseSet u).slots.set i c }

/-- Every slot of the table, set by set. -/
def slotOrder : List (UnitId × SlotId) :=
  allUnits.flatMap fun u => allSlots.map fun i => (u, i)

/-- Every case in the table, set by set. -/
def State.cases (s : State) : List Case := slotOrder.filterMap fun x => s.slot x.1 x.2

/-- The case of a number, with its place (R66, R76). -/
def State.findCase (s : State) (n : Nat) : Option (UnitId × SlotId × Case) :=
  slotOrder.findSome? fun x =>
    match s.slot x.1 x.2 with
    | some c => if c.number = n then some (x.1, x.2, c) else none
    | none => none

/-- The input's case: its case that is not CLEARED, with its slot (R55). -/
def State.inputCase (s : State) (u : UnitId) (i : InputId) : Option (SlotId × Case) :=
  allSlots.findSome? fun x =>
    match s.slot u x with
    | some c => if c.input = i ∧ c.state ≠ .cleared then some (x, c) else none
    | none => none

/-- The slot holds a CLEARED case (R59). -/
def isCleared : Option Case → Bool
  | some c => c.state == .cleared
  | none => false

/-- The case is ACTIVE or ACTIVE_ACK. -/
def Case.asserted (c : Case) : Bool := c.state == .active || c.state == .activeAck

/-- A slot holds a case that is ACTIVE or ACTIVE_ACK and not marked TEST (R73). -/
def holdsTrip : Option Case → Bool
  | some c => c.asserted && !c.test
  | none => false

/-- A unit holds a case that is ACTIVE or ACTIVE_ACK and not marked TEST (R73). -/
def holdsCase (c : CaseSet) : Bool := c.slots.toList.any holdsTrip

/-! ### The pseudo-LRU tree (R70) -/

/-- The bits of a set after an access to a slot (R70). -/
def CaseSet.touch (c : CaseSet) : SlotId → CaseSet
  | .s0 => { c with b0 := true, b1 := true }
  | .s1 => { c with b0 := true, b1 := false }
  | .s2 => { c with b0 := false, b2 := true }
  | .s3 => { c with b0 := false, b2 := false }

/-- The slot that a walk of the tree gives (R70). -/
def CaseSet.walk (c : CaseSet) : SlotId :=
  if c.b0 then (if c.b2 then .s3 else .s2) else (if c.b1 then .s1 else .s0)

/-- Accesses a slot (R70). -/
def touchSlot (u : UnitId) (i : SlotId) (s : State) : State :=
  s.setCaseSet u ((s.caseSet u).touch i)

/-- The slot allocated to a new case: the first INVALID slot, else the walk's slot if its case is CLEARED, else
the lowest slot with a CLEARED case, else none (R59). -/
def CaseSet.allocate (c : CaseSet) : Option SlotId :=
  match allSlots.find? fun i => (c.slots.get i).isNone with
  | some i => some i
  | none =>
    if isCleared (c.slots.get c.walk) then some c.walk
    else allSlots.find? fun i => isCleared (c.slots.get i)

/-! ### Case numbers and group ids (R61, R83) -/

/-- The number after a number in 1 to 65,535, from 65,535 to 1 (R61, R83). -/
def nextNumber (n : Nat) : Nat := if n < 65535 then n + 1 else 1

/-- The first number from `n` on that is not held; `fuel` bounds the tests (R61, R83). -/
def freeNumber (held : List Nat) : Nat → Nat → Nat
  | 0, n => n
  | fuel + 1, n => if n ∈ held then freeNumber held fuel (nextNumber n) else n

/-! ### Reports (R73) -/

/-- The Unit State Monitor takes the Case Table's report for a unit: the case-held indicator takes its
value and the clearing condition is checked (R73, R105). -/
def reportUnit (s : State) (u : UnitId) : State :=
  s.setUnit u (UnitRecord.checkTripped { s.unit u with caseHeld := holdsCase (s.caseSet u) })

/-- The Case Table reports a change of the units given: the offer version increments once, and each unit is
checked (R73, R160). -/
def report (us : List UnitId) (s : State) : State := us.foldl reportUnit (bumpVersion s)

/-! ### Opening, re-trip and overflow (R58 to R63, R71) -/

/-- Opens a case in a slot: a CLEARED case there is evicted, a number is taken, the case is written with
its run snapshot, and NEW_CASE is raised (R60 to R62). -/
def openCase (a : Assertion) (i : SlotId) (s : State) : State :=
  let s0 := s.setSlot a.unit i none
  let n := freeNumber (s0.cases.map (·.number)) 33 s.ct.counter
  let c : Case :=
    { number := n, unit := a.unit, input := a.input, cls := a.cls, state := .active, test := a.test,
      firstOut := false, provisional := false, releaseUnobserved := false, assertStamp := a.stamp,
      releaseStamp := none, repeats := 0, lastRetrip := none, groupId := 0, openedIn := s.shc.number,
      handovers := 0, ackBadge := none, clearBadge := none, snapMode := (s.unit a.unit).mode,
      snapGen := (s.account a.unit .gen).lifetime }
  let s1 := touchSlot a.unit i (s0.setSlot a.unit i (some c))
  raiseFor .newCase a.unit { s1 with ct := { s1.ct with counter := nextNumber n } }

/-- A case after a re-trip (R63). -/
def Case.retripped (c : Case) (stamp : Stamp) (mode : UnitMode) (gen : Nat) : Case :=
  { c with
    state := .active, repeats := bump 255 c.repeats, lastRetrip := some stamp, ackBadge := none,
    releaseStamp := none, releaseUnobserved := false, snapMode := mode, snapGen := gen }

/-- Re-trips the input's case (R63). -/
def retripCase (a : Assertion) (i : SlotId) (c : Case) (s : State) : State :=
  raiseFor .newCase a.unit (touchSlot a.unit i (s.setSlot a.unit i
    (some (c.retripped a.stamp (s.unit a.unit).mode (s.account a.unit .gen).lifetime))))

/-- An overflow record after one more overflow (R71). -/
def Overflow.counted (o : Overflow) (i : InputId) (stamp : Stamp) : Overflow :=
  { count := bump 65535 o.count
    first := if o.count = 0 then some stamp else o.first
    last := some stamp
    seen := o.seen.set i true }

/-- An assertion overflows (R71). -/
def overflowAssertion (a : Assertion) (s : State) : State :=
  let s1 := { s with ct := { s.ct with
    overflow := s.ct.overflow.set a.unit ((s.ct.overflow.get a.unit).counted a.input a.stamp) } }
  raiseFor .overflow a.unit (if a.stops && !a.test then setTripped a.unit s1 else s1)

/-! ### Trip groups (R80 to R92) -/

/-- Changes the case of a number in a unit's set. -/
def updateCase (u : UnitId) (n : Nat) (f : Case → Case) (s : State) : State :=
  s.setCaseSet u { s.caseSet u with
    slots := (s.caseSet u).slots.map fun o => o.map fun c => if c.number = n then f c else c }

/-- Writes a unit's open-group record. -/
def setGroup (u : UnitId) (g : Option OpenGroup) (s : State) : State :=
  { s with tgr := { s.tgr with groups := s.tgr.groups.set u g } }

/-- The filter time of an exponent, 0.5 ms × 2^n (R39). -/
def filterTime (n : Nat) : Nat := 5000 * 2 ^ n

/-- A unit's longest filter time, over configured times and times in force (R49). -/
def longestFilter (p : PerInput TripInput) : Nat :=
  p.toList.foldl (fun m t => max m (max (filterTime t.config.exponent) (filterTime t.inForce.exponent))) 0

/-- The group window of an exponent, 2^n ms (R82). -/
def groupWindow (n : Nat) : Nat := 10000 * 2 ^ n

/-- The ids held by a case or by an open-group record (R83). -/
def heldIds (s : State) : List Nat :=
  s.cases.map (·.groupId) ++ s.tgr.groups.toList.filterMap fun o => o.map (·.id)

/-- The input of a member, by its case number. -/
def memberInput (l : List Member) (n : Nat) : Option InputId :=
  (l.find? fun m => m.number == n).map (·.input)

/-- Closes a unit's group: PROVISIONAL is removed from its first-out case, the summary is written,
FIRST_OUT_FINAL is raised and the record is released (R88, R89, R92). -/
def closeGroup (u : UnitId) (reason : CloseReason) (s : State) : State :=
  match s.tgr.groups.get u with
  | none => s
  | some g =>
    let s1 := updateCase u g.firstOut (fun c => { c with provisional := false }) s
    let summary : ClosedGroup :=
      { id := g.id, earliest := g.earliest, firstOut := g.firstOut,
        firstOutInput := (memberInput g.members g.firstOut).getD .i1, members := g.members,
        reason := reason, closedAt := s.now }
    raiseFor .firstOutFinal u
      { s1 with tgr := { s1.tgr with
          groups := s1.tgr.groups.set u none, closed := s1.tgr.closed.set u (some summary) } }

/-- Opens a group for an assertion with its case as first-out (R83, R85). -/
def openGroup (a : Assertion) (n : Nat) (s : State) : State :=
  let id := freeNumber (heldIds s) 41 s.tgr.counter
  let w := groupWindow s.tgr.windowExp
  let f := longestFilter (s.tiu.inputs.get a.unit)
  let g : OpenGroup :=
    { id := id, earliest := a.stamp, firstOut := n, window := w, maxFilter := f,
      closeAt := a.stamp.elapsed + w + f,
      members := [{ number := n, input := a.input, edge := a.stamp, priority := a.priority }] }
  let s1 := setGroup a.unit (some g) s
  updateCase a.unit n (fun c => { c with groupId := id, firstOut := true, provisional := true })
    { s1 with tgr := { s1.tgr with counter := nextNumber id } }

/-- The first-out mark moves to a joining assertion: its edge is earlier, or equal with a lower priority
value, or equal in both with a lower input number (R86). -/
def markMoves (g : OpenGroup) (a : Assertion) : Bool :=
  if a.stamp.elapsed < g.earliest.elapsed then true
  else if a.stamp.elapsed = g.earliest.elapsed then
    match g.members.find? fun m => m.number == g.firstOut with
    | some m =>
      decide (a.priority < m.priority)
        || (a.priority == m.priority && decide (inputNumber a.input < inputNumber m.input))
    | none => false
  else false

/-- A case that is not yet a member joins the OPEN group (R84, R86). -/
def joinGroup (a : Assertion) (n : Nat) (g : OpenGroup) (s : State) : State :=
  let member : Member := { number := n, input := a.input, edge := a.stamp, priority := a.priority }
  if markMoves g a then
    let s1 := updateCase a.unit g.firstOut (fun c => { c with firstOut := false, provisional := false }) s
    setGroup a.unit
      (some { g with
        members := g.members ++ [member], firstOut := n, earliest := a.stamp,
        closeAt := a.stamp.elapsed + g.window + g.maxFilter })
      (updateCase a.unit n (fun c => { c with groupId := g.id, firstOut := true, provisional := true }) s1)
  else
    setGroup a.unit (some { g with members := g.members ++ [member] })
      (updateCase a.unit n (fun c => { c with groupId := g.id, firstOut := false, provisional := false }) s)

/-- The unit's TRIPPED flag is set by an assertion that stops the unit (R90). -/
def tripIfStops (a : Assertion) (s : State) : State := if a.stops then setTripped a.unit s else s

/-- A group opens and the trip counts in TRIPS (R85, R90). -/
def placeByOpening (a : Assertion) (n : Nat) (s : State) : State :=
  tripIfStops a (countOne a.unit .trips (openGroup a n s))

/-- A group whose close-at the elapsed count has reached closes as an expiry (R86, R89). -/
def closeIfDue (u : UnitId) (s : State) : State :=
  match s.tgr.groups.get u with
  | some g => if s.reached g.closeAt then closeGroup u .expired s else s
  | none => s

/-- The Trip Group Resolver places an opened or re-tripped case, by its number and the group id it held
(R84, R90). A case marked TEST is not placed. -/
def placeCase (a : Assertion) (n heldId : Nat) (s : State) : State :=
  if a.test then s
  else
    match s.tgr.groups.get a.unit with
    | none => placeByOpening a n s
    | some g =>
      if a.stamp.elapsed ≤ g.earliest.elapsed + g.window then
        closeIfDue a.unit (tripIfStops a (if heldId = g.id then s else joinGroup a n g s))
      else placeByOpening a n (closeGroup a.unit .superseded s)

/-! ### The events of the Case Table (R58, R64, R65) -/

/-- The number of the case in a slot. -/
def slotNumber (s : State) (u : UnitId) (i : SlotId) : Nat := ((s.slot u i).map (·.number)).getD 0

/-- What the Case Table and the Trip Group Resolver do with a confirmed assertion (R58, R84). -/
def assertionResult (a : Assertion) (s : State) : State :=
  match s.inputCase a.unit a.input with
  | none =>
    match (s.caseSet a.unit).allocate with
    | some i =>
      let s1 := openCase a i s
      placeCase a (slotNumber s1 a.unit i) 0 s1
    | none => overflowAssertion a s
  | some (i, c) =>
    if c.test = a.test then placeCase a c.number c.groupId (retripCase a i c s)
    else overflowAssertion a s

/-- A confirmed assertion, one event taken whole: its result, the report of the change and the case lamp
(R58, R73, R74). -/
def takeAssertion (a : Assertion) (s : State) : State :=
  evalCaseLamp (report [a.unit] (assertionResult a s))

/-- A case after its release: confirmed with a stamp (R64), or unobserved with the mark (R65). -/
def Case.released (c : Case) (stamp : Option Stamp) : Case :=
  { c with
    state := if c.state = .active then .latched else .acknowledged
    releaseStamp := match stamp with | some t => some t | none => c.releaseStamp
    releaseUnobserved := match stamp with | some _ => c.releaseUnobserved | none => true }

/-- A confirmed or unobserved release of an input (R64, R65). -/
def takeRelease (u : UnitId) (i : InputId) (stamp : Option Stamp) (s : State) : State :=
  match s.inputCase u i with
  | some (x, c) =>
    if c.asserted then
      evalCaseLamp (report [u] (s.setSlot u x (some (c.released stamp))))
    else s
  | none => s

end Sys2Proof.Machine
end

