-- ==== Sys2Proof/Machine/Accounts.lean ====
section
/-! DEFINITION. The Run-Hour Accounts (chapter 7): the tally second, the account commands and the
warm start. -/

namespace Sys2Proof.Machine

/-! ### The tally second (R115, R116) -/

/-- The kinds that a unit advances in a tally second, by its mode and rotating indication (R115). -/
def tallyKinds (mode : UnitMode) (rotating : Bool) : List Kind :=
  match mode with
  | .stopped => []
  | .spinning => [.rotate]
  | .generating => [.gen, .rotate]
  | .pumping => [.pump, .rotate]
  | .tripped => if rotating then [.rotate] else []

/-- The increments of one unit in a tally second (R115). -/
def tallyUnit (s : State) (u : UnitId) : State :=
  (tallyKinds (s.unit u).mode (s.unit u).rotating).foldl (fun s k => increment u k s) s

/-- The tally second of all eight units, one event (R115). -/
def tallySecond (s : State) : State := allUnits.foldl tallyUnit s

/-- A duty-second boundary has been passed that the accounts have not yet taken (R3). -/
def dutyDue (s : State) : Bool :=
  s.powered && decide (s.tb.dutyHanded < s.tb.elapsed / 10000000)

/-- DUTY_SECOND_BOUNDARY: the Timebase hands a boundary on and the accounts take a tally second
(R3, R115). Taken when no boundary waits, it has no effect. -/
def execDutySecondBoundary (s : State) : Result :=
  .next (
    if dutyDue s then tallySecond { s with tb := { s.tb with dutyHanded := s.tb.dutyHanded + 1 } } else s)

/-! ### Commands (R124 to R127) -/

/-- The account record on the link (R187). -/
def accountRecord (u : UnitId) (k : Kind) (s : State) : List Byte :=
  let a := s.account u k
  toBytes 1 (unitNumber u) ++ toBytes 1 (kindNumber k) ++ toBytes 1 (flagsByte a)
    ++ toBytes 1 (persistenceCode a.status) ++ toBytes 4 a.lifetime ++ toBytes 4 a.interval
    ++ toBytes 4 (a.preset.getD absentPreset) ++ toBytes 4 (s.tally u k)

/-- READ_ACCOUNT (R127, R129). -/
def askReadAccount (unit kind : Nat) (s : State) : State × Answer :=
  match unitOf? unit, kindOf? kind with
  | some u, some k =>
    if isOutstanding (s.account u k).status then (s, refuse .wrongState)
    else (s, { status := .ok, body := accountRecord u k s })
  | _, _ => (s, refuse .outOfRange)

/-- The seconds a preset stamp takes (R124). -/
def presetStamp (seconds : Nat) : Nat := if seconds = absentPreset then absentPreset - 1 else seconds

/-- An account after a preset, its persistence state apart (R124). -/
def Account.presetTo (a : Account) (lifetime interval seconds : Nat) : Account :=
  { a with
    lifetime := lifetime, interval := interval, preset := some (presetStamp seconds), suspect := false,
    saturated := false }

/-- A queue change by a command; the queue entry it makes is served (R121, R137). -/
def commandChange (u : UnitId) (k : Kind) (a : Account) (s : State) : State :=
  serveStore (queueChange u k (s.setAccount u k a))

/-- PRESET_ACCOUNT (R124, R129). -/
def askPresetAccount (unit kind lifetime interval : Nat) (s : State) : State × Answer :=
  match unitOf? unit, kindOf? kind with
  | some u, some k =>
    let a := s.account u k
    if lifetime < interval then (s, refuse .outOfRange)
    else if isOutstanding a.status then (s, refuse .wrongState)
    else if a.retired then (s, refuse .retired)
    else
      let s' := commandChange u k (a.presetTo lifetime interval s.now.seconds) s
      (s', { status := .ok, body := accountRecord u k s' })
  | _, _ => (s, refuse .outOfRange)

/-- RETIRE_ACCOUNT (R125, R129). -/
def askRetireAccount (unit kind : Nat) (s : State) : State × Answer :=
  match unitOf? unit, kindOf? kind with
  | some u, some k =>
    let a := s.account u k
    if isOutstanding a.status then (s, refuse .wrongState)
    else if a.retired then (s, refuse .retired)
    else (commandChange u k { a with retired := true } s, { status := .ok, body := [] })
  | _, _ => (s, refuse .outOfRange)

/-- REINSTATE_ACCOUNT (R126, R129). -/
def askReinstateAccount (unit kind : Nat) (s : State) : State × Answer :=
  match unitOf? unit, kindOf? kind with
  | some u, some k =>
    let a := s.account u k
    if isOutstanding a.status then (s, refuse .wrongState)
    else
      (if a.retired then commandChange u k { a with retired := false } s else s,
       { status := .ok, body := [] })
  | _, _ => (s, refuse .outOfRange)

/-- READ_ACCOUNT (0x48, R127). -/
def execReadAccount (unit kind : Byte) (s : State) : Result :=
  .next (serve 0x48 true (askReadAccount unit.toNat kind.toNat) s)

/-- PRESET_ACCOUNT (0x49, R124). -/
def execPresetAccount (unit kind : Byte) (lifetime interval : BitVec 32) (s : State) : Result :=
  .next (serve 0x49 false
    (askPresetAccount unit.toNat kind.toNat lifetime.toNat interval.toNat) s)

/-- RETIRE_ACCOUNT (0x4A, R125). -/
def execRetireAccount (unit kind : Byte) (s : State) : Result :=
  .next (serve 0x4A false (askRetireAccount unit.toNat kind.toNat) s)

/-- REINSTATE_ACCOUNT (0x4B, R126). -/
def execReinstateAccount (unit kind : Byte) (s : State) : Result :=
  .next (serve 0x4B false (askReinstateAccount unit.toNat kind.toNat) s)

/-! ### Warm start (R130) -/

/-- An account at a warm start: WRITING becomes DIRTY, and a queue change made during the write asks for its
entry (R130). -/
def warmAccount (s : State) (x : UnitId × Kind) : State :=
  match (s.account x.1 x.2).status with
  | .writing c =>
    let s' := s.setStatus x.1 x.2 .dirty
    if c = .queue then requestQueue x.1 x.2 s' else s'
  | _ => s

/-- The Run-Hour Accounts at a warm start, in walk order (R130). -/
def warmAccounts (s : State) : State := walkOrder.foldl warmAccount s

end Sys2Proof.Machine
end

