-- ==== Sys2Proof/Machine/Cases.lean ====
section
/-! DEFINITION. The commands of the Case Table and of the Trip Group Resolver (chapters 4 and 5), the
expiry of a group and the group C reset. -/

namespace Sys2Proof.Machine

/-! ### Case records in a reply (R186) -/

/-- The key byte of a case: unit in the high four bits, input in the low four (R186). -/
def caseKey (c : Case) : Nat := unitNumber c.unit * 16 + inputNumber c.input

/-- The case record, 50 bytes (R186). -/
def caseRecord (c : Case) : List Byte :=
  toBytes 2 c.number ++ toBytes 1 (caseKey c) ++ toBytes 1 (classCode c.cls)
    ++ toBytes 1 (caseStateCode c.state)
    ++ toBytes 1 (packBits [c.test, c.firstOut, c.provisional, c.releaseUnobserved,
        c.releaseStamp.isSome, c.lastRetrip.isSome])
    ++ toBytes 1 c.repeats ++ toBytes 1 c.handovers ++ toBytes 2 c.groupId ++ toBytes 4 c.openedIn
    ++ optNum 2 c.ackBadge ++ optNum 2 c.clearBadge ++ toBytes 1 (modeCode c.snapMode)
    ++ toBytes 4 c.snapGen ++ date c.assertStamp ++ optDate c.releaseStamp ++ optDate c.lastRetrip

/-- The elapsed count of a stamp that may be absent, eight bytes (R186). -/
def optElapsed : Option Stamp → List Byte
  | some t => toBytes 8 t.elapsed
  | none => zeros 8

/-! ### Reads (R72, R76, R77, R94) -/

/-- READ_CASE (R76, R186). -/
def askReadCase (number : Nat) (s : State) : State × Answer :=
  if number = 0 then (s, refuse .outOfRange)
  else
    match s.findCase number with
    | some (_, _, c) =>
      (s, { status := .ok
            body := caseRecord c ++ toBytes 8 c.assertStamp.elapsed ++ optElapsed c.releaseStamp
              ++ optElapsed c.lastRetrip })
    | none => (s, refuse .noSuchRecord)

/-- The cases of the selection with numbers greater than the cursor, in ascending order (R77). -/
def listedCases (sel : Option UnitId) (cursor : Nat) (s : State) : List Case :=
  sortBy (·.number) (s.cases.filter fun c =>
    decide (cursor < c.number) && (match sel with | some u => c.unit == u | none => true))

/-- The answer that lists up to four cases (R77, R186). -/
def listAnswer (l : List Case) : Answer :=
  let first := l.take 4
  { status := .ok
    body := toBytes 1 first.length ++ toBytes 1 (decide (4 < l.length)).toNat
      ++ first.flatMap caseRecord }

/-- LIST_CASES (R77). -/
def askListCases (selector cursor : Nat) (s : State) : State × Answer :=
  if selector = 0 then (s, listAnswer (listedCases none cursor s))
  else
    match unitOf? selector with
    | some u => (s, listAnswer (listedCases (some u) cursor s))
    | none => (s, refuse .outOfRange)

/-- READ_OVERFLOW (R72, R191). -/
def askReadOverflow (unit : Nat) (s : State) : State × Answer :=
  match unitOf? unit with
  | some u =>
    let o := s.ct.overflow.get u
    (s, { status := .ok
          body := toBytes 2 o.count ++ toBytes 1 (packBits [o.first.isSome, o.last.isSome])
            ++ optStamp o.first ++ optStamp o.last ++ toBytes 1 (packBits o.seen.toList) })
  | none => (s, refuse .outOfRange)

/-- The member entries of a list, filled with zeros to four entries (R191). -/
def memberBytes (width : Nat) (f : Member → List Byte) (l : List Member) : List Byte :=
  (l.take 4).flatMap f ++ zeros (width * (4 - l.length))

/-- An open-group record in a reply, 122 bytes (R191). -/
def openGroupBytes : Option OpenGroup → List Byte
  | none => zeros 122
  | some g =>
    toBytes 2 g.id ++ fullStamp g.earliest ++ toBytes 2 g.firstOut ++ toBytes 4 g.window
      ++ toBytes 4 g.maxFilter ++ toBytes 8 g.closeAt ++ toBytes 1 g.members.length
      ++ memberBytes 21 (fun m => toBytes 2 m.number ++ toBytes 1 (inputNumber m.input)
          ++ fullStamp m.edge ++ toBytes 1 m.priority) g.members

/-- A last-closed summary in a reply, 121 bytes (R191). -/
def closedGroupBytes : Option ClosedGroup → List Byte
  | none => zeros 121
  | some g =>
    toBytes 2 g.id ++ fullStamp g.earliest ++ toBytes 2 g.firstOut
      ++ toBytes 1 (inputNumber g.firstOutInput) ++ toBytes 1 g.members.length
      ++ memberBytes 20 (fun m => toBytes 2 m.number ++ toBytes 1 (inputNumber m.input)
          ++ fullStamp m.edge) g.members
      ++ toBytes 1 (closeReasonCode g.reason) ++ fullStamp g.closedAt

/-- READ_GROUP (R94, R191). -/
def askReadGroup (unit : Nat) (s : State) : State × Answer :=
  match unitOf? unit with
  | some u =>
    let g := s.tgr.groups.get u
    let c := s.tgr.closed.get u
    (s, { status := .ok
          body := toBytes 1 s.tgr.windowExp ++ toBytes 2 (2 ^ s.tgr.windowExp)
            ++ toBytes 1 (packBits [g.isSome, c.isSome]) ++ openGroupBytes g ++ closedGroupBytes c })
  | none => (s, refuse .outOfRange)

/-! ### Commands that change cases (R66 to R68, R72, R95) -/

/-- The case's state after a command, as ACK_CASE and CLEAR_CASE answer it (R191). -/
def caseStateAnswer (st : Status) (x : CaseState) : Answer :=
  { status := st, body := toBytes 1 (caseStateCode x) }

/-- A change of one case by a command: the slot is written and accessed, the change is reported and the case
lamp evaluated (R66, R67). -/
def changeCase (u : UnitId) (i : SlotId) (c : Case) (s : State) : State :=
  evalCaseLamp (report [u] (touchSlot u i (s.setSlot u i (some c))))

/-- The state an acknowledgement gives a case, if it changes it (R66). -/
def ackedState : CaseState → Option CaseState
  | .active => some .activeAck
  | .latched => some .acknowledged
  | _ => none

/-- ACK_CASE (R66). -/
def askAckCase (number badge : Nat) (s : State) : State × Answer :=
  if number = 0 ∨ badge = 0 then (s, refuse .outOfRange)
  else
    match s.findCase number with
    | none => (s, refuse .noSuchRecord)
    | some (u, i, c) =>
      match ackedState c.state with
      | some x =>
        (showPresence badge (changeCase u i { c with state := x, ackBadge := some badge } s),
         caseStateAnswer .ok x)
      | none =>
        if c.state = .cleared then (s, caseStateAnswer .wrongState c.state)
        else (showPresence badge s, caseStateAnswer .ok c.state)

/-- The case is a member of its unit's OPEN group (R67, R80). -/
def inOpenGroup (s : State) (u : UnitId) (c : Case) : Bool :=
  match s.tgr.groups.get u with
  | some g => c.groupId == g.id
  | none => false

/-- CLEAR_CASE (R67). -/
def askClearCase (number badge : Nat) (s : State) : State × Answer :=
  if number = 0 ∨ badge = 0 then (s, refuse .outOfRange)
  else
    match s.findCase number with
    | none => (s, refuse .noSuchRecord)
    | some (u, i, c) =>
      if c.state = .acknowledged ∧ inOpenGroup s u c = false then
        (showPresence badge
            (changeCase u i { c with state := .cleared, clearBadge := some badge } s),
         caseStateAnswer .ok .cleared)
      else (s, caseStateAnswer .wrongState c.state)

/-- RETIRE_CASE (R68): the slot becomes INVALID and the tree bits keep their values. -/
def askRetireCase (number : Nat) (s : State) : State × Answer :=
  if number = 0 then (s, refuse .outOfRange)
  else
    match s.findCase number with
    | none => (s, refuse .noSuchRecord)
    | some (u, i, c) =>
      if c.state = .cleared then
        (evalCaseLamp (report [u] (s.setSlot u i none)), { status := .ok, body := [] })
      else (s, refuse .wrongState)

/-- CLEAR_OVERFLOW (R72): a record already empty is not reported as a change. -/
def askClearOverflow (unit : Nat) (s : State) : State × Answer :=
  match unitOf? unit with
  | some u =>
    (if s.ct.overflow.get u = emptyOverflow then s
     else report [u] { s with ct := { s.ct with overflow := s.ct.overflow.set u emptyOverflow } },
     { status := .ok, body := [] })
  | none => (s, refuse .outOfRange)

/-- SET_GROUP_WINDOW (R95). -/
def askSetGroupWindow (n : Nat) (s : State) : State × Answer :=
  let n' := clamp 4 10 n
  ({ s with tgr := { s.tgr with windowExp := n' } },
   { status := okOrClamped (n' != n), body := toBytes 1 n' ++ toBytes 2 (2 ^ n') })

/-! ### The expiry of a group (R89) -/

/-- The expiry of a unit's group is due (R89). -/
def groupDue (s : State) (u : UnitId) : Bool :=
  match s.tgr.groups.get u with
  | some g => s.powered && s.reached g.closeAt
  | none => false

/-- GROUP_EXPIRY: the elapsed count has reached the close-at of a unit's OPEN group, which closes (R89).
Taken when no expiry is due, it has no effect. -/
def execGroupExpiry (u : UnitId) (s : State) : Result :=
  .next (if groupDue s u then report [u] (closeGroup u .expired s) else s)

/-! ### Group C reset (R78, R93) -/

/-- The group C reset (R78, R93): both counters and the window setting are kept. -/
def resetC (s : State) : State :=
  evalCaseLamp (report allUnits { s with
    ct := { s.ct with sets := PerUnit.fill emptySet, overflow := PerUnit.fill emptyOverflow }
    tgr := { s.tgr with groups := PerUnit.fill none, closed := PerUnit.fill none } })

/-- RESET_GROUP with the letter C (R78, R183). -/
def askResetC (s : State) : State × Answer := (resetC s, { status := .ok, body := [] })

/-! ### Cases across shifts (R75) -/

/-- A slot at an increment of the shift number: a CLEARED case is retired, any other case is counted as
handed over (R75). -/
def handOver : Option Case → Option Case
  | some c => if c.state = .cleared then none else some { c with handovers := bump 255 c.handovers }
  | none => none

/-- The Case Table at an increment of the shift number; the tree bits are kept (R75). -/
def Ct.handedOver (c : Ct) : Ct :=
  { c with sets := c.sets.map fun x => { x with slots := x.slots.map handOver } }

/-! ### The command rows -/

/-- READ_CASE (0x30, R76). -/
def execReadCase (number : BitVec 16) (s : State) : Result :=
  .next (serve 0x30 true (askReadCase number.toNat) s)

/-- LIST_CASES (0x31, R77). -/
def execListCases (selector : Byte) (cursor : BitVec 16) (s : State) : Result :=
  .next (serve 0x31 true (askListCases selector.toNat cursor.toNat) s)

/-- ACK_CASE (0x32, R66). -/
def execAckCase (number badge : BitVec 16) (s : State) : Result :=
  .next (serve 0x32 false (askAckCase number.toNat badge.toNat) s)

/-- CLEAR_CASE (0x33, R67). -/
def execClearCase (number badge : BitVec 16) (s : State) : Result :=
  .next (serve 0x33 false (askClearCase number.toNat badge.toNat) s)

/-- RETIRE_CASE (0x34, R68). -/
def execRetireCase (number : BitVec 16) (s : State) : Result :=
  .next (serve 0x34 false (askRetireCase number.toNat) s)

/-- READ_OVERFLOW (0x35, R72). -/
def execReadOverflow (unit : Byte) (s : State) : Result :=
  .next (serve 0x35 true (askReadOverflow unit.toNat) s)

/-- CLEAR_OVERFLOW (0x36, R72). -/
def execClearOverflow (unit : Byte) (s : State) : Result :=
  .next (serve 0x36 false (askClearOverflow unit.toNat) s)

/-- READ_GROUP (0x37, R94). -/
def execReadGroup (unit : Byte) (s : State) : Result :=
  .next (serve 0x37 true (askReadGroup unit.toNat) s)

/-- SET_GROUP_WINDOW (0x38, R95). -/
def execSetGroupWindow (n : Byte) (s : State) : Result :=
  .next (serve 0x38 false (askSetGroupWindow n.toNat) s)

/-- RESET_GROUP with the letter C (0x72, R78, R93, R183). -/
def execResetGroupC (s : State) : Result := .next (serve 0x72 false askResetC s)

end Sys2Proof.Machine
end

