-- ==== Sys2Proof/Machine/Shifts.lean ====
section
/-! DEFINITION. The Shift Controller (chapter 9): the roster and timing settings, the duty, the offer and its
acceptance, presence, the reads, the group S reset and the warm start. -/

namespace Sys2Proof.Machine

/-! ### Roster and timing (R152, R153, R166) -/

/-- The minutes of a roster request are distinct minutes of the day, at most six (R152). -/
def rosterValid (minutes : List Nat) : Bool :=
  decide (minutes.length ≤ 6) && minutes.all (fun m => decide (m ≤ 1439)) && decide minutes.Nodup

/-- SET_ROSTER (R152). -/
def askSetRoster (minutes : List Nat) (s : State) : State × Answer :=
  if rosterValid minutes then
    let r := sortBy id minutes
    ({ s with shc := { s.shc with roster := r, skip := none } },
     { status := .ok, body := toBytes 1 r.length ++ r.flatMap (toBytes 2) })
  else (s, refuse .outOfRange)

/-- The interval code applied: 0 is off, 1 is brought to 2 and a code above 7 to 7 (R153). -/
def clampInterval (code : Nat) : Nat := if code = 0 then 0 else clamp 2 7 code

/-- The exponent of an interval code, absent for off (R153). -/
def intervalOf (code : Nat) : Option Nat := if code = 0 then none else some code

/-- The presence timer after a change of the interval (R166). -/
def retimed (s : State) (new : Option Nat) : Option Nat :=
  match s.shc.presenceExp, new with
  | some _, some _ => s.shc.presenceBy
  | _, none => none
  | none, some n => if dutyHeld s.shc then some (s.elapsed + 600000000 * 2 ^ n) else s.shc.presenceBy

/-- SET_SHIFT_TIMING (R153, R166). -/
def askSetShiftTiming (lead grace interval mode : Nat) (s : State) : State × Answer :=
  match flagOf? mode with
  | some auto =>
    let l := clamp 0 60 lead
    let g := clamp 0 60 grace
    let c := clampInterval interval
    ({ s with shc := { s.shc with
        lead := l, grace := g, presenceBy := retimed s (intervalOf c), presenceExp := intervalOf c,
        auto := auto } },
     { status := okOrClamped (l != lead || g != grace || c != interval)
       body := toBytes 1 l ++ toBytes 1 g ++ toBytes 1 c ++ toBytes 1 auto.toNat })
  | none => (s, refuse .outOfRange)

/-! ### The increment of the shift number (R164) -/

/-- The record of the shift that ends (R164). -/
def endedShift (byAccept : Bool) (s : State) : ShiftSummary :=
  { number := s.shc.number, team := s.shc.team, duty := s.shc.duty, start := s.shc.start, stop := s.now,
    tallies := s.rha.tallies, lapses := s.shc.lapses, overdue := s.shc.overdue, byAccept := byAccept }

/-- The shift context at an increment, before the new duty is written (R164). -/
def Shc.incremented (h : Shc) (ended : ShiftSummary) : Shc :=
  { h with
    previous := if 1 ≤ h.number then some ended else none
    number := h.number + 1, overdue := false, due := false, window := none, offer := none, lapses := 0 }

/-- The new duty: badge, team, start stamp and skip boundary, in ON_SHIFT (R158, R163). -/
def Shc.onDuty (h : Shc) (badge team : Nat) (start : Stamp) (skip : Option Nat) : Shc :=
  { h with state := .onShift, duty := some badge, team := some team, start := some start, skip := skip }

/-- The increment of the shift number, one event: the summary, the context and the new duty, the cases, the
tallies, the commit trigger, the version, presence, the notice and the lamp (R164). -/
def incrementShift (byAccept : Bool) (badge team : Nat) (skip : Option Nat) (s : State) : State :=
  let h := (s.shc.incremented (endedShift byAccept s)).onDuty badge team s.now skip
  let s1 := { s with
    shc := h, ct := s.ct.handedOver
    rha := { s.rha with tallies := PerUnit.fill (PerKind.fill 0) } }
  evalHandoverLamp (evalCaseLamp (raise .handoverDone (restartPresence (bumpVersion (commitTrigger s1)))))

/-- The number of the shift cannot be incremented (R158, R163). -/
def shiftNumberFull (s : State) : Bool := decide (limit32 ≤ s.shc.number)

/-- A team code is in range (R158). -/
def teamValid (team : Nat) : Bool := decide (1 ≤ team) && decide (team ≤ 15)

/-- The new shift number in the reply to SIGN_ON and ACCEPT (R191). -/
def shiftAnswer (s : State) : Answer := { status := .ok, body := toBytes 4 s.shc.number }

/-- SIGN_ON (R158). -/
def askSignOn (badge team : Nat) (s : State) : State × Answer :=
  if badge = 0 ∨ teamValid team = false ∨ shiftNumberFull s = true then (s, refuse .outOfRange)
  else if dutyHeld s.shc then (s, refuse .wrongState)
  else
    let s' := incrementShift false badge team none s
    (s', shiftAnswer s')

/-! ### The offer (R159, R162, R163) -/

/-- OFFER (R159). -/
def askOffer (badge : Nat) (s : State) : State × Answer :=
  if badge = 0 then (s, refuse .outOfRange)
  else
    match s.shc.state with
    | .noShift | .offered => (s, refuse .wrongState)
    | .onShift | .window =>
      if s.shc.duty = some badge then
        let s1 := { s with shc := { s.shc with
          state := .offered, offer := some { badge := badge, stamp := s.now } } }
        let s' := showPresence badge (evalHandoverLamp (bumpVersion s1))
        (s', { status := .ok, body := toBytes 2 s'.shc.version })
      else (s, refuse .notDutyOperator)

/-- WITHDRAW (R162). -/
def askWithdraw (badge : Nat) (s : State) : State × Answer :=
  if badge = 0 then (s, refuse .outOfRange)
  else if s.shc.state = .offered then
    if s.shc.duty = some badge then
      let s1 := { s with shc := { s.shc with
        offer := none, state := if s.shc.window.isSome then .window else .onShift } }
      let s' := showPresence badge (evalHandoverLamp (bumpVersion s1))
      (s', { status := .ok
             body := toBytes 1 (shiftStateCode s'.shc.state) ++ toBytes 2 s'.shc.version })
    else (s, refuse .notDutyOperator)
  else (s, refuse .wrongState)

/-- The skip boundary that an acceptance leaves: none after a window, else the boundary whose open point lies
first at or after the present time of day (R163). Before a local second boundary of the same instant that time is the
one after the insertion; DESIGN CHOICE (notes/assumptions/31.md). -/
def skipAfterAccept (s : State) : Option Nat :=
  if s.shc.window.isSome then none
  else firstOpening s.shc s.shc.roster (dayPosition s.now.seconds s.now.frac)

/-- ACCEPT (R163). -/
def askAccept (badge version team : Nat) (s : State) : State × Answer :=
  if badge = 0 ∨ teamValid team = false ∨ shiftNumberFull s = true then (s, refuse .outOfRange)
  else if s.shc.state ≠ .offered then (s, refuse .wrongState)
  else if s.shc.duty = some badge then (s, refuse .sameOperator)
  else if version ≠ s.shc.version then
    (s, { status := .offerChanged, body := toBytes 2 s.shc.version })
  else
    let s' := incrementShift true badge team (skipAfterAccept s) s
    (s', shiftAnswer s')

/-! ### Presence (R165, R167) -/

/-- The presence timer in a reply: running, and the cu remaining (R191). -/
def presenceBytes (s : State) : List Byte :=
  match s.shc.presenceBy with
  | some t => toBytes 8 (remaining s t)
  | none => zeros 8

/-- PRESENCE (R167). -/
def askPresence (badge : Nat) (s : State) : State × Answer :=
  if badge = 0 then (s, refuse .outOfRange)
  else if dutyHeld s.shc then
    if s.shc.duty = some badge then
      let s' := restartPresence s
      (s', { status := .ok
             body := toBytes 1 s'.shc.presenceBy.isSome.toNat ++ presenceBytes s'
               ++ toBytes 1 s'.shc.lapses })
    else (s, refuse .notDutyOperator)
  else (s, refuse .wrongState)

/-- The presence expiry is due (R165). -/
def presenceDue (s : State) : Bool :=
  match s.shc.presenceBy with
  | some t => s.powered && s.reached t
  | none => false

/-- The lapse of a presence interval (R165). -/
def presenceLapse (s : State) : State :=
  raise .presenceLapsed (setAlarm true
    { s with shc := { s.shc with presenceBy := none, lapses := bump 255 s.shc.lapses } })

/-- PRESENCE_EXPIRY: the presence timer expires (R165). Taken when no expiry is due, it has no effect. -/
def execPresenceExpiry (s : State) : Result := .next (if presenceDue s then presenceLapse s else s)

/-! ### Reads (R161, R168, R169) -/

/-- A live case's entry in a handover page, five bytes (R191). -/
def handoverEntry (c : Case) : List Byte :=
  toBytes 2 c.number ++ toBytes 1 (caseKey c) ++ toBytes 1 (caseStateCode c.state)
    ++ toBytes 1 (packBits [c.test, c.firstOut])

/-- The live cases in ascending order of number (R161). -/
def liveCases (s : State) : List Case :=
  sortBy (·.number) (s.cases.filter fun c => c.state != .cleared)

/-- The heading of every handover page (R161, R191). -/
def handoverHead (page : Nat) (s : State) : List Byte :=
  toBytes 2 s.shc.version ++ toBytes 4 s.shc.number ++ toBytes 1 (shiftStateCode s.shc.state)
    ++ toBytes 1 page

/-- READ_HANDOVER (R161). -/
def askReadHandover (page : Nat) (s : State) : State × Answer :=
  match page with
  | 0 =>
    let l := liveCases s
    (s, { status := .ok
          body := handoverHead 0 s ++ toBytes 1 l.length ++ l.flatMap handoverEntry
            ++ s.ct.overflow.toList.flatMap fun o => toBytes 2 o.count })
  | 1 => (s, { status := .ok
               body := handoverHead 1 s ++ (s.rha.tallies.toList.take 4).flatMap tallyBytes })
  | 2 => (s, { status := .ok
               body := handoverHead 2 s ++ (s.rha.tallies.toList.drop 4).flatMap tallyBytes })
  | _ => (s, refuse .outOfRange)

/-- The next boundary from the present time of day, the skip boundary not counted (R168). Before a local second boundary
of the same instant that time is the one after the insertion; DESIGN CHOICE (notes/assumptions/31.md). -/
def nextBoundary (s : State) : Option Nat :=
  firstOpening s.shc (s.shc.roster.filter fun b => decide (s.shc.skip ≠ some b))
    (dayPosition s.now.seconds s.now.frac)

/-- READ_SHIFT's body (R168, R191). -/
def shiftBody (s : State) : List Byte :=
  let h := s.shc
  toBytes 1 (shiftStateCode h.state)
    ++ toBytes 1 (packBits [h.team.isSome, h.duty.isSome, h.start.isSome, h.window.isSome, h.due,
        h.overdue, h.skip.isSome, (nextBoundary s).isSome])
    ++ toBytes 1 (packBits [h.offer.isSome, h.presenceBy.isSome, h.alarm, h.auto])
    ++ toBytes 4 h.number ++ optNum 1 h.team ++ optNum 2 h.duty ++ optStamp h.start ++ optNum 2 h.window
    ++ optNum 2 h.skip ++ optNum 2 (nextBoundary s) ++ optNum 2 (h.offer.map (·.badge))
    ++ optStamp (h.offer.map (·.stamp)) ++ toBytes 2 h.version ++ optNum 1 h.presenceExp
    ++ presenceBytes s ++ toBytes 1 h.lapses ++ toBytes 1 h.roster.length
    ++ (h.roster.take 6).flatMap (toBytes 2) ++ zeros (2 * (6 - h.roster.length)) ++ toBytes 1 h.lead
    ++ toBytes 1 h.grace ++ s.rha.tallies.toList.flatMap tallyBytes

/-- READ_SHIFT (R168). -/
def askReadShift (s : State) : State × Answer := (s, { status := .ok, body := shiftBody s })

/-- READ_PREVIOUS_SHIFT's body (R169, R191). -/
def summaryBytes (x : ShiftSummary) : List Byte :=
  toBytes 4 x.number ++ optNum 1 x.team ++ toBytes 1 (packBits [x.duty.isSome, x.overdue, x.byAccept])
    ++ optNum 2 x.duty ++ optStamp x.start ++ fullStamp x.stop ++ toBytes 1 x.lapses
    ++ x.tallies.toList.flatMap tallyBytes

/-- READ_PREVIOUS_SHIFT (R169). -/
def askReadPreviousShift (s : State) : State × Answer :=
  match s.shc.previous with
  | some x => (s, { status := .ok, body := summaryBytes x })
  | none => (s, refuse .noSuchRecord)

/-! ### Group S reset and warm start (R170, R171) -/

/-- The shift context after a group S reset, the version apart (R170). -/
def Shc.released (h : Shc) : Shc :=
  { h with
    offer := none, state := .noShift, duty := none, window := none, skip := none, due := false,
    presenceBy := none }

/-- The group S reset (R170). -/
def resetS (s : State) : State :=
  evalHandoverLamp (bumpVersion { s with shc := s.shc.released })

/-- RESET_GROUP with the letter S (R170, R183). -/
def askResetS (s : State) : State × Answer := (resetS s, { status := .ok, body := [] })

/-- The Shift Controller at a warm start (R171). Where the RESET pin is taken before a local second boundary of its
instant, the new time of day is the one before the insertion, though the stamps of the start read after it, and the
boundary stays due and hands on its own. DESIGN CHOICE (notes/assumptions/31.md). -/
def warmShift (s : State) : State :=
  let s' := takeTimeOfDay s
  if dutyHeld s'.shc then restartPresence s' else s'

/-! ### The command rows -/

/-- SET_ROSTER (0x60, R152). -/
def execSetRoster (minutes : List (BitVec 16)) (s : State) : Result :=
  .next (serve 0x60 false (askSetRoster (minutes.map (·.toNat))) s)

/-- SIGN_ON (0x62, R158). -/
def execSignOn (badge : BitVec 16) (team : Byte) (s : State) : Result :=
  .next (serve 0x62 false (askSignOn badge.toNat team.toNat) s)

/-- PRESENCE (0x63, R167). -/
def execPresence (badge : BitVec 16) (s : State) : Result :=
  .next (serve 0x63 false (askPresence badge.toNat) s)

/-- OFFER (0x64, R159). -/
def execOffer (badge : BitVec 16) (s : State) : Result :=
  .next (serve 0x64 false (askOffer badge.toNat) s)

/-- READ_HANDOVER (0x65, R161). -/
def execReadHandover (page : Byte) (s : State) : Result :=
  .next (serve 0x65 true (askReadHandover page.toNat) s)

/-- ACCEPT (0x66, R163). -/
def execAccept (badge version : BitVec 16) (team : Byte) (s : State) : Result :=
  .next (serve 0x66 false (askAccept badge.toNat version.toNat team.toNat) s)

/-- WITHDRAW (0x67, R162). -/
def execWithdraw (badge : BitVec 16) (s : State) : Result :=
  .next (serve 0x67 false (askWithdraw badge.toNat) s)

/-- READ_SHIFT (0x68, R168). -/
def execReadShift (s : State) : Result := .next (serve 0x68 true askReadShift s)

/-- READ_PREVIOUS_SHIFT (0x69, R169). -/
def execReadPreviousShift (s : State) : Result := .next (serve 0x69 true askReadPreviousShift s)

/-- SET_SHIFT_TIMING (0x6A, R153). -/
def execSetShiftTiming (lead grace interval mode : Byte) (s : State) : Result :=
  .next (serve 0x6A false
    (askSetShiftTiming lead.toNat grace.toNat interval.toNat mode.toNat) s)

/-- RESET_GROUP with the letter S (0x72, R170, R183). -/
def execResetGroupS (s : State) : Result := .next (serve 0x72 false askResetS s)

end Sys2Proof.Machine
end

