-- ==== Sys2Proof/Machine/Store.lean ====
section
/-! DEFINITION. The Account Store Controller (chapter 8): the events of a store transaction, the period
timer, the store commands, the group A reset and the warm start. -/

namespace Sys2Proof.Machine

/-! ### The events of a transaction (R134 to R136) -/

/-- Writes the transaction in flight. -/
def setFlight (t : Transaction) (s : State) : State :=
  { s with asc := { s.asc with inFlight := some t } }

/-- The transaction in flight stands in a phase. -/
def inPhase (s : State) (p : Phase) : Bool :=
  match s.asc.inFlight with
  | some t => s.powered && t.phase == p
  | none => false

/-- The transaction in flight is a read. -/
def Transaction.isRead (t : Transaction) : Bool := t.origin == .read

/-- BUS_GRANT: the arbiter asserts the grant; a transaction in WAIT_GRANT takes the bus (R134, R136). A
grant that finds no request is ignored. A grant taken after the grant expiry of its own instant finds the request of
the next record, if the expiry's step has chosen one (R137), and takes the bus for it.
DESIGN CHOICE (notes/assumptions/33.md): R134 speaks only of a grant that finds no request. -/
def execBusGrant (s : State) : Result :=
  .next (
    match s.asc.inFlight with
    | some t => if inPhase s .waitGrant then setFlight { t with phase := .transfer } s else s
    | none => s)

/-- The grant wait has expired (R134). -/
def grantWaitOver (s : State) : Bool :=
  match s.asc.inFlight with
  | some t => inPhase s .waitGrant && s.reached t.grantBy
  | none => false

/-- GRANT_TIMEOUT: the grant wait expires and the record fails, or the read ends without a record
(R134, R136). Taken when no expiry is due, it has no effect. -/
def execGrantTimeout (s : State) : Result :=
  .next (
    match s.asc.inFlight with
    | some t => if grantWaitOver s then transactionFailed t .grantTimeout s else s
    | none => s)

/-- TRANSFER_COMPLETE: the last byte of a write has been sent; the write cycle is awaited for 10 ms (R135).
Taken at any other point of a transaction, it has no effect. -/
def execTransferComplete (s : State) : Result :=
  .next (
    match s.asc.inFlight with
    | some t =>
      if inPhase s .transfer && !t.isRead && t.cycleBy.isNone then
        setFlight { t with cycleBy := some (s.elapsed + 100000) } s
      else s
    | none => s)

/-- STORE_WRITE_CYCLE_DONE: the store reports its write cycle complete and the record is read back (R135).
Taken when no write cycle is awaited, it has no effect. -/
def execStoreWriteCycleDone (s : State) : Result :=
  .next (
    match s.asc.inFlight with
    | some t =>
      if inPhase s .transfer && !t.isRead && t.cycleBy.isSome then
        setFlight { t with phase := .readBack, cycleBy := none } s
      else s
    | none => s)

/-- The wait for the write cycle has expired (R135). -/
def cycleWaitOver (s : State) : Bool :=
  match s.asc.inFlight with
  | some t =>
    match t.cycleBy with
    | some by_ => inPhase s .transfer && !t.isRead && s.reached by_
    | none => false
  | none => false

/-- NOT_READY_TIMEOUT: the store has not reported in 10 ms and the record fails (R135). Taken when no
expiry is due, it has no effect. -/
def execNotReadyTimeout (s : State) : Result :=
  .next (
    match s.asc.inFlight with
    | some t => if cycleWaitOver s then transactionFailed t .notReady s else s
    | none => s)

/-- READ_BACK_COMPLETE: the sixteen bytes read back are compared with those sent (R135). Taken when no
read-back is in progress, it has no effect. -/
def execReadBackComplete (bytes : List Byte) (s : State) : Result :=
  .next (
    match s.asc.inFlight with
    | some t =>
      if inPhase s .readBack then
        if bytes = t.record then transactionWritten t s else transactionFailed t .mismatch s
      else s
    | none => s)

/-- GRANT_WITHDRAWN: the arbiter withdraws the grant from a transaction that holds the bus (R135, R136).
At any other time it has no effect. -/
def execGrantWithdrawn (s : State) : Result :=
  .next (
    match s.asc.inFlight with
    | some t =>
      if inPhase s .transfer || inPhase s .readBack then transactionFailed t .grantLost s else s
    | none => s)

/-- STORE_READ_COMPLETE: a read of the load has taken its sixteen bytes; the request is released and the
bytes are judged (R136, R144). Taken when no read holds the bus, it has no effect. -/
def execStoreReadComplete (bytes : List Byte) (s : State) : Result :=
  .next (
    match s.asc.inFlight, s.asc.activity with
    | some t, .loading l =>
      if inPhase s .transfer && t.isRead then readDelivered l t.item bytes (release s) else s
    | _, _ => s)

/-! ### The period timer (R139) -/

/-- The commit period in cu (R139). -/
def commitPeriod (exponent : Nat) : Nat := 600000000 * 2 ^ exponent

/-- The period timer restarts (R139). -/
def restartPeriod (s : State) : State :=
  { s with asc := { s.asc with periodBy := s.elapsed + commitPeriod s.asc.periodExp } }

/-- The period expiry is due (R139). -/
def periodDue (s : State) : Bool := s.powered && s.reached s.asc.periodBy

/-- COMMIT_PERIOD_EXPIRY: the period timer expires, restarts and triggers a commit (R139). Taken when no
expiry is due, it has no effect. -/
def execCommitPeriodExpiry (s : State) : Result :=
  .next (if periodDue s then commitTrigger (restartPeriod s) else s)

/-! ### Commands (R142, R148 to R150) -/

/-- COMMIT (R148). -/
def askCommit (s : State) : State × Answer :=
  if s.asc.frozen then (s, refuse .wrongState)
  else
    let s' := commitTrigger s
    (s', { status := .accepted, body := toBytes 1 (activityCode s'.asc.activity) })

/-- FROZEN is ordered (R142). -/
def orderFrozen (s : State) : State :=
  if s.asc.frozen then s
  else if s.asc.activity = .committing then { s with asc := { s.asc with freezePending := true } }
  else { s with asc := { s.asc with frozen := true } }

/-- NORMAL is ordered (R142). -/
def orderNormal (s : State) : State :=
  if s.asc.frozen then commitTrigger { s with asc := { s.asc with frozen := false } }
  else { s with asc := { s.asc with freezePending := false } }

/-- SET_STORE (R142, R149). -/
def askSetStore (mode exponent : Nat) (s : State) : State × Answer :=
  match flagOf? mode with
  | some frozen =>
    let n := clamp 0 6 exponent
    let s0 := restartPeriod { s with asc := { s.asc with periodExp := n } }
    let s' := if frozen then orderFrozen s0 else orderNormal s0
    (s', { status := okOrClamped (n != exponent)
           body := toBytes 1 s'.asc.frozen.toNat ++ toBytes 1 s'.asc.freezePending.toNat ++ toBytes 1 n
             ++ toBytes 1 (2 ^ n) })
  | none => (s, refuse .outOfRange)

/-- A store record named in READ_STORE_STATUS: its form, unit and kind (R191). -/
def itemBytes : StoreItem → List Byte
  | .account u k => toBytes 1 0 ++ toBytes 1 (unitNumber u) ++ toBytes 1 (kindNumber k)
  | .mark => toBytes 1 1 ++ zeros 2

/-- The number of accounts whose persistence state meets a test (R150). -/
def countStatus (s : State) (f : Persistence → Bool) : Nat :=
  (walkOrder.filter fun p => f (s.account p.1 p.2).status).length

/-- An account is WRITING (R119). -/
def isWriting : Persistence → Bool
  | .writing _ => true
  | _ => false

/-- The five account numbers of READ_STORE_STATUS (R150). -/
def statusCounts (s : State) : List Byte :=
  toBytes 1 (countStatus s fun p => p == .clean) ++ toBytes 1 (countStatus s fun p => p == .dirty)
    ++ toBytes 1 (countStatus s fun p => p == .queued) ++ toBytes 1 (countStatus s isWriting)
    ++ toBytes 1 (countStatus s isOutstanding)

/-- The queue entries of READ_STORE_STATUS, head first, filled with zeros to sixteen (R191). -/
def queueBytes (q : List (UnitId × Kind)) : List Byte :=
  (q.take 16).flatMap (fun p => toBytes 1 (unitNumber p.1) ++ toBytes 1 (kindNumber p.2))
    ++ zeros (2 * (16 - q.length))

/-- The record in flight in READ_STORE_STATUS, four bytes (R191). -/
def flightBytes : Option Transaction → List Byte
  | some t => itemBytes t.item ++ toBytes 1 (phaseCode t.phase)
  | none => zeros 4

/-- The last commit in READ_STORE_STATUS, twenty bytes (R191). -/
def lastCommitBytes : Option LastCommit → List Byte
  | some c => toBytes 1 (!c.done).toNat ++ toBytes 1 c.written ++ toBytes 1 c.failed ++ fullStamp c.stamp
  | none => zeros 20

/-- The last failure in READ_STORE_STATUS, twenty-one bytes (R191). -/
def lastFailureBytes : Option LastFailure → List Byte
  | some f => itemBytes f.item ++ toBytes 1 (failReasonCode f.reason) ++ fullStamp f.stamp
  | none => zeros 21

/-- READ_STORE_STATUS (R150, R191). -/
def askReadStoreStatus (s : State) : State × Answer :=
  let a := s.asc
  (s, { status := .ok
        body := toBytes 1 a.frozen.toNat
          ++ toBytes 1 (packBits [a.freezePending, a.recommit, a.fault, a.formatPending,
              a.inFlight.isSome, a.lastCommit.isSome, a.lastFailure.isSome])
          ++ toBytes 1 a.periodExp ++ toBytes 8 (remaining s a.periodBy)
          ++ toBytes 1 (activityCode a.activity) ++ toBytes 1 a.cursor ++ toBytes 1 a.written
          ++ toBytes 1 a.failedCommits ++ toBytes 1 a.queue.length ++ queueBytes a.queue
          ++ flightBytes a.inFlight ++ statusCounts s ++ lastCommitBytes a.lastCommit
          ++ lastFailureBytes a.lastFailure })

/-- The controller at the order of a group A reset: the commit is abandoned and the activity is LOADING (R146). -/
def Asc.abandonCommit (a : Asc) : Asc :=
  { a with
    activity := .loading (newLoad .afterWrite), recommit := false, freezePending := false,
    frozen := a.frozen || a.freezePending }

/-- The group A reset: the reload begins at once, or at the end of the record in flight (R146). -/
def resetA (s : State) : State :=
  let s' := { s with asc := s.asc.abandonCommit }
  if s.asc.inFlight.isSome then s' else beginReload s'

/-- RESET_GROUP with the letter A (R146, R183). -/
def askResetA (s : State) : State × Answer :=
  if isLoadActivity s.asc.activity then (s, refuse .wrongState)
  else (resetA s, { status := .ok, body := [] })

/-- COMMIT (0x50, R148). -/
def execCommit (s : State) : Result := .next (serve 0x50 false askCommit s)

/-- SET_STORE (0x51, R149). -/
def execSetStore (mode exponent : Byte) (s : State) : Result :=
  .next (serve 0x51 false (askSetStore mode.toNat exponent.toNat) s)

/-- READ_STORE_STATUS (0x52, R150). -/
def execReadStoreStatus (s : State) : Result := .next (serve 0x52 true askReadStoreStatus s)

/-- RESET_GROUP with the letter A (0x72, R146, R183). -/
def execResetGroupA (s : State) : Result := .next (serve 0x72 false askResetA s)

/-! ### Warm start (R147) -/

/-- The controller's own state at a warm start (R147). -/
def Asc.warmStarted (a : Asc) : Asc :=
  { a with
    activity := .idle, cursor := 0, cursorTaken := false, written := 0, recommit := false,
    inFlight := none, frozen := a.frozen || a.freezePending, freezePending := false,
    failedCommits := 0, fault := false, lastCommit := none, lastFailure := none, busRequest := false }

/-- The load made again at a warm start, if a load is outstanding (R147). It begins afresh: that a record of an
initialization had exhausted its attempts before the start is forgotten, so the format mark can be written;
DESIGN CHOICE (notes/assumptions/32.md): R145 and R147 do not say. -/
def resumeLoad (s : State) : State :=
  if (firstOutstanding s).isNone then s
  else if s.asc.formatPending then loadNextRead (newLoad (.readRecord false)) s
  else beginTransaction .mark .read [] (setLoad (newLoad .readMark) s)

/-- The Account Store Controller at a warm start (R147). -/
def warmStore (s : State) : State :=
  commitTrigger (resumeLoad (restartPeriod { s with asc := s.asc.warmStarted }))

end Sys2Proof.Machine
end

