-- ==== Sys2Proof/Machine/Timebase.lean ====
section
/-! DEFINITION. The Reference Input Unit and the Timebase (chapters 1 and 2): pulses, selection,
disciplining, the local second boundary, the watch oscillator and the time commands. -/

namespace Sys2Proof.Machine

/-! ### Selection and timebase states (R11, R26) -/

/-- A source may be selected: enabled and QUALIFIED (R11). -/
def Source.eligible (x : Source) : Bool := x.enable && x.state == .qualified

/-- The selected source: the enabled QUALIFIED source of higher priority (R11). -/
def Riu.choice (r : Riu) : Option SourceId :=
  if r.refA.eligible then
    if r.refB.eligible && decide (r.refB.priority < r.refA.priority) then some .refB else some .refA
  else if r.refB.eligible then some .refB
  else none

/-- The outlier run and the lock run start afresh (R21, R26). -/
def Timebase.clearRuns (t : Timebase) : Timebase :=
  { t with outlierRun := 0, firstOutlier := none, lockRun := 0 }

/-- Entry to FREE or HOLDOVER: T becomes F and growth begins afresh (R26). -/
def Timebase.letGo (t : Timebase) (state : TbState) : Timebase :=
  { t with state := state, trim := t.freq, growthRem := 0 }

/-- Entry to ACQUIRE (R26, R28). -/
def Timebase.acquire (t : Timebase) : Timebase := { t with state := .acquire, uncertainty := 1000 }

/-- The Timebase is told of a change of the selection (R26). -/
def selectionChanged (old new : Option SourceId) (s : State) : State :=
  let t := s.tb.clearRuns
  match old, new with
  | none, some _ =>
    match t.state with
    | .free | .holdover => evalQuality { s with tb := t.acquire }
    | _ => { s with tb := t }
  | some _, none =>
    match t.state with
    | .locked => evalQuality (raise .holdoverEntered { s with tb := t.letGo .holdover })
    | .acquire =>
      if t.lockHeld then evalQuality (raise .holdoverEntered { s with tb := t.letGo .holdover })
      else evalQuality { s with tb := t.letGo .free }
    | _ => { s with tb := t }
  | _, _ => { s with tb := t }

/-- Evaluates the selection: a change is stored, raises SOURCE_CHANGE and is told to the Timebase (R11). -/
def evalSelection (s : State) : State :=
  let new := s.riu.choice
  if new = s.riu.selection then s
  else
    selectionChanged s.riu.selection new
      (raise .sourceChange { s with riu := { s.riu with selection := new } })

/-! ### Pulses (R8, R9, R18) -/

/-- A value brought into −5,000,000 to +4,999,999 cu (R18, R35). -/
def wrapPhase (x : Int) : Int :=
  let y := if x < -5000000 then x + 10000000 else x
  if y ≥ 5000000 then y - 10000000 else y

/-- The phase error e from the fraction and the cable delay (R18). -/
def phaseError (r d : Nat) : Int :=
  let x : Int := (r : Int) - (d : Int)
  let y := if x < 0 then x + 10000000 else x
  if y ≥ 5000000 then y - 10000000 else y

/-- A value brought to the range of F and T, −20,000 to +20,000 ppb (R22). -/
def clampPpb (x : Int) : Int := max (-20000) (min x 20000)

/-- The loop update of a pulse that is not an outlier (R22). -/
def Timebase.loopUpdate (t : Timebase) (e : Int) : Timebase :=
  let f := clampPpb (t.freq - (e * 100).tdiv (2 ^ t.loopExp))
  let p := -((e * 100).tdiv 8)
  { t with freq := f, trim := clampPpb (f + p) }

/-- The station time less an error, with a carry or a borrow of one second (R25). -/
def Timebase.subtractPhase (t : Timebase) (e : Int) : Timebase :=
  let x : Int := (t.frac : Int) - e
  if x < 0 then { t with frac := (x + 10000000).toNat, seconds := prevSecond t.seconds }
  else if x > 9999999 then { t with frac := (x - 10000000).toNat, seconds := nextSecond t.seconds }
  else { t with frac := x.toNat }

/-- The station time one cu earlier (R1). -/
def Timebase.back (t : Timebase) : Timebase :=
  if t.frac = 0 then { t with frac := 9999999, seconds := prevSecond t.seconds } else { t with frac := t.frac - 1 }

/-- The station time after a step (R25). A step taken before a local second boundary of the same instant leaves
the boundary's own period to be counted by the boundary (R24).
DESIGN CHOICE (notes/assumptions/31.md). -/
def Timebase.stepped (t : Timebase) (e : Int) : Timebase :=
  if t.boundaryDue then { (t.present.subtractPhase e).back with elapsed := t.elapsed } else t.subtractPhase e

/-- The step: the phase is corrected in one move and the Timebase enters ACQUIRE (R25). -/
def stepPhase (e : Int) (s : State) : State :=
  let t := (s.tb.stepped e).clearRuns.acquire
  takeTimeOfDay (evalQuality (raise .step
    { s with tb := { t with holdBack := none, trimRem := 0, trim := t.freq } }))

/-- In LOCKED a pulse sets the uncertainty to |e| + 2 cu (R28). -/
def lockedUncertainty (e : Int) (s : State) : State :=
  if s.tb.state = .locked then
    evalQuality { s with tb := { s.tb with uncertainty := e.natAbs + 2 } }
  else s

/-- An outlier joins the chain: its error is within 100 cu of the first (R21). -/
def Timebase.chains (t : Timebase) (e : Int) : Bool :=
  match t.firstOutlier with
  | some f => decide (0 < t.outlierRun) && decide ((e - f).natAbs ≤ 100)
  | none => false

/-- An outlier of the selected source (R20, R21). -/
def takeOutlier (e : Int) (s : State) : State :=
  if s.tb.chains e ∧ 2 ≤ s.tb.outlierRun then stepPhase e s
  else
    let t := s.tb
    let t1 := if t.chains e then { t with outlierRun := t.outlierRun + 1 }
      else { t with outlierRun := 1, firstOutlier := some e }
    let t2 := if t1.state = .acquire then { t1 with lockRun := 0 } else t1
    lockedUncertainty e { s with tb := t2 }

/-- In ACQUIRE a small error is counted in the lock run, which may lead to LOCKED (R27). -/
def countLock (e : Int) (s : State) : State :=
  if s.tb.state = .acquire then
    if e.natAbs ≤ 100 then
      if 8 ≤ s.tb.lockRun + 1 then
        raise .lockGained
          { s with tb := { s.tb with lockRun := 8, state := .locked, lockHeld := true } }
      else { s with tb := { s.tb with lockRun := s.tb.lockRun + 1 } }
    else { s with tb := { s.tb with lockRun := 0 } }
  else s

/-- A pulse of the selected source that is not an outlier (R20). -/
def takeInlier (e : Int) (s : State) : State :=
  lockedUncertainty e (countLock e
    { s with tb := Timebase.loopUpdate { s.tb with outlierRun := 0, firstOutlier := none } e })

/-- A pulse of the selected source (R20). -/
def selectedPulse (e : Int) (s : State) : State :=
  if s.tb.stepThreshold < e.natAbs then takeOutlier e s else takeInlier e s

/-- An arrival lies less than 5,000,000 cu after the last accepted pulse (R8). -/
def Source.isExtra (x : Source) (now : Nat) : Bool :=
  match x.lastPulse with
  | some t => decide (now < t + 5000000)
  | none => false

/-- A pulse is spaced: it lies 10,000,000 ± 2,000 cu after the last accepted one (R9). -/
def Source.isSpaced (x : Source) (now : Nat) : Bool :=
  match x.lastPulse with
  | some t => decide (t + 9998000 ≤ now) && decide (now ≤ t + 10002000)
  | none => false

/-- A source record after an accepted pulse (R9). -/
def Source.accepted (x : Source) (now : Nat) (e : Int) : Source :=
  let y := { x with lastPulse := some now, lastError := some e }
  if x.isSpaced now then
    if x.run < 7 then { y with run := x.run + 1, state := .candidate }
    else { y with run := 8, state := .qualified }
  else { y with run := 1, state := .candidate }

/-- An accepted pulse is measured, judged and, if its source is selected, handed to the loop (R9). -/
def acceptPulse (x : SourceId) (s : State) : State :=
  let v := s.riu.source x
  let e := phaseError s.now.frac v.delay
  let s1 := evalSelection
    { s with riu := s.riu.setSource x (v.accepted s.elapsed e) }
  if s1.riu.selection = some x then selectedPulse e s1 else s1

/-- REF_PULSE: a rising edge on a reference input (R8). Pulses are taken in RUN and in HOLDUP, on an enabled
source (R7). -/
def execRefPulse (x : SourceId) (s : State) : Result :=
  let v := s.riu.source x
  .next (
    if s.powered = true ∧ v.enable = true then
      if v.isExtra s.elapsed then
        { s with riu := s.riu.setSource x { v with extra := bump 255 v.extra } }
      else acceptPulse x s
    else s)

/-- The loss of a source has fallen due (R10). -/
def Source.lossDue (x : Source) (now : Nat) : Bool :=
  x.state != .absent &&
    match x.lastPulse with
    | some t => decide (t + 15000000 ≤ now)
    | none => false

/-- SOURCE_LOSS: the loss expiry of a source (R10). A step taken when the expiry is not due is no expiry and
has no effect. -/
def execSourceLoss (x : SourceId) (s : State) : Result :=
  let v := s.riu.source x
  .next (
    if s.powered = true ∧ v.lossDue s.elapsed = true then
      evalSelection { s with riu := s.riu.setSource x { v with state := .absent, run := 0 } }
    else s)

/-! ### The local second boundary (R4, R23, R29) -/

/-- The discipline record after applied is computed: the remainder is carried and T becomes F (R23). -/
def Timebase.takeTrim (t : Timebase) : Timebase :=
  { t with trimRem := t.trimRem + t.trim - 100 * t.applied, trim := t.freq }

/-- One step of uncertainty growth in FREE and HOLDOVER (R29). -/
def Timebase.grow (t : Timebase) : Timebase :=
  match t.state with
  | .free | .holdover =>
    { t with
      uncertainty := addUpTo maxUncertainty t.uncertainty ((t.growthRem + t.holdRate) / 100)
      growthRem := (t.growthRem + t.holdRate) % 100 }
  | .acquire | .locked => t

/-- The period of a local second boundary (R4, R23, R29): applied of 0 or more ends the second in this
period, applied below 0 begins the hold-back, of which this period is the first. Taken after a step, or a SET_TIME that
sets the fraction, of its own instant, the boundary begins a hold-back at the fraction stepped or set, which stamps then
read, and its counted period is a new time of day even where it does not increment the seconds.
DESIGN CHOICE (notes/assumptions/31.md). -/
def boundaryPeriod (s : State) : State :=
  let applied := s.tb.applied
  let s1 := evalQuality { s with tb := { s.tb.takeTrim.grow with boundaryDue := false } }
  if 0 ≤ applied then takeTimeOfDay { s1 with tb := s1.tb.advanced (1 + applied.toNat) }
  else { s1 with tb := { s1.tb with holdBack := some (applied.natAbs - 1) } }

/-- The period that ends a hold-back: the counts go on by 1 cu (R4), from whatever fraction it was begun at
(notes/assumptions/31.md). -/
def holdBackEndPeriod (s : State) : State :=
  takeTimeOfDay { s with tb := { s.tb.advanced 1 with holdBack := none } }

/-- The next oscillator period is a local second boundary: the fraction stands at 9,999,999 and no hold-back
is in progress (R4). -/
def atBoundary (s : State) : Bool := decide (s.tb.frac = 9999999) && s.tb.holdBack.isNone

/-- A local second boundary can be taken: its period has come, or is the next one (R4). -/
def boundaryReady (s : State) : Bool := s.powered && (s.tb.boundaryDue || atBoundary s)

/-- LOCAL_SECOND_BOUNDARY: the oscillator period in which the fraction passes 9,999,999 (R4). Taken at
any other instant it is no boundary and has no effect. -/
def execLocalSecondBoundary (s : State) : Result :=
  .next (if boundaryReady s then boundaryPeriod s else s)

/-- HOLD_BACK_END: the oscillator period after a hold-back (R4). Taken while clock units remain to be
held, or with no hold-back, it has no effect. -/
def execHoldBackEnd (s : State) : Result :=
  .next (if s.powered = true ∧ s.tb.holdBack = some 0 then holdBackEndPeriod s else s)

/-! ### The watch oscillator (R6) -/

/-- The counts after one watch cycle in BACKUP (R6). -/
def Timebase.watchCycle (t : Timebase) : Timebase :=
  let sum := t.backupAcc + 5760
  { t.advanced (if 32768 ≤ sum then 306 else 305) with
    backupAcc := if 32768 ≤ sum then sum - 32768 else sum }

/-- One cycle of the watch oscillator in BACKUP (R6, R196). Once the backed-up domain is lost the cycles no longer
move the counts; DESIGN CHOICE (notes/assumptions/22.md): the manual does not say. -/
def watchStep (s : State) : State :=
  if s.spm.supply = .backup ∧ s.spm.retained = true then { s with tb := s.tb.watchCycle } else s

/-- WATCH_OSCILLATOR_CYCLE: one cycle of the 32,768 Hz watch oscillator (R6). -/
def execWatchOscillatorCycle (s : State) : Result := .next (watchStep s)

/-! ### Commands (R12 to R14, R34, R35) -/

/-- READ_TIME's answer (R14, R185). -/
def askReadTime (s : State) : State × Answer :=
  (s, { status := .ok, body := fullStamp s.now ++ toBytes 1 (selectionCode s.riu.selection) })

/-- SET_TIME's answer once it is taken (R13, R175, R191). Taken before a local second boundary of its instant, it shows
the counts as SET_TIME leaves them, before the boundary's insertion, where READ_TIME reads those after it.
DESIGN CHOICE (notes/assumptions/31.md). -/
def setTimeAnswer (st : Status) (fracSet : Bool) (s : State) : Answer :=
  { status := st
    body := toBytes 4 s.tb.seconds ++ toBytes 4 s.tb.frac ++ toBytes 1 fracSet.toNat
      ++ toBytes 4 s.tb.uncertainty }

/-- SET_TIME (R13, R31): with a source selected only the seconds are replaced; with none, the fraction and the
uncertainty too. -/
def askSetTime (seconds frac uncertainty : Nat) (s : State) : State × Answer :=
  if 9999999 < frac then (s, refuse .outOfRange)
  else
    match s.riu.selection with
    | some _ =>
      let s' := takeTimeOfDay (evalQuality { s with tb := { s.tb with seconds := seconds, timeSet := true } })
      (s', setTimeAnswer .ok false s')
    | none =>
      let u := clamp 10000 maxUncertainty uncertainty
      let s' := takeTimeOfDay (evalQuality { s with tb := { s.tb with
        seconds := seconds, frac := frac, uncertainty := u, growthRem := 0, holdBack := none,
        timeSet := true } })
      (s', setTimeAnswer (okOrClamped (u != uncertainty)) true s')

/-- A broadcast SET_TIME: acted on in any part that works and is not in hold-up, and never answered
(R173, R175, R178). -/
def broadcastSetTime (seconds frac uncertainty : Nat) (s : State) : State :=
  if s.powered = true ∧ s.lnu.answering = false ∧ s.spm.supply ≠ .holdup then
    (askSetTime seconds frac uncertainty s).1
  else s

/-- The disagreement of the two sources (R35). -/
def Riu.disagreement (r : Riu) : Option Int :=
  if r.refA.state = .qualified ∧ r.refB.state = .qualified then
    match r.refA.lastError, r.refB.lastError with
    | some a, some b => some (wrapPhase (a - b))
    | _, _ => none
  else none

/-- A source record in a READ_TIMEBASE reply, twelve bytes (R185). -/
def sourceBytes (x : Source) : List Byte :=
  toBytes 1 x.enable.toNat ++ toBytes 1 x.priority ++ toBytes 2 x.delay
    ++ toBytes 1 (sourceStateCode x.state) ++ toBytes 1 x.run ++ toBytes 1 x.lastError.isSome.toNat
    ++ signedBytes 4 (x.lastError.getD 0) ++ toBytes 1 x.extra

/-- READ_TIMEBASE's answer (R35, R185). -/
def askReadTimebase (s : State) : State × Answer :=
  let t := s.tb
  (s, { status := .ok
        body := toBytes 1 (tbStateCode t.state) ++ toBytes 1 (selectionCode s.riu.selection)
          ++ toBytes 1 (packBits [t.lockHeld, t.timeSet, t.firstOutlier.isSome, s.riu.disagreement.isSome])
          ++ toBytes 1 (qualityCode t.reported) ++ signedBytes 4 t.freq ++ signedBytes 4 t.trim
          ++ signedBytes 1 t.trimRem ++ toBytes 1 t.outlierRun ++ signedBytes 4 (t.firstOutlier.getD 0)
          ++ toBytes 1 t.lockRun ++ toBytes 4 t.uncertainty ++ toBytes 1 t.loopExp
          ++ toBytes 4 t.stepThreshold ++ toBytes 2 t.holdRate ++ sourceBytes s.riu.refA
          ++ sourceBytes s.riu.refB ++ signedBytes 4 (s.riu.disagreement.getD 0) })

/-- A source that starts afresh: ABSENT with run 0, no last accepted pulse and no last error (R12). -/
def Source.fresh (x : Source) : Source :=
  { x with state := .absent, run := 0, lastPulse := none, lastError := none }

/-- Both source records after SET_REFERENCE's settings are applied (R12). -/
def Riu.configure (r : Riu) (x : SourceId) (enable : Bool) (priority delay : Nat) : Riu :=
  let v := r.source x
  let v1 := { v with enable := enable, priority := priority, delay := delay }
  let v2 := if v.enable = enable then v1 else v1.fresh
  let o := r.source (otherSource x)
  let o1 := if o.priority = priority then { o with priority := 3 - priority } else o
  (r.setSource x v2).setSource (otherSource x) o1

/-- A source's settings in a SET_REFERENCE reply (R191). -/
def settingsBytes (x : Source) : List Byte :=
  toBytes 1 x.enable.toNat ++ toBytes 1 x.priority ++ toBytes 2 x.delay

/-- SET_REFERENCE (R12). -/
def askSetReference (source enable priority delay : Nat) (s : State) : State × Answer :=
  match sourceOf? source, flagOf? enable with
  | some x, some en =>
    let p := clamp 1 2 priority
    let s' := evalSelection { s with riu := s.riu.configure x en p delay }
    (s', { status := okOrClamped (p != priority)
           body := settingsBytes s'.riu.refA ++ settingsBytes s'.riu.refB })
  | _, _ => (s, refuse .outOfRange)

/-- SET_LOOP (R34). -/
def askSetLoop (k threshold rate : Nat) (s : State) : State × Answer :=
  let k' := clamp 3 8 k
  let t' := clamp 1000 1000000 threshold
  let r' := clamp 1 10000 rate
  ({ s with tb := { s.tb with loopExp := k', stepThreshold := t', holdRate := r' } },
   { status := okOrClamped (k' != k || t' != threshold || r' != rate)
     body := toBytes 1 k' ++ toBytes 4 t' ++ toBytes 2 r' })

/-! ### Group T reset (R15, R36) -/

/-- A source record after a group T reset or a start: as fresh, with no extra pulses (R15, R17). -/
def Source.restarted (x : Source) : Source := { x.fresh with extra := 0 }

/-- The Timebase after a group T reset: a hold-back in progress and the uncertainty are kept (R15, R36). -/
def Timebase.resetT (t : Timebase) : Timebase :=
  { t with
    state := .free, freq := 0, trim := 0, trimRem := 0, outlierRun := 0, firstOutlier := none,
    lockRun := 0, lockHeld := false, growthRem := 0 }

/-- The group T reset (R15, R36). A local second boundary that is due stays due and applies a trim and a remainder of 0;
DESIGN CHOICE (notes/assumptions/31.md). -/
def resetT (s : State) : State :=
  let s1 := { s with
    riu := { refA := s.riu.refA.restarted, refB := s.riu.refB.restarted, selection := none }
    tb := s.tb.resetT }
  if s.riu.selection.isSome then raise .sourceChange s1 else s1

/-- RESET_GROUP with the letter T (R15, R183). -/
def askResetT (s : State) : State × Answer := (resetT s, { status := .ok, body := [] })

/-! ### The command rows -/

/-- READ_TIME (0x10, R14). -/
def execReadTime (s : State) : Result := .next (serve 0x10 true askReadTime s)

/-- SET_TIME (0x11, R13), addressed to the part or broadcast (R173). -/
def execSetTime (broadcast : Bool) (seconds fraction uncertainty : BitVec 32) (s : State) : Result :=
  .next (
    if broadcast then broadcastSetTime seconds.toNat fraction.toNat uncertainty.toNat s
    else serve 0x11 false (askSetTime seconds.toNat fraction.toNat uncertainty.toNat) s)

/-- READ_TIMEBASE (0x12, R35). -/
def execReadTimebase (s : State) : Result := .next (serve 0x12 true askReadTimebase s)

/-- SET_REFERENCE (0x13, R12). -/
def execSetReference (source enable priority : Byte) (delay : BitVec 16) (s : State) : Result :=
  .next (serve 0x13 false (askSetReference source.toNat enable.toNat priority.toNat delay.toNat) s)

/-- SET_LOOP (0x14, R34). -/
def execSetLoop (k : Byte) (threshold : BitVec 32) (rate : BitVec 16) (s : State) : Result :=
  .next (serve 0x14 false (askSetLoop k.toNat threshold.toNat rate.toNat) s)

/-- RESET_GROUP with the letter T (0x72, R15, R36, R183). -/
def execResetGroupT (s : State) : Result := .next (serve 0x72 false askResetT s)

/-! ### The Timebase at a warm start (R17, R30) -/

/-- The discipline record after a warm start with a backup duration in seconds (R30). -/
def Timebase.warmStarted (t : Timebase) (duration : Nat) : Timebase :=
  let u := { t.clearRuns with uncertainty := addUpTo maxUncertainty t.uncertainty (duration * 200) }
  u.letGo (if t.state = .free then .free else .holdover)

/-- The Timebase and the Reference Input Unit at a warm start (R17, R30). -/
def warmTimebase (duration : Nat) (s : State) : State :=
  let s1 := { s with
    riu := { refA := s.riu.refA.restarted, refB := s.riu.refB.restarted, selection := none }
    tb := s.tb.warmStarted duration }
  evalQuality (
    if s.tb.state = .locked ∨ s.tb.state = .acquire then raise .holdoverEntered s1 else s1)

end Sys2Proof.Machine
end

