-- ==== Sys2Proof/Machine/TripInputs.lean ====
section
/-! DEFINITION. The Trip Input Unit (chapter 3): edges, chatter, confirmations, test mode, the input
commands and the rebuild of the inputs at a start. -/

namespace Sys2Proof.Machine

/-! ### Edges (R40, R41, R43, R45, R46) -/

/-- The configured settings are taken into force (R40). -/
def TripInput.takeSettings (t : TripInput) : TripInput := { t with inForce := t.config }

/-- A chatter: the pending change is abandoned and counted (R45). -/
def TripInput.chatters (t : TripInput) (back : FilterState) : TripInput :=
  { t with filter := back, chatter := bump 255 t.chatter }

/-- A trip input after an edge to closed (R41, R45, R46). -/
def TripInput.closingEdge (t : TripInput) (stamp : Stamp) (test : Bool) : TripInput :=
  match t.filter with
  | .idle =>
    if t.config.enable then { t.takeSettings with filter := .pendingAssert stamp test }
    else t.takeSettings
  | .pendingRelease _ => t.chatters .asserted
  | _ => t

/-- A trip input after an edge to open (R43, R45, R46). -/
def TripInput.openingEdge (t : TripInput) (stamp : Stamp) : TripInput :=
  match t.filter with
  | .idle => if t.inForce.enable then t else t.takeSettings
  | .pendingAssert _ _ => t.chatters .idle
  | .asserted => { t.takeSettings with filter := .pendingRelease stamp }
  | .pendingRelease _ => t

/-- TRIP_CONTACT_EDGE: a change of level at a trip contact (R38, R41). In BACKUP the change reaches the
contact and is lost to the part. A step to the level the contact already has is no edge and has no effect. -/
def execTripContactEdge (u : UnitId) (i : InputId) (closed : Bool) (s : State) : Result :=
  let t := s.input u i
  .next (
    if t.closed = closed then s
    else
      let t1 := { t with closed := closed }
      if s.powered then
        s.setInput u i
          (if closed then t1.closingEdge s.now (s.tiu.testMode.get u) else t1.openingEdge s.now)
      else s.setInput u i t1)

/-! ### Confirmations (R42, R44) -/

/-- The assertion that an input hands on, with the settings in force (R42). -/
def TripInput.assertion (t : TripInput) (u : UnitId) (i : InputId) (stamp : Stamp) (test : Bool) :
    Assertion :=
  { unit := u, input := i, stamp := stamp, cls := t.inForce.cls, stops := t.inForce.stops,
    priority := t.inForce.priority, test := test }

/-- The elapsed count at which a pending change of an input is confirmed (R42, R44). -/
def TripInput.confirmAt (t : TripInput) (stamp : Stamp) : Nat :=
  stamp.elapsed + filterTime t.inForce.exponent

/-- An assertion confirmation of the input is due (R42). -/
def assertionDue (s : State) (u : UnitId) (i : InputId) : Bool :=
  match (s.input u i).filter with
  | .pendingAssert stamp _ => s.powered && s.reached ((s.input u i).confirmAt stamp)
  | _ => false

/-- A release confirmation of the input is due (R44). -/
def releaseDue (s : State) (u : UnitId) (i : InputId) : Bool :=
  match (s.input u i).filter with
  | .pendingRelease stamp => s.powered && s.reached ((s.input u i).confirmAt stamp)
  | _ => false

/-- ASSERTION_CONFIRMATION: the filter time has passed in PENDING_ASSERT; the input becomes ASSERTED and a
confirmed assertion goes to the Case Table (R42). Taken when no confirmation is due, it has no effect. -/
def execAssertionConfirmation (u : UnitId) (i : InputId) (s : State) : Result :=
  let t := s.input u i
  .next (
    match t.filter with
    | .pendingAssert stamp test =>
      if assertionDue s u i then
        takeAssertion (t.assertion u i stamp test) (s.setInput u i { t with filter := .asserted })
      else s
    | _ => s)

/-- RELEASE_CONFIRMATION: the filter time has passed in PENDING_RELEASE; the input becomes IDLE and a
confirmed release goes to the Case Table (R44). Taken when no confirmation is due, it has no effect. -/
def execReleaseConfirmation (u : UnitId) (i : InputId) (s : State) : Result :=
  let t := s.input u i
  .next (
    match t.filter with
    | .pendingRelease stamp =>
      if releaseDue s u i then
        takeRelease u i (some stamp) (s.setInput u i { t with filter := .idle })
      else s
    | _ => s)

/-! ### Commands (R48, R53, R54) -/

/-- Five settings in a reply (R191). -/
def inputBytes (x : InputSettings) : List Byte :=
  toBytes 1 x.enable.toNat ++ toBytes 1 (classCode x.cls) ++ toBytes 1 x.stops.toNat
    ++ toBytes 1 x.priority ++ toBytes 1 x.exponent

/-- SET_INPUT (R53). -/
def askSetInput (unit input enable cls stops priority exponent : Nat) (s : State) : State × Answer :=
  match unitOf? unit, inputOf? input, flagOf? enable, classOf? cls, flagOf? stops with
  | some u, some i, some en, some c, some st =>
    let p := clamp 0 3 priority
    let n := clamp 0 5 exponent
    let t := { s.input u i with
      config := { enable := en, cls := c, stops := st, priority := p, exponent := n } }
    (s.setInput u i t,
     { status := okOrClamped (p != priority || n != exponent)
       body := inputBytes t.config ++ inputBytes t.inForce })
  | _, _, _, _, _ => (s, refuse .outOfRange)

/-- The pending stamp of a filter state (R41). -/
def FilterState.stamp : FilterState → Option Stamp
  | .pendingAssert t _ => some t
  | .pendingRelease t => some t
  | _ => none

/-- READ_INPUT (R54): the chatter count is cleared, once returned, when the clear flag is 1. -/
def askReadInput (unit input clear : Nat) (s : State) : State × Answer :=
  match unitOf? unit, inputOf? input, flagOf? clear with
  | some u, some i, some cl =>
    let t := s.input u i
    (if cl then s.setInput u i { t with chatter := 0 } else s,
     { status := .ok
       body := inputBytes t.config ++ inputBytes t.inForce ++ toBytes 1 (filterCode t.filter)
         ++ toBytes 1 t.filter.stamp.isSome.toNat ++ optStamp t.filter.stamp ++ toBytes 1 t.chatter
         ++ toBytes 1 t.closed.toNat ++ toBytes 1 (s.tiu.testMode.get u).toNat
         ++ toBytes 4 (longestFilter (s.tiu.inputs.get u)) })
  | _, _, _ => (s, refuse .outOfRange)

/-- SET_TEST_MODE (R48). -/
def askSetTestMode (unit mode : Nat) (s : State) : State × Answer :=
  match unitOf? unit, flagOf? mode with
  | some u, some m =>
    let modes := s.tiu.testMode.set u m
    ({ s with tiu := { s.tiu with testMode := modes } },
     { status := .ok, body := unitSetByte modes })
  | _, _ => (s, refuse .outOfRange)

/-- SET_INPUT (0x20, R53). -/
def execSetInput (unit input enable cls stops priority exponent : Byte) (s : State) : Result :=
  .next (serve 0x20 false
    (askSetInput unit.toNat input.toNat enable.toNat cls.toNat stops.toNat priority.toNat exponent.toNat) s)

/-- READ_INPUT (0x21, R54): at the hold-up test it is refused only with its clear flag 1 (R178). -/
def execReadInput (unit input clear : Byte) (s : State) : Result :=
  .next (serve 0x21 (clear.toNat != 1) (askReadInput unit.toNat input.toNat clear.toNat) s)

/-- SET_TEST_MODE (0x22, R48). -/
def execSetTestMode (unit mode : Byte) (s : State) : Result :=
  .next (serve 0x22 false (askSetTestMode unit.toNat mode.toNat) s)

/-! ### Backup and starts (R50, R51) -/

/-- A pending change is lost with its stamp (R50). -/
def FilterState.dropPending : FilterState → FilterState
  | .idle | .pendingAssert _ _ => .idle
  | .asserted | .pendingRelease _ => .asserted

/-- The inputs at the entry to BACKUP: pending changes are lost (R50). -/
def dropPendingInputs (t : Tiu) : Tiu :=
  { t with inputs := t.inputs.map fun p => p.map fun x => { x with filter := x.filter.dropPending } }

/-- An input's filter record as a start rebuilds it from the level found (R51, R52). -/
def TripInput.rebuilt (t : TripInput) : TripInput :=
  { t with
    inForce := t.config, chatter := 0
    filter := if t.config.enable && t.closed then .asserted else .idle }

/-- All inputs' filter records rebuilt (R51, R52). -/
def rebuildInputs (t : Tiu) : Tiu := { t with inputs := t.inputs.map fun p => p.map TripInput.rebuilt }

/-- What a rebuilt input hands on: a restart assertion for a closed contact whose case is not asserted,
an unobserved release for a case found open or disabled (R51). -/
def handOnRestart (stamp : Stamp) (s : State) (x : UnitId × InputId) : State :=
  let t := s.input x.1 x.2
  let held :=
    match s.inputCase x.1 x.2 with
    | some (_, c) => c.asserted
    | none => false
  if t.filter = .asserted then
    if held then s
    else takeAssertion (t.assertion x.1 x.2 stamp (s.tiu.testMode.get x.1)) s
  else if held then takeRelease x.1 x.2 none s
  else s

/-- The Trip Input Unit at a start: every input is rebuilt, and the assertions and unobserved releases are
handed on in input order with one restart stamp (R51, R52). -/
def restartInputs (s : State) : State :=
  inputOrder.foldl (handOnRestart s.now) { s with tiu := rebuildInputs s.tiu }

end Sys2Proof.Machine
end

