-- ==== Sys2Proof/Machine/SupplyOps.lean ====
section
/-! DEFINITION. The shared operations of the Supply Monitor: the entry to HOLDUP (R194) and what it does
with a supply reading and with PFI (R194, R195). -/

namespace Sys2Proof.Machine

/-- The entry to HOLDUP (R143, R194). -/
def enterHoldup (s : State) : State :=
  commitTrigger (raise .holdup
    { s with spm := { s.spm with supply := .holdup, lowRun := 0, restoreBy := none } })

/-- A supply reading below 88.0 V (R194). -/
def isLow (reading : Nat) : Bool := decide (reading ≤ 879)

/-- A supply reading of 95.0 V or more (R195). -/
def isSound (reading : Nat) : Bool := decide (950 ≤ reading)

/-- The restore timer starts, or keeps its expiry if it runs (R195). -/
def startRestore (s : State) : State :=
  match s.spm.restoreBy with
  | some _ => s
  | none => { s with spm := { s.spm with restoreBy := some (s.elapsed + 1000000) } }

/-- The restore timer stops (R195). -/
def stopRestore (s : State) : State := { s with spm := { s.spm with restoreBy := none } }

/-- The Supply Monitor takes a supply sample (R194, R195). -/
def takeReading (reading : Nat) (s : State) : State :=
  match s.spm.supply with
  | .run =>
    if isLow reading then
      if s.spm.lowRun = 0 then { s with spm := { s.spm with lowRun := 1 } } else enterHoldup s
    else { s with spm := { s.spm with lowRun := 0 } }
  | .holdup =>
    if isSound reading then (if s.spm.pfiStable then s else startRestore s) else stopRestore s
  | .backup => s

/-- The Supply Monitor takes a confirmation of PFI, whose stable level has taken the new level
(R194, R195). -/
def takePfi (s : State) : State :=
  match s.spm.supply with
  | .run => if s.spm.pfiStable then enterHoldup s else s
  | .holdup =>
    if s.spm.pfiStable then stopRestore s
    else
      match s.usm.supplyReading with
      | some v => if isSound v then startRestore s else s
      | none => s
  | .backup => s

end Sys2Proof.Machine
end

