-- ==== Sys2Proof/Machine/Units.lean ====
section
/-! DEFINITION. The Unit State Monitor (chapter 6): samples, speed states, contacts and the unit
commands. -/

namespace Sys2Proof.Machine

/-! ### Speed samples (R97 to R102) -/

/-- The corrected value of a sample (R97). -/
def UnitRecord.corrected (r : UnitRecord) (raw : Nat) : Nat :=
  min 1023 (if r.calMinus then raw - r.calMagnitude else raw + r.calMagnitude)

/-- A sample with this corrected value is valid (R98). -/
def isValid (c : Nat) : Bool := decide (164 ≤ c)

/-- The speed of a valid sample, in tenths of a percent (R98). -/
def speedOf (c : Nat) : Nat := min 1500 ((1500 * ((c : Int) - 205)).tdiv 818).toNat

/-- The speed state after a sample (R100). -/
def nextSpeed (b : Bands) (held : SpeedState) (v : Nat) : SpeedState :=
  match held with
  | .unknown => if b.atSpeedOn ≤ v then .atSpeed else if b.rollingOn ≤ v then .rolling else .standstill
  | .standstill =>
    if b.atSpeedOn ≤ v then .atSpeed else if b.rollingOn ≤ v then .rolling else .standstill
  | .rolling => if b.atSpeedOn ≤ v then .atSpeed else if v < b.rollingOff then .standstill else .rolling
  | .atSpeed => if v < b.atSpeedOff then .rolling else .atSpeed

/-- A unit enters a speed state; entering STANDSTILL sets the start-armed flag (R100, R102). -/
def UnitRecord.enter (r : UnitRecord) (new : SpeedState) : UnitRecord :=
  { r with speed := new, armed := r.armed || (new == .standstill && r.speed != .standstill) }

/-- A start is counted: AT_SPEED is entered with the start-armed flag set (R102). -/
def countsStart (held : SpeedState) (r : UnitRecord) : Bool :=
  held != .atSpeed && r.speed == .atSpeed && r.armed

/-- The start check, the TRIPPED clearing check and the evaluation of the unit mode, for a unit whose speed
state was `held` before the sample (R100 to R102). -/
def settleSpeed (u : UnitId) (held : SpeedState) (r : UnitRecord) (s : State) : State :=
  let counted := countsStart held r
  let r' := UnitRecord.evaluated (UnitRecord.checkTripped { r with armed := r.armed && !counted })
  let s' := s.setUnit u r'
  if counted then countOne u .starts s' else s'

/-- The speed state is evaluated from a valid sample; a sample that keeps the state changes nothing
more (R100). -/
def evalSpeed (u : UnitId) (r : UnitRecord) (v : Nat) (s : State) : State :=
  let new := nextSpeed r.bands r.speed v
  if new = r.speed then s.setUnit u r else settleSpeed u r.speed (r.enter new) s

/-- The speed state is recovered from the sample that ends a signal loss (R101). -/
def recoverSpeed (u : UnitId) (r : UnitRecord) (v : Nat) (s : State) : State :=
  let x := r.enter (nextSpeed r.bands r.speed v)
  settleSpeed u r.speed { x with armed := x.armed && x.speed == .standstill } s

/-- A sample of a speed channel (R96 to R102). -/
def speedSample (u : UnitId) (raw : Nat) (s : State) : State :=
  let r0 := s.unit u
  let c := r0.corrected raw
  let r := { r0 with lastRaw := some raw, lastCorrected := some c }
  let v := speedOf c
  if r.lost then
    if isValid c then
      if r.lossRun < 2 then s.setUnit u { r with lossRun := r.lossRun + 1, lastSpeed := some v }
      else
        recoverSpeed u { r with lost := false, lossRun := 0, lastSpeed := some v } v
          (raiseFor .speedSignalBack u s)
    else s.setUnit u { r with lossRun := 0 }
  else if isValid c then evalSpeed u { r with lossRun := 0, lastSpeed := some v } v s
  else if r.lossRun < 2 then s.setUnit u { r with lossRun := r.lossRun + 1 }
  else raiseFor .speedSignalLost u (s.setUnit u { r with lost := true, lossRun := 0 })

/-- A sample of the supply channel: the reading is stored and handed to the Supply Monitor (R107). -/
def supplySample (raw : Nat) (s : State) : State :=
  let reading := 1500 * raw / 1023
  takeReading reading { s with usm := { s.usm with supplyReading := some reading } }

/-- The channel that completes after a channel: 1 to 9 in order, and then 1 again (R96). -/
def nextChannel : Channel → Channel
  | .speed .u1 => .speed .u2
  | .speed .u2 => .speed .u3
  | .speed .u3 => .speed .u4
  | .speed .u4 => .speed .u5
  | .speed .u5 => .speed .u6
  | .speed .u6 => .speed .u7
  | .speed .u7 => .speed .u8
  | .speed .u8 => .supply
  | .supply => .speed .u1

/-- What a raw value does to the block that owns its channel's state (R96). -/
def takeSample (channel : Channel) (raw : Nat) (s : State) : State :=
  match channel with
  | .speed u => speedSample u raw s
  | .supply => supplySample raw s

/-- SAMPLE_EVENT: the conversion of the channel that the scan has come to completes (R96). A conversion of another
channel cannot complete then, and in BACKUP none completes: the step has no effect. -/
def execSampleEvent (channel : Channel) (raw : BitVec 10) (s : State) : Result :=
  .next (
    if s.powered = true ∧ s.usm.scan = channel then
      takeSample channel raw.toNat { s with usm := { s.usm with scan := nextChannel channel } }
    else s)

/-! ### Contacts (R103) -/

/-- A contact after an edge at an elapsed count (R103). -/
def Contact.edge (c : Contact) (closed : Bool) (now : Nat) : Contact :=
  match c.pending with
  | none => { c with level := closed, pending := some now }
  | some t => { c with level := closed, pending := if closed = c.stable then none else some t }

/-- UNIT_CONTACT_EDGE: a change of level at a breaker or pump-mode contact (R103). In BACKUP the change reaches
the contact and is not watched. A step to the level the contact already has is no edge and has no
effect. -/
def execUnitContactEdge (u : UnitId) (k : ContactId) (closed : Bool) (s : State) : Result :=
  let r := s.unit u
  let c := r.contact k
  .next (
    if c.level = closed then s
    else if s.powered then s.setUnit u (r.setContact k (c.edge closed s.elapsed))
    else s.setUnit u (r.setContact k { c with level := closed }))

/-- The confirmation of a contact is due (R103). -/
def contactDue (s : State) (u : UnitId) (k : ContactId) : Bool :=
  match ((s.unit u).contact k).pending with
  | some t => s.powered && s.reached (t + 80000)
  | none => false

/-- A unit's record after the confirmation of a contact (R103, R104). -/
def UnitRecord.confirm (r : UnitRecord) (k : ContactId) : UnitRecord :=
  let c := r.contact k
  UnitRecord.evaluated (r.setContact k { c with stable := c.level, pending := none })

/-- UNIT_CONTACT_CONFIRMATION: the filter time of a contact has passed; the stable level takes the new level
and the unit mode is evaluated (R103). Taken when no confirmation is due, it has no effect. -/
def execUnitContactConfirmation (u : UnitId) (k : ContactId) (s : State) : Result :=
  .next (if contactDue s u k then s.setUnit u ((s.unit u).confirm k) else s)

/-! ### Commands (R108 to R110) -/

/-- A contact's three bits in a READ_UNIT reply (R191). -/
def contactBits (c : Contact) : List Bool := [c.level, c.stable, c.pending.isSome]

/-- The four bands in the order of the SET_SPEED_BANDS request (R190, R191). -/
def bandBytes (b : Bands) : List Byte :=
  toBytes 2 b.rollingOn ++ toBytes 2 b.rollingOff ++ toBytes 2 b.atSpeedOn ++ toBytes 2 b.atSpeedOff

/-- READ_UNIT's body (R110, R191). -/
def unitBody (r : UnitRecord) (supply : Option Nat) : List Byte :=
  toBytes 1 (modeCode r.mode)
    ++ toBytes 1 (packBits [r.tripped, r.caseHeld, r.armed, r.lost, r.lastRaw.isSome,
        r.lastCorrected.isSome, r.lastSpeed.isSome, supply.isSome])
    ++ toBytes 1 (speedCode r.speed) ++ toBytes 1 r.lossRun ++ optNum 2 r.lastRaw
    ++ optNum 2 r.lastCorrected ++ optNum 2 r.lastSpeed
    ++ toBytes 1 (packBits (contactBits r.breaker ++ contactBits r.pumpMode))
    ++ toBytes 1 r.calMinus.toNat ++ toBytes 1 r.calMagnitude ++ bandBytes r.bands ++ optNum 2 supply

/-- READ_UNIT (R110). -/
def askReadUnit (unit : Nat) (s : State) : State × Answer :=
  match unitOf? unit with
  | some u => (s, { status := .ok, body := unitBody (s.unit u) s.usm.supplyReading })
  | none => (s, refuse .outOfRange)

/-- The bands brought into order, each clamped in turn (R108). -/
def orderBands (rollingOn rollingOff atSpeedOn atSpeedOff : Nat) : Bands :=
  let off := clamp 0 1498 rollingOff
  let on := clamp (off + 1) 1499 rollingOn
  let aOff := clamp on 1499 atSpeedOff
  let aOn := clamp (aOff + 1) 1500 atSpeedOn
  { rollingOn := on, rollingOff := off, atSpeedOn := aOn, atSpeedOff := aOff }

/-- Writes the bands of one unit. -/
def UnitRecord.withBands (r : UnitRecord) (b : Bands) : UnitRecord := { r with bands := b }

/-- The answer of SET_SPEED_BANDS (R108). -/
def bandsAnswer (asked applied : Bands) : Answer :=
  { status := okOrClamped (applied != asked), body := bandBytes applied }

/-- SET_SPEED_BANDS (R108): selector 0 names every unit. -/
def askSetSpeedBands (selector rollingOn rollingOff atSpeedOn atSpeedOff : Nat) (s : State) :
    State × Answer :=
  let b := orderBands rollingOn rollingOff atSpeedOn atSpeedOff
  let a := bandsAnswer
    { rollingOn := rollingOn, rollingOff := rollingOff, atSpeedOn := atSpeedOn, atSpeedOff := atSpeedOff } b
  if selector = 0 then
    ({ s with usm := { s.usm with units := s.usm.units.map fun r => r.withBands b } }, a)
  else
    match unitOf? selector with
    | some u => (s.setUnit u ((s.unit u).withBands b), a)
    | none => (s, refuse .outOfRange)

/-- SET_SPEED_CAL (R109). -/
def askSetSpeedCal (unit sign magnitude : Nat) (s : State) : State × Answer :=
  match unitOf? unit, flagOf? sign with
  | some u, some minus =>
    let m := clamp 0 7 magnitude
    (s.setUnit u { s.unit u with calMinus := minus, calMagnitude := m },
     { status := okOrClamped (m != magnitude), body := toBytes 1 minus.toNat ++ toBytes 1 m })
  | _, _ => (s, refuse .outOfRange)

/-- READ_UNIT (0x40, R110). -/
def execReadUnit (unit : Byte) (s : State) : Result :=
  .next (serve 0x40 true (askReadUnit unit.toNat) s)

/-- SET_SPEED_BANDS (0x41, R108). -/
def execSetSpeedBands (selector : Byte) (rollingOn rollingOff atSpeedOn atSpeedOff : BitVec 16)
    (s : State) : Result :=
  .next (serve 0x41 false
    (askSetSpeedBands selector.toNat rollingOn.toNat rollingOff.toNat atSpeedOn.toNat atSpeedOff.toNat) s)

/-- SET_SPEED_CAL (0x42, R109). -/
def execSetSpeedCal (unit sign magnitude : Byte) (s : State) : Result :=
  .next (serve 0x42 false (askSetSpeedCal unit.toNat sign.toNat magnitude.toNat) s)

/-! ### Starts (R103, R111) -/

/-- A contact as a start finds it: its stable level is the level found (R103). -/
def Contact.found (c : Contact) : Contact := { c with stable := c.level, pending := none }

/-- A unit's record as a warm start leaves it (R111). -/
def UnitRecord.restarted (r : UnitRecord) : UnitRecord :=
  UnitRecord.evaluated { r with
    speed := .unknown, armed := false, lost := false, lossRun := 0, lastRaw := none,
    lastCorrected := none, lastSpeed := none, breaker := r.breaker.found, pumpMode := r.pumpMode.found }

/-- The Unit State Monitor at a warm start (R111). -/
def Usm.restarted (x : Usm) : Usm :=
  { units := x.units.map UnitRecord.restarted, scan := .speed .u1, supplyReading := none }

end Sys2Proof.Machine
end

