-- ==== Sys2Proof/Machine/Supply.lean ====
section
/-! DEFINITION. The Supply Monitor (chapter 11): PFI, hold-up, backup and the two starts. -/

namespace Sys2Proof.Machine

/-! ### PFI and the return from hold-up (R193, R195) -/

/-- The Supply Monitor after an edge at PFI (R193). -/
def Spm.edge (x : Spm) (asserted : Bool) (now : Nat) : Spm :=
  match x.pfiPending with
  | none => { x with pfiLevel := asserted, pfiPending := some now }
  | some t =>
    { x with pfiLevel := asserted, pfiPending := if asserted = x.pfiStable then none else some t }

/-- PFI_EDGE: a change of level at PFI (R193). In BACKUP the filter is stopped and only the level changes. A
step to the level PFI already has is no edge and has no effect. -/
def execPfiEdge (asserted : Bool) (s : State) : Result :=
  .next (
    if s.spm.pfiLevel = asserted then s
    else if s.powered then { s with spm := s.spm.edge asserted s.elapsed }
    else { s with spm := { s.spm with pfiLevel := asserted } })

/-- The confirmation of PFI is due (R193). -/
def pfiDue (s : State) : Bool :=
  match s.spm.pfiPending with
  | some t => s.powered && s.reached (t + 10000)
  | none => false

/-- The stable level of PFI takes the level at the pin (R193). -/
def Spm.settlePfi (x : Spm) : Spm := { x with pfiStable := x.pfiLevel, pfiPending := none }

/-- PFI_CONFIRMATION: the filter time of PFI has passed (R193 to R195). Taken when no confirmation is due,
it has no effect. -/
def execPfiConfirmation (s : State) : Result :=
  .next (if pfiDue s then takePfi { s with spm := s.spm.settlePfi } else s)

/-- The expiry of the restore timer is due (R195). -/
def restoreDue (s : State) : Bool :=
  match s.spm.restoreBy with
  | some t => s.powered && s.reached t
  | none => false

/-- RESTORE_EXPIRY: the restore timer expires and the supply returns to RUN (R195). Taken when no expiry is
due, it has no effect. -/
def execRestoreExpiry (s : State) : Result :=
  .next (
    if restoreDue s then
      { s with spm := { s.spm with supply := .run, restoreBy := none, lowRun := 0 } }
    else s)

/-! ### Backup (R6, R50, R103, R143, R175, R196) -/

/-- The Timebase at the entry to BACKUP: a hold-back ends, the accumulator starts and the elapsed count is
recorded (R6). A local second boundary that is due is not taken; DESIGN CHOICE (notes/assumptions/31.md). -/
def Timebase.stopped (t : Timebase) : Timebase :=
  { t with holdBack := none, boundaryDue := false, backupAcc := 0, backupEntry := t.elapsed }

/-- A unit's contacts at the entry to BACKUP: their filters stop (R103, R111). -/
def UnitRecord.stopped (r : UnitRecord) : UnitRecord :=
  { r with breaker := { r.breaker with pending := none }, pumpMode := { r.pumpMode with pending := none } }

/-- The Link and Notice Unit at the entry to BACKUP: a frame and a reply are lost, and the outputs are dark or
released (R175, R180, R182). -/
def Lnu.stopped (l : Lnu) : Lnu :=
  { l with
    answering := false, rx := .silent, tx := [], driver := false, attention := false, caseLamp := false,
    handoverLamp := .dark, presenceLine := false }

/-- The Supply Monitor at the entry to BACKUP (R196). -/
def Spm.stopped (x : Spm) : Spm := { x with supply := .backup, pfiPending := none, restoreBy := none }

/-- The controller at the entry to BACKUP: a transaction in flight is abandoned and the request line
falls (R143). -/
def Asc.stopped (a : Asc) : Asc := { a with inFlight := none, busRequest := false }

/-- The entry to BACKUP (R196). -/
def enterBackup (s : State) : State :=
  { s with
    tb := s.tb.stopped
    tiu := dropPendingInputs s.tiu
    usm := { s.usm with units := s.usm.units.map UnitRecord.stopped }
    asc := s.asc.stopped
    lnu := s.lnu.stopped
    spm := s.spm.stopped }

/-- BACKUP_ENTRY: the main supply detector reports that the main domain can no longer run (R196). In BACKUP
already, it has no effect. -/
def execBackupEntry (s : State) : Result := .next (if s.powered then enterBackup s else s)

/-- BACKUP_RETENTION_LOST: the backup supply falls below its retention level, and the retention record is
lost with the contents of the backed-up domain (R196). -/
def execBackupRetentionLost (s : State) : Result :=
  .next (
    if s.spm.supply = .backup then { s with spm := { s.spm with retained := false } } else s)

/-! ### The starts (R197, R198) -/

/-- The receiver after a start of a part whose line may carry a frame (R174, R175). -/
def Rx.restarted : Rx → Rx
  | .silent => .silent
  | _ => .ignoring

/-- The Link and Notice Unit at a start: the straps are read, every flag and unit set is cleared and the link
error count is 0; the masks are kept (R173, R174, R175, R179). -/
def Lnu.restarted (l : Lnu) (address : BitVec 5) (fast : Bool) : Lnu :=
  Lnu.evalAttention { l with
    address := address.toNat, fast := fast, answering := false, rx := l.rx.restarted, tx := [],
    driver := false, errors := 0, flags := PerNotice.fill false, unitSets := emptyUnitSets }

/-- The Supply Monitor's own state at a start, before a hold-up that PFI calls for (R193, R197). -/
def Spm.restarted (x : Spm) : Spm :=
  { x with
    supply := .run, pfiStable := x.pfiLevel, pfiPending := none, lowRun := 0, restoreBy := none,
    retained := true }

/-- A start that finds PFI asserted enters HOLDUP (R197, R198). -/
def holdupIfAsserted (s : State) : State := if s.spm.pfiLevel then enterHoldup s else s

/-- The units whose group is OPEN. -/
def openUnits (t : Tgr) : List UnitId := allUnits.filter fun u => (t.groups.get u).isSome

/-- The Trip Group Resolver at a warm start: every OPEN group closes, with one report for them all
(R73, R92). -/
def warmGroups (s : State) : State :=
  let us := openUnits s.tgr
  if us.isEmpty then s
  else report us (us.foldl (fun s u => closeGroup u .warmStart s) s)

/-- The outputs are driven from their conditions at the end of a start (R182, R197). -/
def driveOutputs (s : State) : State :=
  let s' := evalHandoverLamp (evalCaseLamp s)
  { s' with lnu := { s'.lnu with presenceLine := s'.shc.alarm } }

/-- The warm start (R197), with the backup duration in seconds. The work is done in an order that the
table of R197 allows. -/
def warmStart (address : BitVec 5) (fast : Bool) (duration : Nat) (s : State) : State :=
  let s1 := { s with lnu := s.lnu.restarted address fast, spm := s.spm.restarted }
  let s2 := warmTimebase duration s1
  let s3 := { s2 with usm := s2.usm.restarted }
  let s4 := warmAccounts (warmGroups s3)
  let s5 := holdupIfAsserted (warmStore s4)
  let s6 := warmShift (restartInputs s5)
  driveOutputs (raise .warmStart s6)

/-- The trip inputs at a cold start: the defaults, with the levels at the contacts (R52). -/
def coldInputs (t : Tiu) : Tiu :=
  { State.reset.tiu with
    inputs := t.inputs.map fun p => p.map fun x => { coldInput with closed := x.closed } }

/-- A contact at a cold start (R103). -/
def coldContact (c : Contact) : Contact := { level := c.level, stable := c.level, pending := none }

/-- The units at a cold start, with the levels at the contacts (R112). -/
def coldUnits (x : Usm) : Usm :=
  { State.reset.usm with
    units := x.units.map fun r => UnitRecord.evaluated
      { coldUnit with breaker := coldContact r.breaker, pumpMode := coldContact r.pumpMode } }

/-- The part with every block at its cold-start values, the levels at its pins and the straps as found and
the waiting steps kept (R16, R37, R52, R79, R93, R112, R131, R144, R172, R180, R198). -/
def coldBlocks (address : BitVec 5) (fast : Bool) (s : State) : State :=
  { State.reset with
    tiu := coldInputs s.tiu
    usm := coldUnits s.usm
    lnu := { State.reset.lnu with address := address.toNat, fast := fast }
    spm := { State.reset.spm with pfiLevel := s.spm.pfiLevel, pfiStable := s.spm.pfiLevel }
    pending := s.pending }

/-- The cold start (R198): the blocks take their cold-start values, PFI found asserted enters HOLDUP, and the
inputs found closed hand on their restart assertions. -/
def coldStart (address : BitVec 5) (fast : Bool) (s : State) : State :=
  driveOutputs (restartInputs (holdupIfAsserted (coldBlocks address fast s)))

/-- The backup duration in seconds (R6). -/
def backupDuration (t : Timebase) : Nat := (t.elapsed - t.backupEntry) / 10000000

/-- The boundaries passed in BACKUP are handed to no tally second (R3, R116), and neither is one that was passed in
RUN or HOLDUP and not yet handed on when the entry to BACKUP was taken first in the same instant;
DESIGN CHOICE (notes/assumptions/5.md): the manual does not order the two. -/
def skipBackupBoundaries (s : State) : State :=
  { s with tb := { s.tb with dutyHanded := s.tb.elapsed / 10000000 } }

/-- MAIN_SUPPLY_RETURN: the main supply returns; the retention record decides between a warm and a cold start
(R196). In RUN and HOLDUP the main supply is there and the step has no effect. -/
def execMainSupplyReturn (address : BitVec 5) (fast : Bool) (s : State) : Result :=
  .next (
    if s.spm.supply = .backup then
      if s.spm.retained then
        warmStart address fast (backupDuration s.tb) (skipBackupBoundaries s)
      else coldStart address fast s
    else s)

/-- RESET_PIN: the RESET pin is asserted in RUN or HOLDUP, which makes a warm start with a backup duration of
0 (R17, R197). In BACKUP it is not seen (R196). A local second boundary that is due stays due over the start;
DESIGN CHOICE (notes/assumptions/31.md). -/
def execResetPin (address : BitVec 5) (fast : Bool) (s : State) : Result :=
  .next (if s.powered then warmStart address fast 0 s else s)

end Sys2Proof.Machine
end

