-- ==== Sys2Proof/WellFormed.lean ====
section
/-! DEFINITION. Which terms of `Instr` stand for a step that can happen at all.
Range errors of a request are no matter of form: the part answers them itself (R176). -/

namespace Sys2Proof

/-- The command codes that name a command of the manual (R190). -/
def knownCodes : List Nat :=
  [0x10, 0x11, 0x12, 0x13, 0x14, 0x20, 0x21, 0x22, 0x30, 0x31, 0x32, 0x33, 0x34, 0x35, 0x36, 0x37,
   0x38, 0x40, 0x41, 0x42, 0x48, 0x49, 0x4A, 0x4B, 0x50, 0x51, 0x52, 0x60, 0x62, 0x63, 0x64, 0x65,
   0x66, 0x67, 0x68, 0x69, 0x6A, 0x70, 0x71, 0x72, 0x73]

/-- An instruction is well formed when the step it names can occur on the part:
an unknown command's code names no command (R176), a store record has sixteen bytes (R188) and a roster
fits in one frame, whose body is at most 250 bytes (R185). -/
def Instr.wellFormed : Instr → Bool
  | .unknownCommand code => !knownCodes.contains code.toNat
  | .readBackComplete bytes => bytes.length == 16
  | .storeReadComplete bytes => bytes.length == 16
  | .setRoster minutes => decide (minutes.length ≤ 124)
  | _ => true

end Sys2Proof
end

