-- ==== Sys2Proof/Machine/Link.lean ====
section
/-! DEFINITION. The Link and Notice Unit (chapter 10): bytes and frames, the request that a frame carries, the
end of a reply, and the notice and identification commands. -/

namespace Sys2Proof.Machine

/-! ### Notices, identification and unknown commands (R176, R180, R181, R184) -/

/-- A unit set after a READ_NOTICES: emptied when its flag was set (R181). -/
def takeSet (flag : Bool) (x : PerUnit Bool) : PerUnit Bool := if flag then PerUnit.fill false else x

/-- The Link and Notice Unit after a READ_NOTICES (R181). -/
def Lnu.collected (l : Lnu) : Lnu :=
  Lnu.evalAttention { l with
    flags := PerNotice.fill false
    unitSets :=
      { newCase := takeSet l.flags.newCase l.unitSets.newCase
        firstOutFinal := takeSet l.flags.firstOutFinal l.unitSets.firstOutFinal
        overflow := takeSet l.flags.overflow l.unitSets.overflow
        speedSignalLost := takeSet l.flags.speedSignalLost l.unitSets.speedSignalLost
        speedSignalBack := takeSet l.flags.speedSignalBack l.unitSets.speedSignalBack } }

/-- READ_NOTICES's body (R189). -/
def noticesBody (l : Lnu) : List Byte :=
  toBytes 1 (overview l.flags) ++ noticeBytes l.flags ++ unitSetByte l.unitSets.newCase
    ++ unitSetByte l.unitSets.firstOutFinal ++ unitSetByte l.unitSets.overflow
    ++ unitSetByte l.unitSets.speedSignalLost ++ unitSetByte l.unitSets.speedSignalBack
    ++ noticeBytes l.masks

/-- READ_NOTICES (R181). -/
def askReadNotices (s : State) : State × Answer :=
  ({ s with lnu := s.lnu.collected }, { status := .ok, body := noticesBody s.lnu })

/-- The masks that six mask bytes give (R180, R189). -/
def masksOf (time trip unit store shift supply : Nat) : PerNotice Bool :=
  { sourceChange := testBit time 0, step := testBit time 1, lockGained := testBit time 2
    holdoverEntered := testBit time 3, qualityDrop := testBit time 4
    newCase := testBit trip 0, firstOutFinal := testBit trip 1, overflow := testBit trip 2
    speedSignalLost := testBit unit 0, speedSignalBack := testBit unit 1
    commitDone := testBit store 0, commitFailed := testBit store 1, storeFault := testBit store 2
    suspectLoaded := testBit store 3, queueFull := testBit store 4
    windowOpen := testBit shift 0, overdue := testBit shift 1, presenceLapsed := testBit shift 2
    handoverDone := testBit shift 3
    holdup := testBit supply 0, warmStart := testBit supply 1, coldStart := testBit supply 2 }

/-- No bit of the six mask bytes stands in a position that names no flag (R180). -/
def masksValid (time trip unit store shift supply : Nat) : Bool :=
  decide (time < 32) && decide (trip < 8) && decide (unit < 4) && decide (store < 32) && decide (shift < 16)
    && decide (supply < 8)

/-- SET_NOTICE_MASK (R180). -/
def askSetNoticeMask (time trip unit store shift supply : Nat) (s : State) : State × Answer :=
  if masksValid time trip unit store shift supply then
    let l := Lnu.evalAttention { s.lnu with masks := masksOf time trip unit store shift supply }
    ({ s with lnu := l },
     { status := .ok, body := noticeBytes l.masks ++ toBytes 1 l.attention.toNat })
  else (s, refuse .outOfRange)

/-- IDENTIFY (R184). -/
def askIdentify (s : State) : State × Answer :=
  (s, { status := .ok
        body := toBytes 1 48 ++ toBytes 1 1 ++ toBytes 1 s.lnu.address ++ toBytes 1 s.lnu.fast.toNat
          ++ toBytes 2 s.lnu.errors })

/-- A request whose command code names no command (R176). -/
def askUnknown (s : State) : State × Answer := (s, refuse .unknownCommand)

/-- READ_NOTICES (0x70, R181). -/
def execReadNotices (s : State) : Result := .next (serve 0x70 true askReadNotices s)

/-- SET_NOTICE_MASK (0x71, R180). -/
def execSetNoticeMask (time trip unit store shift supply : Byte) (s : State) : Result :=
  .next (serve 0x71 false
    (askSetNoticeMask time.toNat trip.toNat unit.toNat store.toNat shift.toNat supply.toNat) s)

/-- IDENTIFY (0x73, R184). -/
def execIdentify (s : State) : Result := .next (serve 0x73 true askIdentify s)

/-- An accepted request whose code names no command (R176). A code that names one is no such request, and the
step has no effect. -/
def execUnknownCommand (code : Byte) (s : State) : Result :=
  .next (if knownCodes.contains code.toNat then s else serve code.toNat true askUnknown s)

/-! ### The request in a frame (R176, R178, R190) -/

/-- A command as a frame asks for it: taken in HOLDUP or not, and what its block does. -/
structure Request where
  duringHoldup : Bool
  act : State → State × Answer

/-- A command whose body has one length (R176, R190). -/
def Request.sized (length : Nat) (duringHoldup : Bool) (body : List Byte)
    (act : State → State × Answer) : Request :=
  { duringHoldup := duringHoldup
    act := if body.length = length then act else fun s => (s, refuse .badLength) }

/-- The minutes of a SET_ROSTER body, two bytes each (R190). -/
def bodyMinutes : List Byte → List Nat
  | a :: b :: rest => fromBytes [a, b] :: bodyMinutes rest
  | _ => []

/-- SET_ROSTER's request: the body is the count byte and that many minutes (R176, R190). -/
def rosterRequest (body : List Byte) : Request :=
  { duringHoldup := false
    act :=
      if body.length = 1 + 2 * field body 0 1 then askSetRoster (bodyMinutes (body.drop 1))
      else fun s => (s, refuse .badLength) }

/-- RESET_GROUP by its letter (R183). -/
def askResetGroup (letter : Nat) : State → State × Answer :=
  match letter with
  | 0x54 => askResetT
  | 0x43 => askResetC
  | 0x41 => askResetA
  | 0x53 => askResetS
  | _ => fun s => (s, refuse .outOfRange)

/-- The requests of the time, input and case commands (R190). -/
def requestLow (code : Nat) (b : List Byte) : Option Request :=
  match code with
  | 0x10 => some (.sized 0 true b askReadTime)
  | 0x11 => some (.sized 12 false b (askSetTime (field b 0 4) (field b 4 4) (field b 8 4)))
  | 0x12 => some (.sized 0 true b askReadTimebase)
  | 0x13 => some (.sized 5 false b
      (askSetReference (field b 0 1) (field b 1 1) (field b 2 1) (field b 3 2)))
  | 0x14 => some (.sized 7 false b (askSetLoop (field b 0 1) (field b 1 4) (field b 5 2)))
  | 0x20 => some (.sized 7 false b
      (askSetInput (field b 0 1) (field b 1 1) (field b 2 1) (field b 3 1) (field b 4 1) (field b 5 1)
        (field b 6 1)))
  | 0x21 => some (.sized 3 (!(b.length == 3 && field b 2 1 == 1)) b
      (askReadInput (field b 0 1) (field b 1 1) (field b 2 1)))
  | 0x22 => some (.sized 2 false b (askSetTestMode (field b 0 1) (field b 1 1)))
  | 0x30 => some (.sized 2 true b (askReadCase (field b 0 2)))
  | 0x31 => some (.sized 3 true b (askListCases (field b 0 1) (field b 1 2)))
  | 0x32 => some (.sized 4 false b (askAckCase (field b 0 2) (field b 2 2)))
  | 0x33 => some (.sized 4 false b (askClearCase (field b 0 2) (field b 2 2)))
  | 0x34 => some (.sized 2 false b (askRetireCase (field b 0 2)))
  | 0x35 => some (.sized 1 true b (askReadOverflow (field b 0 1)))
  | 0x36 => some (.sized 1 false b (askClearOverflow (field b 0 1)))
  | 0x37 => some (.sized 1 true b (askReadGroup (field b 0 1)))
  | 0x38 => some (.sized 1 false b (askSetGroupWindow (field b 0 1)))
  | _ => none

/-- The requests of the unit, account and store commands (R190). -/
def requestMid (code : Nat) (b : List Byte) : Option Request :=
  match code with
  | 0x40 => some (.sized 1 true b (askReadUnit (field b 0 1)))
  | 0x41 => some (.sized 9 false b
      (askSetSpeedBands (field b 0 1) (field b 1 2) (field b 3 2) (field b 5 2) (field b 7 2)))
  | 0x42 => some (.sized 3 false b (askSetSpeedCal (field b 0 1) (field b 1 1) (field b 2 1)))
  | 0x48 => some (.sized 2 true b (askReadAccount (field b 0 1) (field b 1 1)))
  | 0x49 => some (.sized 10 false b
      (askPresetAccount (field b 0 1) (field b 1 1) (field b 2 4) (field b 6 4)))
  | 0x4A => some (.sized 2 false b (askRetireAccount (field b 0 1) (field b 1 1)))
  | 0x4B => some (.sized 2 false b (askReinstateAccount (field b 0 1) (field b 1 1)))
  | 0x50 => some (.sized 0 false b askCommit)
  | 0x51 => some (.sized 2 false b (askSetStore (field b 0 1) (field b 1 1)))
  | 0x52 => some (.sized 0 true b askReadStoreStatus)
  | _ => none

/-- The requests of the shift and link commands (R190). -/
def requestHigh (code : Nat) (b : List Byte) : Option Request :=
  match code with
  | 0x60 => some (rosterRequest b)
  | 0x62 => some (.sized 3 false b (askSignOn (field b 0 2) (field b 2 1)))
  | 0x63 => some (.sized 2 false b (askPresence (field b 0 2)))
  | 0x64 => some (.sized 2 false b (askOffer (field b 0 2)))
  | 0x65 => some (.sized 1 true b (askReadHandover (field b 0 1)))
  | 0x66 => some (.sized 5 false b (askAccept (field b 0 2) (field b 2 2) (field b 4 1)))
  | 0x67 => some (.sized 2 false b (askWithdraw (field b 0 2)))
  | 0x68 => some (.sized 0 true b askReadShift)
  | 0x69 => some (.sized 0 true b askReadPreviousShift)
  | 0x6A => some (.sized 4 false b
      (askSetShiftTiming (field b 0 1) (field b 1 1) (field b 2 1) (field b 3 1)))
  | 0x70 => some (.sized 0 true b askReadNotices)
  | 0x71 => some (.sized 6 false b
      (askSetNoticeMask (field b 0 1) (field b 1 1) (field b 2 1) (field b 3 1) (field b 4 1) (field b 5 1)))
  | 0x72 => some (.sized 1 false b (askResetGroup (field b 0 1)))
  | 0x73 => some (.sized 0 true b askIdentify)
  | _ => none

/-- The request of a command code and body; a code that names no command is answered so, in HOLDUP too
(R176, R190). -/
def requestOf (code : Nat) (b : List Byte) : Request :=
  ((requestLow code b).orElse fun _ => (requestMid code b).orElse fun _ => requestHigh code b).getD
    { duringHoldup := true, act := askUnknown }

/-! ### Frames (R173 to R175) -/

/-- The receiver takes a byte (R174). A frame's bytes beyond the 255th are not stored. -/
def Rx.take (r : Rx) (byte : Byte) (stopBit : Bool) : Rx :=
  match r with
  | .silent => .frame [byte] false (!stopBit)
  | .ignoring => .ignoring
  | .frame bytes overlong bad =>
    if bytes.length < 255 then .frame (bytes ++ [byte]) overlong (bad || !stopBit)
    else .frame bytes true (bad || !stopBit)

/-- Writes the receiver. -/
def setRx (r : Rx) (s : State) : State := { s with lnu := { s.lnu with rx := r } }

/-- LINK_BYTE_RECEIVED: a byte arrives on the link (R174). While ANSWERING it is discarded, and so is the
frame it begins (R175). In BACKUP the link is stopped and the step has no effect. -/
def execLinkByteReceived (byte : Byte) (stopBit : Bool) (s : State) : Result :=
  .next (
    if s.powered then
      setRx (if s.lnu.answering then .ignoring else s.lnu.rx.take byte stopBit) s
    else s)

/-- A frame passes tests 1 and 2 (R174). -/
def frameGood (bytes : List Byte) (overlong bad : Bool) : Bool :=
  !overlong && !bad && decide (5 ≤ bytes.length) && decide (bytes.length ≤ 255)
    && (field bytes 1 1 == bytes.length - 4)
    && toBytes 2 (crc16 (bytes.take (bytes.length - 2))).toNat == bytes.drop (bytes.length - 2)

/-- The link error count increments (R174). -/
def countError (s : State) : State :=
  { s with lnu := { s.lnu with errors := bump 65535 s.lnu.errors } }

/-- A broadcast frame: only SET_TIME is acted on, and nothing is answered (R173). -/
def takeBroadcast (code : Nat) (body : List Byte) (s : State) : State :=
  if code = 0x11 ∧ body.length = 12 then
    broadcastSetTime (field body 0 4) (field body 4 4) (field body 8 4) s
  else s

/-- A good frame: a broadcast, a request for this part, or a frame for another slave (R173, R176). -/
def takeFrame (bytes : List Byte) (s : State) : State :=
  let address := field bytes 0 1
  let code := field bytes 2 1
  let body := (bytes.drop 3).take (bytes.length - 5)
  if address = 0 then takeBroadcast code body s
  else if address = s.lnu.address then
    serve code (requestOf code body).duringHoldup (requestOf code body).act s
  else s

/-- FRAME_END: the line has been silent for 2 ms (R174). A frame ends and is checked; the silence after
discarded bytes lets the next byte begin a frame. With no byte before it, or while ANSWERING, it has no
effect. -/
def execFrameEnd (s : State) : Result :=
  .next (
    if s.powered && !s.lnu.answering then
      match s.lnu.rx with
      | .silent => s
      | .ignoring => setRx .silent s
      | .frame bytes overlong bad =>
        let s' := setRx .silent s
        if frameGood bytes overlong bad then takeFrame bytes s' else countError s'
    else s)

/-- REPLY_COMPLETE: the stop bit of the reply's last byte has been sent; the driver is released and the
LNU is READY (R175). With no reply being sent it has no effect. -/
def execReplyComplete (s : State) : Result :=
  .next (
    if s.powered && s.lnu.answering then
      { s with lnu := { s.lnu with answering := false, driver := false, tx := [], rx := .ignoring } }
    else s)

end Sys2Proof.Machine
end

