-- ==== Sys2Proof/Machine/Clock.lean ====
section
/-! DEFINITION. What the part does when no step waits: the expiries that are due ask for their steps, and
otherwise one period of the oscillator passes. -/

namespace Sys2Proof.Machine

/-- A unit's two contacts. -/
def allContacts : List ContactId := [.breaker, .pumpMode]

/-- The loss expiries that are due (R10). -/
def dueLosses (s : State) : List Instr :=
  ([.refA, .refB].filter fun x => (s.riu.source x).lossDue s.elapsed).map Instr.sourceLoss

/-- The confirmations of breaker and pump-mode contacts that are due (R103). -/
def dueContacts (s : State) : List Instr :=
  allUnits.flatMap fun u =>
    (allContacts.filter fun c => contactDue s u c).map fun c => Instr.unitContactConfirmation u c

/-- The confirmations of trip inputs that are due, in input order (R42, R44). -/
def dueInputs (s : State) : List Instr :=
  inputOrder.flatMap fun x =>
    (if assertionDue s x.1 x.2 then [Instr.assertionConfirmation x.1 x.2] else [])
      ++ if releaseDue s x.1 x.2 then [Instr.releaseConfirmation x.1 x.2] else []

/-- The group expiries that are due (R89). -/
def dueGroups (s : State) : List Instr := (allUnits.filter (groupDue s)).map Instr.groupExpiry

/-- An event that is due or not. -/
def whenDue (due : Bool) (i : Instr) : List Instr := if due then [i] else []

/-- Every expiry, confirmation and boundary that is due. Events of one instant may be taken in any order; the
order here is a DESIGN CHOICE (notes/assumptions/3.md). -/
def dueEvents (s : State) : List Instr :=
  whenDue (s.powered && s.tb.boundaryDue) .localSecondBoundary ++ dueLosses s ++ dueContacts s
    ++ whenDue (pfiDue s) .pfiConfirmation ++ dueInputs s ++ dueGroups s
    ++ whenDue (dutyDue s) .dutySecondBoundary ++ whenDue (periodDue s) .commitPeriodExpiry
    ++ whenDue (grantWaitOver s) .grantTimeout ++ whenDue (cycleWaitOver s) .notReadyTimeout
    ++ whenDue (presenceDue s) .presenceExpiry ++ whenDue (restoreDue s) .restoreExpiry

/-- One period of the main oscillator (R1, R2, R4). In the period of a local second boundary the boundary falls due;
it is taken by its own step, so that it has its place among the events of its instant (R24).
DESIGN CHOICE (notes/assumptions/31.md). -/
def oscillatorPeriod (s : State) : State :=
  match s.tb.holdBack with
  | some 0 => holdBackEndPeriod s
  | some (n + 1) => { s with tb := { s.tb with holdBack := some n } }
  | none =>
    if atBoundary s then { s with tb := { s.tb with boundaryDue := true } }
    else { s with tb := s.tb.advanced 1 }

/-- Time passes: in BACKUP one cycle of the watch oscillator; otherwise the due events join the waiting steps
with no time passing, and when none is due one period of the main oscillator passes.
DESIGN CHOICE (notes/assumptions/3.md). -/
def tick (s : State) : State :=
  if s.powered then
    match dueEvents s with
    | [] => oscillatorPeriod s
    | due => { s with pending := s.pending ++ due }
  else watchStep s

end Sys2Proof.Machine
end

