-- ==== Sys2Proof/Machine/Dispatch.lean ====
section
/-! DEFINITION. The dispatch of an instruction to its meaning. -/

namespace Sys2Proof.Machine

/-- The effect of one step of the part on everything but the queue. -/
def exec (i : Instr) (s : State) : Host.Outcome State Fault Refusal :=
  match i with
  | .readTime => Sys2Proof.Machine.execReadTime s
  | .setTime broadcast seconds fraction uncertainty => Sys2Proof.Machine.execSetTime broadcast seconds fraction uncertainty s
  | .readTimebase => Sys2Proof.Machine.execReadTimebase s
  | .setReference source enable priority delay => Sys2Proof.Machine.execSetReference source enable priority delay s
  | .setLoop k threshold rate => Sys2Proof.Machine.execSetLoop k threshold rate s
  | .setInput unit input enable cls stops priority exponent => Sys2Proof.Machine.execSetInput unit input enable cls stops priority exponent s
  | .readInput unit input clear => Sys2Proof.Machine.execReadInput unit input clear s
  | .setTestMode unit mode => Sys2Proof.Machine.execSetTestMode unit mode s
  | .readCase number => Sys2Proof.Machine.execReadCase number s
  | .listCases selector cursor => Sys2Proof.Machine.execListCases selector cursor s
  | .ackCase number badge => Sys2Proof.Machine.execAckCase number badge s
  | .clearCase number badge => Sys2Proof.Machine.execClearCase number badge s
  | .retireCase number => Sys2Proof.Machine.execRetireCase number s
  | .readOverflow unit => Sys2Proof.Machine.execReadOverflow unit s
  | .clearOverflow unit => Sys2Proof.Machine.execClearOverflow unit s
  | .readGroup unit => Sys2Proof.Machine.execReadGroup unit s
  | .setGroupWindow n => Sys2Proof.Machine.execSetGroupWindow n s
  | .readUnit unit => Sys2Proof.Machine.execReadUnit unit s
  | .setSpeedBands selector rollingOn rollingOff atSpeedOn atSpeedOff => Sys2Proof.Machine.execSetSpeedBands selector rollingOn rollingOff atSpeedOn atSpeedOff s
  | .setSpeedCal unit sign magnitude => Sys2Proof.Machine.execSetSpeedCal unit sign magnitude s
  | .readAccount unit kind => Sys2Proof.Machine.execReadAccount unit kind s
  | .presetAccount unit kind lifetime interval => Sys2Proof.Machine.execPresetAccount unit kind lifetime interval s
  | .retireAccount unit kind => Sys2Proof.Machine.execRetireAccount unit kind s
  | .reinstateAccount unit kind => Sys2Proof.Machine.execReinstateAccount unit kind s
  | .commit => Sys2Proof.Machine.execCommit s
  | .setStore mode exponent => Sys2Proof.Machine.execSetStore mode exponent s
  | .readStoreStatus => Sys2Proof.Machine.execReadStoreStatus s
  | .setRoster minutes => Sys2Proof.Machine.execSetRoster minutes s
  | .signOn badge team => Sys2Proof.Machine.execSignOn badge team s
  | .presence badge => Sys2Proof.Machine.execPresence badge s
  | .offer badge => Sys2Proof.Machine.execOffer badge s
  | .readHandover page => Sys2Proof.Machine.execReadHandover page s
  | .accept badge version team => Sys2Proof.Machine.execAccept badge version team s
  | .withdraw badge => Sys2Proof.Machine.execWithdraw badge s
  | .readShift => Sys2Proof.Machine.execReadShift s
  | .readPreviousShift => Sys2Proof.Machine.execReadPreviousShift s
  | .setShiftTiming lead grace interval mode => Sys2Proof.Machine.execSetShiftTiming lead grace interval mode s
  | .readNotices => Sys2Proof.Machine.execReadNotices s
  | .setNoticeMask time trip unit store shift supply => Sys2Proof.Machine.execSetNoticeMask time trip unit store shift supply s
  | .resetGroupT => Sys2Proof.Machine.execResetGroupT s
  | .resetGroupC => Sys2Proof.Machine.execResetGroupC s
  | .resetGroupA => Sys2Proof.Machine.execResetGroupA s
  | .resetGroupS => Sys2Proof.Machine.execResetGroupS s
  | .identify => Sys2Proof.Machine.execIdentify s
  | .unknownCommand code => Sys2Proof.Machine.execUnknownCommand code s
  | .frameEnd => Sys2Proof.Machine.execFrameEnd s
  | .replyComplete => Sys2Proof.Machine.execReplyComplete s
  | .localSecondBoundary => Sys2Proof.Machine.execLocalSecondBoundary s
  | .holdBackEnd => Sys2Proof.Machine.execHoldBackEnd s
  | .dutySecondBoundary => Sys2Proof.Machine.execDutySecondBoundary s
  | .refPulse source => Sys2Proof.Machine.execRefPulse source s
  | .sourceLoss source => Sys2Proof.Machine.execSourceLoss source s
  | .tripContactEdge unit input closed => Sys2Proof.Machine.execTripContactEdge unit input closed s
  | .assertionConfirmation unit input => Sys2Proof.Machine.execAssertionConfirmation unit input s
  | .releaseConfirmation unit input => Sys2Proof.Machine.execReleaseConfirmation unit input s
  | .groupExpiry unit => Sys2Proof.Machine.execGroupExpiry unit s
  | .sampleEvent channel raw => Sys2Proof.Machine.execSampleEvent channel raw s
  | .unitContactEdge unit contact closed => Sys2Proof.Machine.execUnitContactEdge unit contact closed s
  | .unitContactConfirmation unit contact => Sys2Proof.Machine.execUnitContactConfirmation unit contact s
  | .busGrant => Sys2Proof.Machine.execBusGrant s
  | .grantTimeout => Sys2Proof.Machine.execGrantTimeout s
  | .transferComplete => Sys2Proof.Machine.execTransferComplete s
  | .storeWriteCycleDone => Sys2Proof.Machine.execStoreWriteCycleDone s
  | .notReadyTimeout => Sys2Proof.Machine.execNotReadyTimeout s
  | .readBackComplete bytes => Sys2Proof.Machine.execReadBackComplete bytes s
  | .grantWithdrawn => Sys2Proof.Machine.execGrantWithdrawn s
  | .storeReadComplete bytes => Sys2Proof.Machine.execStoreReadComplete bytes s
  | .commitPeriodExpiry => Sys2Proof.Machine.execCommitPeriodExpiry s
  | .presenceExpiry => Sys2Proof.Machine.execPresenceExpiry s
  | .pfiEdge asserted => Sys2Proof.Machine.execPfiEdge asserted s
  | .pfiConfirmation => Sys2Proof.Machine.execPfiConfirmation s
  | .restoreExpiry => Sys2Proof.Machine.execRestoreExpiry s
  | .backupEntry => Sys2Proof.Machine.execBackupEntry s
  | .mainSupplyReturn address fast => Sys2Proof.Machine.execMainSupplyReturn address fast s
  | .resetPin address fast => Sys2Proof.Machine.execResetPin address fast s
  | .watchOscillatorCycle => Sys2Proof.Machine.execWatchOscillatorCycle s
  | .linkByteReceived byte stopBit => Sys2Proof.Machine.execLinkByteReceived byte stopBit s
  | .backupRetentionLost => Sys2Proof.Machine.execBackupRetentionLost s

end Sys2Proof.Machine
end

