-- ==== Sys2Proof/Machine/Step.lean ====
section
/-! DEFINITION. One step of the machine: the step at the front of the queue, or the passing of time. -/

namespace Sys2Proof.Machine

/-- One step: the front of the queue is run with the queue's rest; on an empty queue time passes.
DESIGN CHOICE (notes/assumptions/3.md). -/
def step (s : State) : Host.Outcome State Fault Refusal :=
  match s.pending with
  | [] => .next (tick s)
  | i :: rest => exec i { s with pending := rest }

/-- Puts the command that a word of the opcode table spells at the front of the queue; no word spells one,
so the state is unchanged. -/
def State.withFetchWord (s : State) (nbits w : Nat) : State :=
  match Sys2Proof.decodeTableWord nbits w with
  | some i => { s with pending := i :: s.pending }
  | none => s

end Sys2Proof.Machine
end

