-- ==== Sys2Proof/Safety.lean ====
section
/-! DEFINITION. The terms in which claims are stated: what it is for a request to be answered, which commands
hold-up turns away, what each step may not change, what a count and a queue change do to an account, the
invariants of the part, and the frame that carries a command. -/

namespace Sys2Proof.Safety

open Sys2Proof.Machine

/-! ### Requests and replies -/

/-- A command that changes a record is taken: the part listens (R175) and is not in hold-up (R178). -/
abbrev Taken (s : State) : Prop := s.listening = true ∧ s.spm.supply = .run

/-- A request of this code is being answered with this answer: the LNU is ANSWERING and the reply frame is
being sent (R175, R177). -/
abbrev Answered (code : Nat) (a : Answer) (s t : State) : Prop :=
  t.lnu.answering = true ∧ t.lnu.tx = replyFrame s.lnu.address code a

/-- A request of this code is being answered with this answer, with the driver enabled. That the driver is enabled
at the acceptance instant is the model's choice (notes/assumptions/10.md). -/
abbrev Replied (code : Nat) (a : Answer) (s t : State) : Prop :=
  t.lnu.answering = true ∧ t.lnu.driver = true ∧ t.lnu.tx = replyFrame s.lnu.address code a

/-- Nothing but the link's own sending and receiving differs: no record, flag, mask or output. -/
abbrev SameRecords (s t : State) : Prop :=
  t = { s with lnu := { s.lnu with
    answering := t.lnu.answering, rx := t.lnu.rx, tx := t.lnu.tx, driver := t.lnu.driver } }

/-- A command is answered and changes no record. -/
abbrev OnlyAnswered (i : Instr) (code : Nat) (a : Answer) (s : State) : Prop :=
  ∃ t, exec i s = .next t ∧ Answered code a s t ∧ SameRecords s t

/-- The block fields of two states agree, the Link and Notice Unit apart. -/
abbrev SameBlocks (s t : State) : Prop := t = { s with lnu := t.lnu }

/-- The commands that hold-up turns away (R178): every known command not in its list. A READ_INPUT is turned
away with its clear flag 1. -/
def refusedInHoldup : Instr → Bool
  | .setTime broadcast _ _ _ => !broadcast
  | .readInput _ _ clear => clear == 1#8
  | .setReference .. | .setLoop .. | .setInput .. | .setTestMode .. | .ackCase .. | .clearCase ..
  | .retireCase .. | .clearOverflow .. | .setGroupWindow .. | .setSpeedBands .. | .setSpeedCal ..
  | .presetAccount .. | .retireAccount .. | .reinstateAccount .. | .commit | .setStore .. | .setRoster ..
  | .signOn .. | .presence .. | .offer .. | .accept .. | .withdraw .. | .setShiftTiming ..
  | .setNoticeMask .. | .resetGroupT | .resetGroupC | .resetGroupA | .resetGroupS => true
  | .readTime | .readTimebase | .readCase .. | .listCases .. | .readOverflow .. | .readGroup ..
  | .readUnit .. | .readAccount .. | .readStoreStatus | .readHandover .. | .readShift
  | .readPreviousShift | .readNotices | .identify | .unknownCommand .. => false
  | .frameEnd | .replyComplete | .localSecondBoundary | .holdBackEnd | .dutySecondBoundary | .refPulse ..
  | .sourceLoss .. | .tripContactEdge .. | .assertionConfirmation .. | .releaseConfirmation ..
  | .groupExpiry .. | .sampleEvent .. | .unitContactEdge .. | .unitContactConfirmation .. | .busGrant
  | .grantTimeout | .transferComplete | .storeWriteCycleDone | .notReadyTimeout | .readBackComplete ..
  | .grantWithdrawn | .storeReadComplete .. | .commitPeriodExpiry | .presenceExpiry | .pfiEdge ..
  | .pfiConfirmation | .restoreExpiry | .backupEntry | .mainSupplyReturn .. | .resetPin ..
  | .watchOscillatorCycle | .linkByteReceived .. | .backupRetentionLost => false

/-! ### Frames of the Case Table's commands -/

/-- Only one slot of the Case Table differs, and the tree bits; the overflow records and the case number
counter are kept. -/
abbrev OnlySlot (u : UnitId) (j : SlotId) (s t : State) : Prop :=
  (∀ v k, (v, k) ≠ (u, j) → t.slot v k = s.slot v k) ∧ t.ct.overflow = s.ct.overflow
    ∧ t.ct.counter = s.ct.counter

/-- The unit mode that the flag, the two stable levels and the speed state give (R104). -/
def modeOf (tripped breaker pumpMode : Bool) (speed : SpeedState) : UnitMode :=
  if tripped then .tripped
  else if breaker then (if pumpMode then .pumping else .generating)
  else if speed = .rolling ∨ speed = .atSpeed then .spinning
  else .stopped

/-- A unit's record has taken the report of a change: the case-held indicator says whether the unit holds an asserted
case that is not a TEST case, and the TRIPPED flag clears, with the mode evaluated, exactly in STANDSTILL with no such
case (R73, R105). -/
abbrev TookReport (u : UnitId) (s t : State) : Prop :=
  let r := s.unit u
  let held := (t.unit u).caseHeld
  let clears := r.tripped && r.speed == .standstill && !held
  (held = true ↔
      ∃ j c, t.slot u j = some c ∧ (c.state = .active ∨ c.state = .activeAck) ∧ c.test = false)
    ∧ t.unit u = { r with
        caseHeld := held, tripped := r.tripped && !clears,
        mode := if clears then modeOf false r.breaker.stable r.pumpMode.stable r.speed else r.mode }

/-- Only one unit's running record differs, and it by a report alone (R73, R105). -/
abbrev OnlyReported (u : UnitId) (s t : State) : Prop :=
  t.usm.supplyReading = s.usm.supplyReading ∧ t.usm.scan = s.usm.scan
    ∧ (∀ v, v ≠ u → t.unit v = s.unit v) ∧ TookReport u s t

/-- Only the offer version, moved on by one, and the presence timer and alarm differ in the shift context
(R160, R165). -/
abbrev OnlyVersion (s t : State) : Prop :=
  t.shc = { s.shc with
    version := (s.shc.version + 1) % 65536, presenceBy := t.shc.presenceBy, alarm := t.shc.alarm }

/-- In AUTO mode a badge that is the duty badge restarts the presence timer and switches the alarm off; otherwise
presence stands as it was (R165, R166). -/
abbrev PresenceShown (badge : Nat) (s t : State) : Prop :=
  if s.shc.auto = true ∧ s.shc.duty = some badge then
    t.shc.presenceBy = s.shc.presenceExp.map (fun n => s.elapsed + 600000000 * 2 ^ n)
      ∧ t.shc.alarm = false ∧ t.lnu.presenceLine = false
  else
    t.shc.presenceBy = s.shc.presenceBy ∧ t.shc.alarm = s.shc.alarm
      ∧ t.lnu.presenceLine = s.lnu.presenceLine

/-! ### What a warm start finds -/

/-- A start finds the input enabled by its configuration and its contact closed (R51). -/
abbrev FoundClosed (s : State) (u : UnitId) (i : InputId) : Prop :=
  (s.input u i).config.enable = true ∧ (s.input u i).closed = true

/-- The case is ACTIVE or ACTIVE_ACK. -/
abbrev IsAsserted (c : Case) : Prop := c.state = .active ∨ c.state = .activeAck

/-- A warm start finds no group OPEN, and exactly those inputs closed and enabled whose case is asserted, so that it
closes no group and hands on no assertion and no release (R51, R92). -/
abbrev ContactsAgree (s : State) : Prop :=
  (∀ u, s.tgr.groups.get u = none)
    ∧ ∀ u i, FoundClosed s u i ↔ ∃ j c, s.inputCase u i = some (j, c) ∧ IsAsserted c

/-! ### Counts and queue changes -/

/-- No record is chosen for writing: one is in flight, a load runs, or the store is FROZEN outside HOLDUP with no
commit running (R137). -/
abbrev NoRecordChosen (s : State) : Prop :=
  s.asc.inFlight.isSome = true ∨ isLoadActivity s.asc.activity = true
    ∨ (s.asc.frozen = true ∧ s.spm.supply ≠ .holdup ∧ s.asc.activity ≠ .committing)

/-- A queue change of an account, with the queue then served. An account that was CLEAN or DIRTY enters the queue at
its tail, or becomes DIRTY with QUEUE_FULL when sixteen accounts stand there; with an empty queue and a record to be
chosen its write begins at once. One that was WRITING keeps the change for the end of its write, and one that was
QUEUED stays as it is (R121, R137, R138). -/
abbrev QueueChanged (u : UnitId) (k : Kind) (s t : State) : Prop :=
  let p := (s.account u k).status
  let q := (t.account u k).status
  (NoRecordChosen s →
    ((p = .clean ∨ p = .dirty) → (u, k) ∉ s.asc.queue →
      (s.asc.queue.length < 16 → q = .queued ∧ t.asc = { s.asc with queue := s.asc.queue ++ [(u, k)] }
          ∧ t.lnu.flags.queueFull = s.lnu.flags.queueFull)
        ∧ (16 ≤ s.asc.queue.length → q = .dirty ∧ t.asc = s.asc ∧ t.lnu.flags.queueFull = true))
      ∧ (∀ c, p = .writing c → q = .writing .queue ∧ t.asc = s.asc
          ∧ t.lnu.flags.queueFull = s.lnu.flags.queueFull)
      ∧ (p = .queued → q = .queued ∧ t.asc = s.asc ∧ t.lnu.flags.queueFull = s.lnu.flags.queueFull)
      ∧ ∀ v m, (v, m) ≠ (u, k) → t.account v m = s.account v m)
    ∧ (¬ NoRecordChosen s → (p = .clean ∨ p = .dirty) → s.asc.queue = [] →
        q = .writing .none ∧ t.asc.queue = []
          ∧ ∃ x, t.asc.inFlight = some x ∧ x.item = .account u k ∧ x.origin = .queue
              ∧ x.record = storeRecord u k (t.account u k))

/-- An account and its shift tally have taken one increment: each of the lifetime, the interval and the tally adds one
or stays at its limit, and SATURATED is set where the lifetime was found at its limit. The persistence state is left
open here (R114, R118). -/
abbrev Counted (u : UnitId) (k : Kind) (s t : State) : Prop :=
  let a := s.account u k
  t.account u k = { a with
      lifetime := if a.lifetime < 4294967295 then a.lifetime + 1 else a.lifetime
      interval := if a.interval < 4294967295 then a.interval + 1 else a.interval
      saturated := a.saturated || decide (4294967295 ≤ a.lifetime)
      status := (t.account u k).status }
    ∧ t.tally u k = if s.tally u k < 4294967295 then s.tally u k + 1 else s.tally u k

/-- An increment changes neither a value nor a flag of the account (R114). -/
abbrev AtLimits (a : Account) : Prop :=
  4294967295 ≤ a.lifetime ∧ 4294967295 ≤ a.interval ∧ a.saturated = true

/-- One start or trip has been handed to its account and the queue served: an outstanding account takes it into its
pending amount, a retired one takes nothing, and any other counts it, which is a queue change unless the account stood
at its limits (R114, R117, R118, R121, R129). -/
abbrev CountHanded (u : UnitId) (k : Kind) (s t : State) : Prop :=
  let a := s.account u k
  (∀ n, a.status = .loading n → (u, k) ∉ s.asc.queue →
      t.account u k = { a with status := .loading (if n < 65535 then n + 1 else n) } ∧ t.tally u k = s.tally u k)
    ∧ (isOutstanding a.status = false → a.retired = true →
        t.account u k = { a with status := (t.account u k).status } ∧ t.tally u k = s.tally u k
          ∧ (NoRecordChosen s → t.account u k = a ∧ t.asc = s.asc))
    ∧ (isOutstanding a.status = false → a.retired = false →
        Counted u k s t ∧ (¬ AtLimits a → QueueChanged u k s t)
          ∧ (AtLimits a → NoRecordChosen s → t.account u k = a ∧ t.asc = s.asc))
    ∧ ∀ v m, (v, m) ≠ (u, k) →
        t.account v m = { s.account v m with status := (t.account v m).status } ∧ t.tally v m = s.tally v m

/-! ### The selection and the time of day -/

/-- The timebase state is ACQUIRE or LOCKED exactly while a source is selected (R19). -/
abbrev SelectionAgrees (s : State) : Prop :=
  s.riu.selection = none ↔ s.tb.state = .free ∨ s.tb.state = .holdover

/-- The Timebase has been told of the change of the selection, if there was one: the runs start afresh and the state
changes by the table of R26 (R11, R26). The reported class is left open here. -/
abbrev SelectionTold (s t : State) : Prop :=
  let b := { s.tb with outlierRun := 0, firstOutlier := none, lockRun := 0, reported := t.tb.reported }
  (t.riu.selection = s.riu.selection → t.tb = s.tb ∧ t.lnu.flags = s.lnu.flags)
    ∧ (t.riu.selection ≠ s.riu.selection →
        t.lnu.flags.sourceChange = true
          ∧ (s.riu.selection = none → t.tb = { b with state := .acquire, uncertainty := 1000 })
          ∧ (s.riu.selection ≠ none → t.riu.selection ≠ none →
              t.tb = b ∧ t.lnu.flags.holdoverEntered = s.lnu.flags.holdoverEntered)
          ∧ (t.riu.selection = none → s.tb.state = .locked ∨ s.tb.lockHeld = true →
              t.tb = { b with state := .holdover, trim := s.tb.freq, growthRem := 0 }
                ∧ t.lnu.flags.holdoverEntered = true)
          ∧ (t.riu.selection = none → s.tb.state ≠ .locked → s.tb.lockHeld = false →
              t.tb = { b with state := .free, trim := s.tb.freq, growthRem := 0 }
                ∧ t.lnu.flags.holdoverEntered = s.lnu.flags.holdoverEntered))

/-- The Shift Controller has taken the new time of day (R154). -/
abbrev TookTime (s t : State) : Prop := t.shc = (takeTimeOfDay { t with shc := s.shc }).shc

/-! ### The passing of time and the scan -/

/-- An expiry, a confirmation or a boundary that has fallen due by the counts of the present instant
(R3, R4, R10, R42, R44, R89, R103, R134, R135, R139, R165, R193, R195). -/
def Due (s : State) : Instr → Prop
  | .localSecondBoundary => s.tb.boundaryDue = true
  | .dutySecondBoundary => s.tb.dutyHanded < s.tb.elapsed / 10000000
  | .sourceLoss x =>
    (s.riu.source x).state ≠ .absent
      ∧ ∃ p, (s.riu.source x).lastPulse = some p ∧ p + 15000000 ≤ s.elapsed
  | .assertionConfirmation u i =>
    ∃ p b, (s.input u i).filter = .pendingAssert p b
      ∧ p.elapsed + 5000 * 2 ^ (s.input u i).inForce.exponent ≤ s.elapsed
  | .releaseConfirmation u i =>
    ∃ p, (s.input u i).filter = .pendingRelease p
      ∧ p.elapsed + 5000 * 2 ^ (s.input u i).inForce.exponent ≤ s.elapsed
  | .groupExpiry u => ∃ g, s.tgr.groups.get u = some g ∧ g.closeAt ≤ s.elapsed
  | .unitContactConfirmation u k => ∃ p, ((s.unit u).contact k).pending = some p ∧ p + 80000 ≤ s.elapsed
  | .grantTimeout => ∃ x, s.asc.inFlight = some x ∧ x.phase = .waitGrant ∧ x.grantBy ≤ s.elapsed
  | .notReadyTimeout =>
    ∃ x e, s.asc.inFlight = some x ∧ x.phase = .transfer ∧ x.origin ≠ .read ∧ x.cycleBy = some e ∧ e ≤ s.elapsed
  | .commitPeriodExpiry => s.asc.periodBy ≤ s.elapsed
  | .presenceExpiry => ∃ e, s.shc.presenceBy = some e ∧ e ≤ s.elapsed
  | .pfiConfirmation => ∃ e, s.spm.pfiPending = some e ∧ e + 10000 ≤ s.elapsed
  | .restoreExpiry => ∃ e, s.spm.restoreBy = some e ∧ e ≤ s.elapsed
  | .readTime | .setTime .. | .readTimebase | .setReference .. | .setLoop .. | .setInput .. | .readInput ..
  | .setTestMode .. | .readCase .. | .listCases .. | .ackCase .. | .clearCase .. | .retireCase ..
  | .readOverflow .. | .clearOverflow .. | .readGroup .. | .setGroupWindow .. | .readUnit ..
  | .setSpeedBands .. | .setSpeedCal .. | .readAccount .. | .presetAccount .. | .retireAccount ..
  | .reinstateAccount .. | .commit | .setStore .. | .readStoreStatus | .setRoster .. | .signOn ..
  | .presence .. | .offer .. | .readHandover .. | .accept .. | .withdraw .. | .readShift
  | .readPreviousShift | .setShiftTiming .. | .readNotices | .setNoticeMask .. | .resetGroupT
  | .resetGroupC | .resetGroupA | .resetGroupS | .identify | .unknownCommand .. | .frameEnd
  | .replyComplete | .holdBackEnd | .refPulse .. | .tripContactEdge .. | .sampleEvent ..
  | .unitContactEdge .. | .busGrant | .transferComplete | .storeWriteCycleDone | .readBackComplete ..
  | .grantWithdrawn | .storeReadComplete .. | .pfiEdge .. | .backupEntry | .mainSupplyReturn ..
  | .resetPin .. | .watchOscillatorCycle | .linkByteReceived .. | .backupRetentionLost => False

/-- A channel's number, 1 to 9 (R96). -/
def channelNumber : Channel → Nat
  | .speed u => unitNumber u
  | .supply => 9

/-! ### The command a frame carries (R185, R190) -/

/-- The body length that a command code requires, SET_ROSTER apart (R190). -/
def bodyLength : Nat → Option Nat
  | 0x10 | 0x12 | 0x50 | 0x52 | 0x68 | 0x69 | 0x70 | 0x73 => some 0
  | 0x35 | 0x36 | 0x37 | 0x38 | 0x40 | 0x65 | 0x72 => some 1
  | 0x22 | 0x30 | 0x34 | 0x48 | 0x4A | 0x4B | 0x51 | 0x63 | 0x64 | 0x67 => some 2
  | 0x21 | 0x31 | 0x42 | 0x62 => some 3
  | 0x32 | 0x33 | 0x6A => some 4
  | 0x13 | 0x66 => some 5
  | 0x71 => some 6
  | 0x14 | 0x20 => some 7
  | 0x41 => some 9
  | 0x49 => some 10
  | 0x11 => some 12
  | _ => none

/-- The command code and body with which the station controller orders a command (R183, R190). -/
def requestBytes : Instr → Option (Nat × List Byte)
  | .readTime => some (0x10, [])
  | .setTime _ x f n => some (0x11, toBytes 4 x.toNat ++ toBytes 4 f.toNat ++ toBytes 4 n.toNat)
  | .readTimebase => some (0x12, [])
  | .setReference x e p d => some (0x13, [x, e, p] ++ toBytes 2 d.toNat)
  | .setLoop k t r => some (0x14, [k] ++ toBytes 4 t.toNat ++ toBytes 2 r.toNat)
  | .setInput u i e c t p n => some (0x20, [u, i, e, c, t, p, n])
  | .readInput u i c => some (0x21, [u, i, c])
  | .setTestMode u m => some (0x22, [u, m])
  | .readCase n => some (0x30, toBytes 2 n.toNat)
  | .listCases x c => some (0x31, [x] ++ toBytes 2 c.toNat)
  | .ackCase n b => some (0x32, toBytes 2 n.toNat ++ toBytes 2 b.toNat)
  | .clearCase n b => some (0x33, toBytes 2 n.toNat ++ toBytes 2 b.toNat)
  | .retireCase n => some (0x34, toBytes 2 n.toNat)
  | .readOverflow u => some (0x35, [u])
  | .clearOverflow u => some (0x36, [u])
  | .readGroup u => some (0x37, [u])
  | .setGroupWindow n => some (0x38, [n])
  | .readUnit u => some (0x40, [u])
  | .setSpeedBands x a b c d =>
    some (0x41, [x] ++ toBytes 2 a.toNat ++ toBytes 2 b.toNat ++ toBytes 2 c.toNat ++ toBytes 2 d.toNat)
  | .setSpeedCal u x m => some (0x42, [u, x, m])
  | .readAccount u k => some (0x48, [u, k])
  | .presetAccount u k l i => some (0x49, [u, k] ++ toBytes 4 l.toNat ++ toBytes 4 i.toNat)
  | .retireAccount u k => some (0x4A, [u, k])
  | .reinstateAccount u k => some (0x4B, [u, k])
  | .commit => some (0x50, [])
  | .setStore m n => some (0x51, [m, n])
  | .readStoreStatus => some (0x52, [])
  | .setRoster l => some (0x60, toBytes 1 l.length ++ l.flatMap fun m => toBytes 2 m.toNat)
  | .signOn b t => some (0x62, toBytes 2 b.toNat ++ [t])
  | .presence b => some (0x63, toBytes 2 b.toNat)
  | .offer b => some (0x64, toBytes 2 b.toNat)
  | .readHandover p => some (0x65, [p])
  | .accept b v t => some (0x66, toBytes 2 b.toNat ++ toBytes 2 v.toNat ++ [t])
  | .withdraw b => some (0x67, toBytes 2 b.toNat)
  | .readShift => some (0x68, [])
  | .readPreviousShift => some (0x69, [])
  | .setShiftTiming l g n m => some (0x6A, [l, g, n, m])
  | .readNotices => some (0x70, [])
  | .setNoticeMask a b c d e f => some (0x71, [a, b, c, d, e, f])
  | .resetGroupT => some (0x72, [0x54#8])
  | .resetGroupC => some (0x72, [0x43#8])
  | .resetGroupA => some (0x72, [0x41#8])
  | .resetGroupS => some (0x72, [0x53#8])
  | .identify => some (0x73, [])
  | .unknownCommand c => some (c.toNat, [])
  | .frameEnd | .replyComplete | .localSecondBoundary | .holdBackEnd | .dutySecondBoundary | .refPulse ..
  | .sourceLoss .. | .tripContactEdge .. | .assertionConfirmation .. | .releaseConfirmation ..
  | .groupExpiry .. | .sampleEvent .. | .unitContactEdge .. | .unitContactConfirmation .. | .busGrant
  | .grantTimeout | .transferComplete | .storeWriteCycleDone | .notReadyTimeout | .readBackComplete ..
  | .grantWithdrawn | .storeReadComplete .. | .commitPeriodExpiry | .presenceExpiry | .pfiEdge ..
  | .pfiConfirmation | .restoreExpiry | .backupEntry | .mainSupplyReturn .. | .resetPin ..
  | .watchOscillatorCycle | .linkByteReceived .. | .backupRetentionLost => none

/-- The request frame of a command code and body to an address (R185). -/
def requestFrame (address code : Nat) (body : List Byte) : List Byte :=
  let head := toBytes 1 address ++ toBytes 1 (1 + body.length) ++ toBytes 1 code ++ body
  head ++ toBytes 2 (crc16 head).toNat

/-! ### Invariants -/

/-- A source record is in its ranges (R7, R18). -/
abbrev SourceInRange (v : Source) : Prop :=
  1 ≤ v.priority ∧ v.priority ≤ 2 ∧ v.delay ≤ 65535 ∧ v.run ≤ 8 ∧ v.extra ≤ 255
    ∧ ∀ e, v.lastError = some e → -5000000 ≤ e ∧ e ≤ 4999999

/-- The counts, the discipline record, the accumulator of the watch oscillator and the source records are in their
ranges, the first outlier is absent exactly while the outlier run is 0, the timebase state agrees with the selection,
and the uncertainty is 1,000 cu in ACQUIRE (R1, R2, R4, R6, R7, R12, R19, R22, R23, R28). -/
abbrev TimeInRange (s : State) : Prop :=
  (s.tb.seconds ≤ 4294967295 ∧ s.tb.frac ≤ 9999999 ∧ s.tb.elapsed ≤ 4611686018427387904
      ∧ (∀ n, s.tb.holdBack = some n → n < 200) ∧ s.tb.backupAcc ≤ 32767)
    ∧ (s.tb.freq.natAbs ≤ 20000 ∧ s.tb.trim.natAbs ≤ 20000 ∧ s.tb.trimRem.natAbs ≤ 99)
    ∧ (s.tb.outlierRun ≤ 2 ∧ (s.tb.firstOutlier = none ↔ s.tb.outlierRun = 0)
      ∧ (∀ e, s.tb.firstOutlier = some e → -5000000 ≤ e ∧ e ≤ 4999999) ∧ s.tb.lockRun ≤ 8)
    ∧ (s.tb.uncertainty ≤ 4000000000 ∧ s.tb.growthRem ≤ 99 ∧ (s.tb.state = .acquire → s.tb.uncertainty = 1000))
    ∧ (3 ≤ s.tb.loopExp ∧ s.tb.loopExp ≤ 8 ∧ 1000 ≤ s.tb.stepThreshold ∧ s.tb.stepThreshold ≤ 1000000
      ∧ 1 ≤ s.tb.holdRate ∧ s.tb.holdRate ≤ 10000)
    ∧ SourceInRange s.riu.refA ∧ SourceInRange s.riu.refB ∧ s.riu.refA.priority + s.riu.refB.priority = 3
    ∧ SelectionAgrees s

/-- A hold-back stands at the fraction 9,999,999, and in BACKUP there is none and no boundary is due (R4, R6). -/
abbrev HoldBackSound (s : State) : Prop :=
  (s.tb.holdBack ≠ none → s.tb.frac = 9999999)
    ∧ (s.powered = false → s.tb.holdBack = none ∧ s.tb.boundaryDue = false)

/-- A local second boundary that is due stands at the fraction 9,999,999 with no hold-back in progress (R4). -/
abbrev BoundarySound (s : State) : Prop :=
  s.tb.boundaryDue = true → s.tb.frac = 9999999 ∧ s.tb.holdBack = none

/-- The reported class is the one that the time-set flag and the uncertainty give (R32, R33). -/
abbrev ClassReported (s : State) : Prop :=
  s.tb.reported =
    if s.tb.timeSet = false then .u
    else if s.tb.uncertainty ≤ 10 then .a
    else if s.tb.uncertainty ≤ 1000 then .b
    else if s.tb.uncertainty ≤ 100000 then .c
    else .d

/-- The reported class has worsened, both classes being among A to D (R33). -/
abbrev Worsened (s t : State) : Prop :=
  s.tb.reported ≠ .u ∧ t.tb.reported ≠ .u ∧ qualityCode s.tb.reported < qualityCode t.tb.reported

/-- A unit's bands are in order (R108). -/
abbrev BandsOrdered (b : Bands) : Prop :=
  b.rollingOff < b.rollingOn ∧ b.rollingOn ≤ b.atSpeedOff ∧ b.atSpeedOff < b.atSpeedOn ∧ b.atSpeedOn ≤ 1500

/-- Every unit's bands are in order and every calibration is at most 7 counts (R97, R108). -/
abbrev UnitsInRange (s : State) : Prop :=
  ∀ r ∈ s.usm.units.toList, BandsOrdered r.bands ∧ r.calMagnitude ≤ 7 ∧ r.lossRun ≤ 2

/-- The write-through queue holds at most sixteen accounts and none twice, an account is QUEUED exactly while it stands
in the queue, and a load's record in flight is that of an account whose load is outstanding (R119, R121, R129, R138,
R144). -/
abbrev QueueSound (s : State) : Prop :=
  s.asc.queue.length ≤ 16 ∧ s.asc.queue.Nodup
    ∧ (∀ u k, (s.account u k).status = .queued ↔ (u, k) ∈ s.asc.queue)
    ∧ ∀ x u k, s.asc.inFlight = some x → x.item = .account u k → x.origin = .read ∨ x.origin = .init →
        isOutstanding (s.account u k).status = true

/-- No two cases hold one number, every number and both counters are in 1 to 65,535, a case stands in its own unit's
set, an input has at most one case that is not CLEARED, the handover count of a case is the number of shift increments
since it was opened, and the ids of the OPEN groups are in range and not shared
(R55, R58, R61, R75, R83, R164). -/
abbrev CasesSound (s : State) : Prop :=
  (s.cases.map (·.number)).Nodup
    ∧ (1 ≤ s.ct.counter ∧ s.ct.counter ≤ 65535 ∧ 1 ≤ s.tgr.counter ∧ s.tgr.counter ≤ 65535)
    ∧ (∀ u j c, s.slot u j = some c →
        c.unit = u ∧ 1 ≤ c.number ∧ c.number ≤ 65535 ∧ c.openedIn ≤ s.shc.number
          ∧ c.handovers = min 255 (s.shc.number - c.openedIn))
    ∧ (∀ u j k c d, s.slot u j = some c → s.slot u k = some d → c.input = d.input → c.state ≠ .cleared →
        d.state ≠ .cleared → j = k)
    ∧ (∀ u g, s.tgr.groups.get u = some g → 1 ≤ g.id ∧ g.id ≤ 65535)
    ∧ ∀ u v g h, s.tgr.groups.get u = some g → s.tgr.groups.get v = some h → g.id = h.id → u = v

/-- The shift state agrees with the badge, the offer, the window boundary and the presence timer
(R151, R165). -/
abbrev ShiftSound (s : State) : Prop :=
  (s.shc.state = .noShift ↔ s.shc.duty = none)
    ∧ (s.shc.state = .offered ↔ s.shc.offer.isSome = true)
    ∧ (s.shc.state = .window → s.shc.window.isSome = true)
    ∧ (s.shc.state = .noShift ∨ s.shc.state = .onShift → s.shc.window = none)
    ∧ (s.shc.state = .noShift → s.shc.presenceBy = none)
    ∧ (s.shc.presenceExp = none → s.shc.presenceBy = none)

/-- The restore timer runs only in HOLDUP with PFI released and a reading of 95.0 V or more, and the
low-supply run stays below 2 and is 0 in HOLDUP (R194, R195). -/
abbrev SupplySound (s : State) : Prop :=
  (s.spm.restoreBy.isSome = true →
      s.spm.supply = .holdup ∧ s.spm.pfiStable = false ∧ s.usm.supplyReading.any isSound = true)
    ∧ s.spm.lowRun ≤ 1 ∧ (s.spm.supply = .holdup → s.spm.lowRun = 0)

/-- While the part works, the attention line and the three outputs follow their conditions (R180, R182). -/
abbrev OutputsFollow (s : State) : Prop :=
  s.powered = true →
    s.lnu.attention = anyUnmasked s.lnu.flags s.lnu.masks ∧ s.lnu.caseLamp = lampCondition s.ct
      ∧ s.lnu.handoverLamp = handoverCondition s.shc ∧ s.lnu.presenceLine = s.shc.alarm

/-- In BACKUP the outputs, the request line and the driver are released and nothing is in flight
(R143, R175, R180, R182, R196). -/
abbrev BackupQuiet (s : State) : Prop :=
  s.powered = false →
    s.lnu.attention = false ∧ s.lnu.caseLamp = false ∧ s.lnu.handoverLamp = .dark
      ∧ s.lnu.presenceLine = false ∧ s.lnu.driver = false ∧ s.lnu.answering = false
      ∧ s.asc.busRequest = false ∧ s.asc.inFlight = none ∧ s.tb.holdBack = none

/-- The request line is asserted exactly while a record is in flight, and the link's driver exactly while the
LNU is ANSWERING (R134, R135, R175). That the driver is enabled from the acceptance instant on is the model's choice:
R175 lets up to 5 ms pass (notes/assumptions/10.md). -/
abbrev LinesFollow (s : State) : Prop :=
  s.asc.busRequest = s.asc.inFlight.isSome ∧ s.lnu.driver = s.lnu.answering

end Sys2Proof.Safety
end

