-- ==== Sys2Proof/Certificates/Slice0/Obligations.lean ====
section
/-! DEFINITION. The statements about the model. Where the next state is a `sendReply`, or is `Replied`, the driver
is enabled and the receive buffer put aside at the acceptance instant, which is the model's choice
(notes/assumptions/10.md). The counts that timers and stamps read, `s.elapsed` and `s.now`, are those of the present
period (notes/assumptions/31.md). -/

open Sys2Proof Sys2Proof.Machine Sys2Proof.Safety

/-! ### The whole machine -/

/-- A step with a command at the front of the queue runs that command with the queue's rest. The queue is the
model's own (notes/assumptions/3.md). -/
def Obligations.StepRunsTheFrontCommand : Prop :=
  ∀ (c : Instr) (rest : List Instr) (s : State),
    s.pending = c :: rest → step s = exec c { s with pending := rest }

/-- With no command waiting, the expiries, confirmations and boundaries that are due join the queue, each once, with
no time passing; with none due one period of the main oscillator passes, which counts 1 cu, holds a clock unit
back, ends a hold-back by 1 cu, which increments the seconds, or makes a local second boundary due; in BACKUP one watch
cycle passes, of 305 or 306 cu, and 32,768 of them from an accumulator of 0 add exactly one second (R1, R2, R4,
R6). The queue and its order, the boundary that waits to be taken, a hold-back at another fraction than 9,999,999 and
the counts standing still once the retention is lost are the model's choices (notes/assumptions/3.md, 31.md and
22.md), and that the state outside the backed-up domain stands over a watch cycle is its reading
(notes/assumptions/23.md, DEDUCED). -/
def Obligations.TimePassesWhenNothingWaits : Prop :=
  (∀ s : State, s.pending = [] → s.powered = true →
    (∀ i, Due s i →
      ∃ l, step s = .next { s with pending := l } ∧ l.Nodup ∧ ∀ j, j ∈ l ↔ Due s j)
      ∧ ((∀ i, ¬ Due s i) →
        (s.tb.holdBack = none → s.tb.frac < 9999999 →
          step s = .next { s with tb := { s.tb with
            frac := s.tb.frac + 1, elapsed := min (s.tb.elapsed + 1) (2 ^ 62) } })
          ∧ (s.tb.holdBack = none → s.tb.frac = 9999999 →
            step s = .next { s with tb := { s.tb with boundaryDue := true } })
          ∧ (∀ n, s.tb.holdBack = some (n + 1) →
            step s = .next { s with tb := { s.tb with holdBack := some n } })
          ∧ (s.tb.holdBack = some 0 → s.tb.frac ≤ 9999999 →
            let passes := decide (s.tb.frac = 9999999)
            ∃ t, step s = .next t
              ∧ t.tb = { s.tb with
                  seconds := if passes then (s.tb.seconds + 1) % 4294967296 else s.tb.seconds
                  frac := if passes then 0 else s.tb.frac + 1
                  elapsed := min (s.tb.elapsed + 1) (2 ^ 62), holdBack := none }
              ∧ TookTime s t ∧ t = { s with tb := t.tb, shc := t.shc, lnu := t.lnu })))
    ∧ (∀ s : State, s.spm.supply = .backup →
      (s.pending = [] → step s = exec .watchOscillatorCycle s)
        ∧ (s.spm.retained = false → exec .watchOscillatorCycle s = .next s)
        ∧ (s.spm.retained = true →
          let cu := if 32768 ≤ s.tb.backupAcc + 5760 then 306 else 305
          let carry := decide (9999999 < s.tb.frac + cu)
          exec .watchOscillatorCycle s = .next { s with tb := { s.tb with
            seconds := if carry then (s.tb.seconds + 1) % 4294967296 else s.tb.seconds
            frac := if carry then s.tb.frac + cu - 10000000 else s.tb.frac + cu
            elapsed := min (s.tb.elapsed + cu) (2 ^ 62)
            backupAcc := if cu = 306 then s.tb.backupAcc + 5760 - 32768 else s.tb.backupAcc + 5760 } }))
    ∧ ∀ (t : Timebase) (n : Nat), t.backupAcc = 0 → t.elapsed + 306 * n ≤ 2 ^ 62 →
      (Timebase.watchCycle^[n] t).elapsed = t.elapsed + 305 * n + 5760 * n / 32768
        ∧ (Timebase.watchCycle^[n] t).backupAcc = 5760 * n % 32768
        ∧ (n = 32768 → (Timebase.watchCycle^[n] t).elapsed = t.elapsed + 10000000)

/-- No step and no command of the part ends in a fault or a refusal. The whole claim is the model's reading: the
manual names no condition under which the part stops (notes/assumptions/13.md, DEDUCED). -/
def Obligations.NoStepFaultsOrIsRefused : Prop :=
  (∀ s : State, ∃ t, step s = .next t) ∧ ∀ (i : Instr) (s : State), ∃ t, exec i s = .next t

/-- Each setting of the station is changed by its own command alone: but for the end of a frame, which brings a
command, and the return of the main supply, which may start the part cold (R12, R34, R48, R53, R95, R108, R109,
R149, R152, R153, R173, R180). That no command changes the queue of waiting steps is about the model's own queue
and no rule's (notes/assumptions/3.md). -/
def Obligations.EachSettingHasOneWriter : Prop :=
  ∀ (i : Instr) (s t : State), exec i s = .next t →
    t.pending = s.pending
      ∧ (i ≠ .frameEnd → (∀ a f, i ≠ .mainSupplyReturn a f) →
        ((∀ x e p d, i ≠ .setReference x e p d) → ∀ x,
            (t.riu.source x).enable = (s.riu.source x).enable
              ∧ (t.riu.source x).priority = (s.riu.source x).priority
              ∧ (t.riu.source x).delay = (s.riu.source x).delay)
          ∧ ((∀ k x h, i ≠ .setLoop k x h) →
            t.tb.loopExp = s.tb.loopExp ∧ t.tb.stepThreshold = s.tb.stepThreshold
              ∧ t.tb.holdRate = s.tb.holdRate)
          ∧ ((∀ u j e c x p n, i ≠ .setInput u j e c x p n) → ∀ u j,
            (t.input u j).config = (s.input u j).config)
          ∧ ((∀ u m, i ≠ .setTestMode u m) → t.tiu.testMode = s.tiu.testMode)
          ∧ ((∀ n, i ≠ .setGroupWindow n) → t.tgr.windowExp = s.tgr.windowExp)
          ∧ ((∀ k a b c d, i ≠ .setSpeedBands k a b c d) → ∀ u, (t.unit u).bands = (s.unit u).bands)
          ∧ ((∀ u x m, i ≠ .setSpeedCal u x m) → ∀ u,
            (t.unit u).calMinus = (s.unit u).calMinus ∧ (t.unit u).calMagnitude = (s.unit u).calMagnitude)
          ∧ ((∀ m n, i ≠ .setStore m n) → t.asc.periodExp = s.asc.periodExp)
          ∧ ((∀ l, i ≠ .setRoster l) → t.shc.roster = s.shc.roster)
          ∧ ((∀ l g c m, i ≠ .setShiftTiming l g c m) →
            t.shc.lead = s.shc.lead ∧ t.shc.grace = s.shc.grace ∧ t.shc.presenceExp = s.shc.presenceExp
              ∧ t.shc.auto = s.shc.auto)
          ∧ ((∀ a b c d e f, i ≠ .setNoticeMask a b c d e f) → t.lnu.masks = s.lnu.masks)
          ∧ ((∀ a f, i ≠ .resetPin a f) → t.lnu.address = s.lnu.address ∧ t.lnu.fast = s.lnu.fast))

/-- In HOLDUP every command that R178 does not list is answered HOLDUP and changes nothing, and a broadcast
SET_TIME has no effect (R176, R178). -/
def Obligations.HoldupTurnsAwayChanges : Prop :=
  (∀ (i : Instr) (s : State) (code : Nat) (body : List Byte),
    requestBytes i = some (code, body) → refusedInHoldup i = true → s.listening = true →
    s.spm.supply = .holdup →
      exec i s = .next (sendReply code { status := .holdup, body := [] } s))
    ∧ ∀ (x f n : BitVec 32) (s : State),
        s.spm.supply = .holdup → exec (.setTime true x f n) s = .next s

/-- In BACKUP every step but the return of the main supply leaves all but the counts, the levels at the pins
and the retention record, and only a watch cycle moves the counts (R6, R196). That the loss of the retention leaves
the contents of the domain standing until the cold start is the model's reading (notes/assumptions/22.md, DEDUCED),
and so is that the state outside the domain stands until the start sets it (notes/assumptions/23.md, DEDUCED). -/
def Obligations.BackupChangesOnlyTimeAndPins : Prop :=
  ∀ (i : Instr) (s t : State),
    s.spm.supply = .backup → (∀ a f, i ≠ .mainSupplyReturn a f) → exec i s = .next t →
      t = { s with tb := t.tb, tiu := t.tiu, usm := t.usm, spm := t.spm }
        ∧ (i ≠ .watchOscillatorCycle → t.tb = s.tb)
        ∧ t.tiu.testMode = s.tiu.testMode
        ∧ (∀ u k, t.input u k = { s.input u k with closed := (t.input u k).closed })
        ∧ t.usm.supplyReading = s.usm.supplyReading ∧ t.usm.scan = s.usm.scan
        ∧ (∀ u, t.unit u = { s.unit u with
            breaker := { (s.unit u).breaker with level := (t.unit u).breaker.level }
            pumpMode := { (s.unit u).pumpMode with level := (t.unit u).pumpMode.level } })
        ∧ t.spm = { s.spm with pfiLevel := t.spm.pfiLevel, retained := t.spm.retained }

/-! ### Invariants that every step keeps -/

/-- Every step keeps the Timebase, its discipline record and the source records in their ranges, and the timebase state
in agreement with the selection; every step keeps a hold-back at the fraction 9,999,999, and keeps a boundary that is
due there too, unless a pulse or a SET_TIME is taken before that boundary; and no step but a cold start makes the
elapsed count less (R1, R2, R4, R6, R7, R12, R19, R22, R23, R28). The boundary that waits to be taken, and what a pulse
or a SET_TIME taken before it does, are the model's choices; the elapsed count here is the stored one, which the counts
read in the period of a boundary that is due run ahead of (notes/assumptions/31.md). -/
def Obligations.StepKeepsTimeInRange : Prop :=
  (∀ s t : State, TimeInRange s → step s = .next t → TimeInRange t)
    ∧ (∀ s t : State, HoldBackSound s → BoundarySound s → step s = .next t →
      HoldBackSound t
        ∧ (BoundarySound t
          ∨ s.tb.boundaryDue = true ∧ ∃ i rest, s.pending = i :: rest
            ∧ (i = .frameEnd ∨ (∃ x, i = .refPulse x) ∨ ∃ b x f n, i = .setTime b x f n)))
    ∧ ∀ s t : State, s.tb.elapsed ≤ 2 ^ 62 → step s = .next t →
      s.tb.elapsed ≤ t.tb.elapsed
        ∨ ∃ a f rest, s.pending = .mainSupplyReturn a f :: rest ∧ s.spm.supply = .backup ∧ s.spm.retained = false

/-- Every step leaves the reported class at the class that the time-set flag and the uncertainty give, and QUALITY_DROP
set if that class has worsened among A to D; and a step that sets QUALITY_DROP has worsened it (R32, R33). -/
def Obligations.StepKeepsTheClassReported : Prop :=
  ∀ s t : State, ClassReported s → step s = .next t →
    ClassReported t
      ∧ (Worsened s t → t.lnu.flags.qualityDrop = true)
      ∧ (s.lnu.flags.qualityDrop = false → t.lnu.flags.qualityDrop = true → Worsened s t)

/-- Every step keeps the bands in order, the calibrations at 7 at most and the signal-loss runs at 2 at most; the
shift state in agreement with the badge, the offer, the window boundary and the presence timer; and the restore timer
and the low-supply run to the states that R194 and R195 give them (R97, R99, R108, R151, R165, R194, R195). -/
def Obligations.StepKeepsUnitsShiftAndSupplySound : Prop :=
  (∀ s t : State, UnitsInRange s → step s = .next t → UnitsInRange t)
    ∧ (∀ s t : State, ShiftSound s → step s = .next t → ShiftSound t)
    ∧ ∀ s t : State, SupplySound s → step s = .next t → SupplySound t

/-- Every step keeps the write-through queue at sixteen accounts at most, without repeats and holding exactly the
QUEUED accounts, and a load's record in flight at an account whose load is outstanding
(R119, R121, R129, R138, R144). -/
def Obligations.StepKeepsQueueSound : Prop :=
  ∀ s t : State, QueueSound s → step s = .next t → QueueSound t

/-- Every step keeps the case numbers apart, both counters in 1 to 65,535, each case in its own unit's set, at most one
case of an input that is not CLEARED, the handover counts in agreement with the shift number, and the ids of the OPEN
groups in range and apart (R55, R58, R61, R75, R83, R164). -/
def Obligations.StepKeepsCasesSound : Prop :=
  ∀ s t : State, CasesSound s → step s = .next t → CasesSound t

/-- Every step leaves the attention line and the outputs following their conditions while the part works, the outputs
and lines released in BACKUP, the request line asserted exactly while a record is in flight, and the driver
enabled exactly while ANSWERING; a handover lamp that follows its condition is lit steadily in a window or an offer,
and in the first half of each duty second when it is overdue (R134, R135, R143, R157, R175, R180, R182). That the
driver is enabled from the acceptance instant on is the model's choice (notes/assumptions/10.md). -/
def Obligations.StepKeepsOutputsAndLines : Prop :=
  (∀ s t : State, OutputsFollow s → step s = .next t → OutputsFollow t)
    ∧ (∀ s t : State, BackupQuiet s ∧ LinesFollow s → step s = .next t → BackupQuiet t ∧ LinesFollow t)
    ∧ ∀ s : State, s.powered = true → OutputsFollow s →
      (handoverLampLit s = true ↔
        (s.shc.state = .window ∨ s.shc.state = .offered)
          ∧ (s.shc.overdue = false ∨ s.elapsed % 10000000 < 5000000))

/-- The state after reset meets every invariant. The straps and the levels at the pins that it holds are the
model's choice (notes/assumptions/1.md). -/
def Obligations.ResetMeetsTheInvariants : Prop :=
  TimeInRange State.reset ∧ HoldBackSound State.reset ∧ BoundarySound State.reset ∧ ClassReported State.reset
    ∧ UnitsInRange State.reset ∧ QueueSound State.reset ∧ CasesSound State.reset ∧ ShiftSound State.reset
    ∧ SupplySound State.reset ∧ OutputsFollow State.reset ∧ BackupQuiet State.reset ∧ LinesFollow State.reset

/-! ### Encodings -/

/-- The end of a good frame that carries a command to the part does what the command's own row does; a broadcast
SET_TIME does what its row does, and any other broadcast nothing; a known code with a body of another length than
it requires is answered BAD_LENGTH, an unknown code UNKNOWN_COMMAND whatever its body, and a RESET_GROUP with no
group's letter OUT_OF_RANGE (R173, R174, R175, R176, R183, R185, R190). -/
def Obligations.FrameEndRunsItsCommand : Prop :=
  (∀ (i : Instr) (s : State) (code : Nat) (body : List Byte),
    i.wellFormed = true → requestBytes i = some (code, body) → (∀ x f n, i ≠ .setTime true x f n) →
    s.listening = true → s.lnu.address ≤ 31 →
    s.lnu.rx = .frame (requestFrame s.lnu.address code body) false false →
      exec .frameEnd s = exec i (setRx .silent s))
    ∧ (∀ (s : State) (code : Nat) (body : List Byte), s.powered = true → s.lnu.answering = false →
      code ≤ 255 → body.length ≤ 250 → s.lnu.rx = .frame (requestFrame 0 code body) false false →
        (∀ x f n : BitVec 32, code = 0x11 →
          body = toBytes 4 x.toNat ++ toBytes 4 f.toNat ++ toBytes 4 n.toNat →
            exec .frameEnd s = exec (.setTime true x f n) (setRx .silent s))
          ∧ (code ≠ 0x11 ∨ body.length ≠ 12 → exec .frameEnd s = .next (setRx .silent s)))
    ∧ ∀ (s : State) (code : Nat) (body : List Byte), s.listening = true → s.spm.supply = .run →
      s.lnu.address ≤ 31 → code ≤ 255 → body.length ≤ 250 →
      s.lnu.rx = .frame (requestFrame s.lnu.address code body) false false →
        (∀ n, bodyLength code = some n → body.length ≠ n →
          exec .frameEnd s = .next (sendReply code { status := .badLength, body := [] } (setRx .silent s)))
          ∧ (code = 0x60 → body.length ≠ 1 + 2 * field body 0 1 →
            exec .frameEnd s = .next (sendReply code { status := .badLength, body := [] } (setRx .silent s)))
          ∧ (code ∉ knownCodes →
            exec .frameEnd s =
              .next (sendReply code { status := .unknownCommand, body := [] } (setRx .silent s)))
          ∧ (∀ b : Byte, code = 0x72 → body = [b] → b.toNat ∉ [0x54, 0x43, 0x41, 0x53] →
            exec .frameEnd s =
              .next (sendReply code { status := .outOfRange, body := [] } (setRx .silent s)))

/-- The store record of an account is sixteen bytes, reads as good at its own address, and reads back as the
account it was made from (R133, R188). -/
def Obligations.StoreRecordReadsBack : Prop :=
  ∀ (u : UnitId) (k : Kind) (a : Account),
    a.lifetime ≤ 4294967295 → a.interval ≤ 4294967295 → (∀ x ∈ a.preset, x < 4294967295) →
      (storeRecord u k a).length = 16 ∧ recordGood u k (storeRecord u k a) = true
        ∧ recordAccount (storeRecord u k a) a.status = a

/-! ### Commands: reads and ranges -/

/-- The reads answer at once with the body lengths of R191 and change no record, and a read of a key out of range is
refused with OUT_OF_RANGE and of a case number that no slot holds with NO_SUCH_RECORD; READ_TIME gives the seconds,
the fraction, the class, the elapsed count and the selection of the instant (R14, R35, R72, R76, R77, R94, R110,
R150, R161, R168, R169, R191). -/
def Obligations.ReadsAnswerAndChangeNoRecord : Prop :=
  ∀ s : State, s.listening = true →
    exec .readTime s = .next (sendReply 0x10
        { status := .ok
          body := toBytes 4 s.now.seconds ++ toBytes 4 s.now.frac ++ toBytes 1 (qualityCode s.tb.quality)
            ++ toBytes 8 s.elapsed ++ toBytes 1 (selectionCode s.riu.selection) } s)
      ∧ (∃ b, b.length = 58 ∧ b.take 2 = toBytes 1 (tbStateCode s.tb.state) ++ toBytes 1 (selectionCode s.riu.selection)
          ∧ exec .readTimebase s = .next (sendReply 0x12 { status := .ok, body := b } s))
      ∧ (∃ b, b.length = 98 ∧ b.take 1 = toBytes 1 s.asc.frozen.toNat
          ∧ exec .readStoreStatus s = .next (sendReply 0x52 { status := .ok, body := b } s))
      ∧ (∃ b, b.length = 239 ∧ b.take 1 = toBytes 1 (shiftStateCode s.shc.state)
          ∧ exec .readShift s = .next (sendReply 0x68 { status := .ok, body := b } s))
      ∧ (s.shc.previous = none →
          exec .readPreviousShift s = .next (sendReply 0x69 { status := .noSuchRecord, body := [] } s))
      ∧ (∀ x, s.shc.previous = some x → ∃ b, b.length = 203 ∧ b.take 4 = toBytes 4 x.number
          ∧ exec .readPreviousShift s = .next (sendReply 0x69 { status := .ok, body := b } s))
      ∧ (∃ b, b.length = 25 + 5 * (liveCases s).length ∧ b.take 2 = toBytes 2 s.shc.version
          ∧ exec (.readHandover 0#8) s = .next (sendReply 0x65 { status := .ok, body := b } s))
      ∧ (∀ p : Byte, p = 1#8 ∨ p = 2#8 → ∃ b, b.length = 88 ∧ b.take 2 = toBytes 2 s.shc.version
          ∧ exec (.readHandover p) s = .next (sendReply 0x65 { status := .ok, body := b } s))
      ∧ (∀ p : Byte, 2 < p.toNat →
          exec (.readHandover p) s = .next (sendReply 0x65 { status := .outOfRange, body := [] } s))
      ∧ (∀ (k : Byte) (u : UnitId), k.toNat = unitNumber u →
        (∃ b, b.length = 38 ∧ b.take 2 = toBytes 2 (s.ct.overflow.get u).count
          ∧ exec (.readOverflow k) s = .next (sendReply 0x35 { status := .ok, body := b } s))
        ∧ (∃ b, b.length = 247 ∧ b.take 1 = toBytes 1 s.tgr.windowExp
          ∧ exec (.readGroup k) s = .next (sendReply 0x37 { status := .ok, body := b } s))
        ∧ (∃ b, b.length = 23 ∧ b.take 1 = toBytes 1 (modeCode (s.unit u).mode)
          ∧ exec (.readUnit k) s = .next (sendReply 0x40 { status := .ok, body := b } s)))
      ∧ (∀ k : Byte, k.toNat = 0 ∨ 8 < k.toNat →
        exec (.readOverflow k) s = .next (sendReply 0x35 { status := .outOfRange, body := [] } s)
        ∧ exec (.readGroup k) s = .next (sendReply 0x37 { status := .outOfRange, body := [] } s)
        ∧ exec (.readUnit k) s = .next (sendReply 0x40 { status := .outOfRange, body := [] } s))
      ∧ (∀ (n : BitVec 16) (u : UnitId) (j : SlotId) (c : Case),
        n.toNat ≠ 0 → s.findCase n.toNat = some (u, j, c) →
        ∃ b, b.length = 74 ∧ b.take 2 = toBytes 2 c.number
          ∧ exec (.readCase n) s = .next (sendReply 0x30 { status := .ok, body := b } s))
      ∧ (∀ n : BitVec 16, n.toNat ≠ 0 → s.findCase n.toNat = none →
        exec (.readCase n) s = .next (sendReply 0x30 { status := .noSuchRecord, body := [] } s))
      ∧ (exec (.readCase 0#16) s = .next (sendReply 0x30 { status := .outOfRange, body := [] } s))
      ∧ (∀ cursor : BitVec 16, ∃ b, b.length = 2 + 50 * min 4 (listedCases none cursor.toNat s).length
        ∧ exec (.listCases 0#8 cursor) s = .next (sendReply 0x31 { status := .ok, body := b } s))
      ∧ (∀ (k : Byte) (u : UnitId) (cursor : BitVec 16), k.toNat = unitNumber u →
        ∃ b, b.length = 2 + 50 * min 4 (listedCases (some u) cursor.toNat s).length
          ∧ exec (.listCases k cursor) s = .next (sendReply 0x31 { status := .ok, body := b } s))
      ∧ (∀ (k : Byte) (cursor : BitVec 16), 8 < k.toNat →
        exec (.listCases k cursor) s = .next (sendReply 0x31 { status := .outOfRange, body := [] } s))

/-- The commands that carry a key or a code refuse one out of range with OUT_OF_RANGE and change nothing: a fraction
above 9,999,999, a source other than 1 and 2, a unit 0 or above 8, an input 0 or above 4, a kind above 4, a code
of an enable, class, stops-unit or clear field with no meaning, a case number 0, a badge 0, a team code outside 1 to
15 and a shift number at its end; and the case commands refuse a number that no slot holds with NO_SUCH_RECORD
(R12, R13, R53, R54, R66, R67, R68, R72, R158, R163, R167, R176). That SIGN_ON at the last shift number answers
OUT_OF_RANGE in every state, with the duty held too, is the model's reading (notes/assumptions/29.md, DEDUCED). -/
def Obligations.KeysOutOfRangeAreRefused : Prop :=
  ∀ s : State, Taken s →
    let no (code : Nat) : Host.Outcome State Fault Refusal :=
      .next (sendReply code { status := .outOfRange, body := [] } s)
    let missing (code : Nat) : Host.Outcome State Fault Refusal :=
      .next (sendReply code { status := .noSuchRecord, body := [] } s)
    let noUnit (k : Byte) : Prop := k.toNat = 0 ∨ 8 < k.toNat
    let noTeam (m : Byte) : Prop := m.toNat = 0 ∨ 15 < m.toNat
    (∀ x f n : BitVec 32, 9999999 < f.toNat →
      exec (.setTime false x f n) s = no 0x11 ∧ exec (.setTime true x f n) s = .next s)
      ∧ (∀ (k e p : Byte) (d : BitVec 16), k.toNat = 0 ∨ 2 < k.toNat ∨ 1 < e.toNat →
        exec (.setReference k e p d) s = no 0x13)
      ∧ (∀ k i e c x p n : Byte,
        noUnit k ∨ i.toNat = 0 ∨ 4 < i.toNat ∨ 1 < e.toNat ∨ 3 < c.toNat ∨ 1 < x.toNat →
          exec (.setInput k i e c x p n) s = no 0x20)
      ∧ (∀ k i f : Byte, noUnit k ∨ i.toNat = 0 ∨ 4 < i.toNat ∨ 1 < f.toNat →
        exec (.readInput k i f) s = no 0x21)
      ∧ (∀ n b : BitVec 16,
        (n.toNat = 0 ∨ b.toNat = 0 → exec (.ackCase n b) s = no 0x32 ∧ exec (.clearCase n b) s = no 0x33)
          ∧ (n.toNat = 0 → exec (.retireCase n) s = no 0x34)
          ∧ (n.toNat ≠ 0 → s.findCase n.toNat = none →
            (b.toNat ≠ 0 → exec (.ackCase n b) s = missing 0x32 ∧ exec (.clearCase n b) s = missing 0x33)
              ∧ exec (.retireCase n) s = missing 0x34))
      ∧ (∀ k : Byte, noUnit k → exec (.clearOverflow k) s = no 0x36)
      ∧ (∀ (k kind : Byte) (l i : BitVec 32), noUnit k ∨ 4 < kind.toNat →
        exec (.readAccount k kind) s = no 0x48 ∧ exec (.presetAccount k kind l i) s = no 0x49
          ∧ exec (.retireAccount k kind) s = no 0x4A ∧ exec (.reinstateAccount k kind) s = no 0x4B)
      ∧ (∀ (b v : BitVec 16) (m : Byte), b.toNat = 0 ∨ noTeam m ∨ 4294967295 ≤ s.shc.number →
        exec (.signOn b m) s = no 0x62 ∧ exec (.accept b v m) s = no 0x66)
      ∧ (∀ b : BitVec 16, b.toNat = 0 → exec (.presence b) s = no 0x63)

/-! ### Time (chapters 1 and 2) -/

/-- SET_TIME with no source selected sets the seconds, the fraction and the uncertainty; with a source selected
it sets the seconds alone; in both the time-set flag is set, the elapsed count stands and the Shift Controller
takes the new time; a broadcast does the same and is answered by nothing (R13, R31, R154, R173). That the reply shows
the counts as SET_TIME leaves them, before the insertion of a boundary that is due, is the model's choice
(notes/assumptions/31.md). -/
def Obligations.SetTimeSetsTheTime : Prop :=
  ∀ (s : State) (x f n : BitVec 32), f.toNat ≤ 9999999 → s.spm.supply = .run →
    let v := max 10000 (min n.toNat 4000000000)
    let whole (t : State) : Prop :=
      t.tb = { s.tb with
          seconds := x.toNat, frac := f.toNat, uncertainty := v, growthRem := 0, holdBack := none,
          timeSet := true, reported := t.tb.quality }
        ∧ TookTime s t ∧ t.shc.seenSeconds = x.toNat % 86400 ∧ t.shc.seenFrac = f.toNat
        ∧ t = { s with tb := t.tb, shc := t.shc, lnu := t.lnu }
    let secondsAlone (t : State) : Prop :=
      t.tb = { s.tb with seconds := x.toNat, timeSet := true, reported := t.tb.quality }
        ∧ TookTime s t ∧ t.shc.seenSeconds = x.toNat % 86400 ∧ t.shc.seenFrac = s.tb.frac
        ∧ t = { s with tb := t.tb, shc := t.shc, lnu := t.lnu }
    (s.listening = true → s.riu.selection = none →
      ∃ t, exec (.setTime false x f n) s = .next t
        ∧ Replied 0x11
            { status := if v = n.toNat then .ok else .clamped
              body := toBytes 4 x.toNat ++ toBytes 4 f.toNat ++ toBytes 1 1 ++ toBytes 4 v } s t
        ∧ whole t)
      ∧ (s.listening = true → s.riu.selection ≠ none →
        ∃ t, exec (.setTime false x f n) s = .next t
          ∧ Replied 0x11
              { status := .ok
                body := toBytes 4 x.toNat ++ toBytes 4 s.tb.frac ++ toBytes 1 0 ++ toBytes 4 s.tb.uncertainty } s t
          ∧ secondsAlone t)
      ∧ (s.lnu.answering = false →
        ∃ t, exec (.setTime true x f n) s = .next t ∧ t.lnu.answering = false ∧ t.lnu.tx = s.lnu.tx
          ∧ (s.riu.selection = none → whole t) ∧ (s.riu.selection ≠ none → secondsAlone t))

/-- SET_REFERENCE writes the settings of its source, keeps the two priorities 1 and 2, starts a newly enabled
or disabled source afresh, evaluates the selection, and answers the settings of both sources, with CLAMPED when the
priority was brought into range; a source or enable value out of its codes is refused (R12, R177). -/
def Obligations.SetReferenceWritesTheSettings : Prop :=
  (∀ (s : State) (x : SourceId) (e p : Byte) (d : BitVec 16), Taken s → SelectionAgrees s → e.toNat ≤ 1 →
    let code : Byte := match x with | .refA => 1#8 | .refB => 2#8
    let v := s.riu.source x
    let p' := max 1 (min p.toNat 2)
    let settings (y : Source) : List Byte := toBytes 1 y.enable.toNat ++ toBytes 1 y.priority ++ toBytes 2 y.delay
    ∃ t, exec (.setReference code e p d) s = .next t
      ∧ Replied 0x13
          { status := if p' = p.toNat then .ok else .clamped
            body := settings t.riu.refA ++ settings t.riu.refB } s t
      ∧ (t.riu.source x).enable = (e == 1#8) ∧ (t.riu.source x).priority = p'
      ∧ (t.riu.source x).delay = d.toNat ∧ (t.riu.source x).extra = v.extra
      ∧ (v.enable ≠ (e == 1#8) →
          (t.riu.source x).state = .absent ∧ (t.riu.source x).run = 0
            ∧ (t.riu.source x).lastPulse = none ∧ (t.riu.source x).lastError = none)
      ∧ (v.enable = (e == 1#8) →
          (t.riu.source x).state = v.state ∧ (t.riu.source x).run = v.run
            ∧ (t.riu.source x).lastPulse = v.lastPulse ∧ (t.riu.source x).lastError = v.lastError)
      ∧ (v.priority + (s.riu.source (otherSource x)).priority = 3 → v.priority = 1 ∨ v.priority = 2 →
          (t.riu.source x).priority + (t.riu.source (otherSource x)).priority = 3)
      ∧ t.riu.source (otherSource x) = { s.riu.source (otherSource x) with
          priority := (t.riu.source (otherSource x)).priority }
      ∧ t.riu.selection = t.riu.choice ∧ SelectionTold s t
      ∧ t = { s with tb := t.tb, riu := t.riu, lnu := t.lnu })
    ∧ ∀ (s : State) (k e p : Byte) (d : BitVec 16), Taken s → k.toNat = 0 ∨ 2 < k.toNat ∨ 1 < e.toNat →
      exec (.setReference k e p d) s = .next (sendReply 0x13 { status := .outOfRange, body := [] } s)

/-- SET_LOOP and SET_GROUP_WINDOW store their settings brought to their ranges, echo them, and answer CLAMPED when
one was out of range (R34, R95, R177). -/
def Obligations.ClampedSettingsAreStoredAndEchoed : Prop :=
  (∀ (s : State) (k : Byte) (x : BitVec 32) (h : BitVec 16), Taken s →
    let k' := max 3 (min k.toNat 8)
    let x' := max 1000 (min x.toNat 1000000)
    let h' := max 1 (min h.toNat 10000)
    exec (.setLoop k x h) s = .next (sendReply 0x14
      { status := if k' = k.toNat ∧ x' = x.toNat ∧ h' = h.toNat then .ok else .clamped
        body := toBytes 1 k' ++ toBytes 4 x' ++ toBytes 2 h' }
      { s with tb := { s.tb with loopExp := k', stepThreshold := x', holdRate := h' } }))
    ∧ ∀ (s : State) (n : Byte), Taken s →
      let n' := max 4 (min n.toNat 10)
      exec (.setGroupWindow n) s = .next (sendReply 0x38
        { status := if n' = n.toNat then .ok else .clamped, body := toBytes 1 n' ++ toBytes 2 (2 ^ n') }
        { s with tgr := { s.tgr with windowExp := n' } })

/-- A group T reset puts both sources and the disciplining loop back to their start, raises SOURCE_CHANGE when a
source was selected, and keeps the counts, the uncertainty and the settings (R15, R36). -/
def Obligations.GroupTResetRestartsTheLoop : Prop :=
  ∀ s : State, Taken s →
    ∃ t, exec .resetGroupT s = .next t ∧ Replied 0x72 { status := .ok, body := [] } s t
      ∧ t.riu =
        { refA := { s.riu.refA with state := .absent, run := 0, lastPulse := none, lastError := none, extra := 0 }
          refB := { s.riu.refB with state := .absent, run := 0, lastPulse := none, lastError := none, extra := 0 }
          selection := none }
      ∧ t.tb = { s.tb with
          state := .free, freq := 0, trim := 0, trimRem := 0, outlierRun := 0, firstOutlier := none,
          lockRun := 0, lockHeld := false, growthRem := 0 }
      ∧ t.lnu.flags = (if s.riu.selection = none then s.lnu.flags else s.lnu.flags.set .sourceChange true)
      ∧ t = { s with tb := t.tb, riu := t.riu, lnu := t.lnu }

/-- The selected source is the enabled QUALIFIED source of higher priority, or none; the phase error is the fraction
less the delay, brought into −5,000,000 to +4,999,999 cu by whole seconds; and a loss expiry makes its source ABSENT
with run 0, keeps its last pulse and error, and evaluates the selection, of whose change the Timebase is told
(R10, R11, R18, R26). -/
def Obligations.SelectionIsEvaluated : Prop :=
  (∀ r : Riu, r.refA.priority ≠ r.refB.priority →
    (∀ x, r.choice = some x ↔
      (r.source x).enable = true ∧ (r.source x).state = .qualified
        ∧ ((r.source (otherSource x)).enable = true → (r.source (otherSource x)).state = .qualified →
            (r.source x).priority < (r.source (otherSource x)).priority))
      ∧ (r.choice = none ↔ ∀ x, ¬ ((r.source x).enable = true ∧ (r.source x).state = .qualified)))
    ∧ (∀ f d : Nat, f ≤ 9999999 → d ≤ 65535 →
      -5000000 ≤ phaseError f d ∧ phaseError f d ≤ 4999999
        ∧ (phaseError f d = (f : Int) - d ∨ phaseError f d = (f : Int) - d - 10000000)
        ∧ (f = 9999999 → phaseError f d = -1 - (d : Int)))
    ∧ ∀ (s : State) (x : SourceId) (p : Nat), s.powered = true → SelectionAgrees s →
      (s.riu.source x).state ≠ .absent → (s.riu.source x).lastPulse = some p → p + 15000000 ≤ s.elapsed →
      ∃ t, exec (.sourceLoss x) s = .next t
        ∧ t.riu.source x = { s.riu.source x with state := .absent, run := 0 }
        ∧ t.riu.source (otherSource x) = s.riu.source (otherSource x)
        ∧ t.riu.selection = t.riu.choice ∧ SelectionTold s t
        ∧ t = { s with tb := t.tb, riu := t.riu, lnu := t.lnu }

/-- A pulse less than 5,000,000 cu after the last accepted one only counts as an extra pulse; any other pulse
of an enabled source is accepted: it is measured, its spacing moves the run and the state, and the selection is
evaluated; and a pulse of a source that is not selected then reaches no further than the change of the selection
(R8, R9, R11, R18, R26). -/
def Obligations.PulsesAreAcceptedOrExtra : Prop :=
  ∀ (s : State) (x : SourceId), s.powered = true → (s.riu.source x).enable = true → SelectionAgrees s →
    let v := s.riu.source x
    (∀ p, v.lastPulse = some p → s.elapsed < p + 5000000 →
      exec (.refPulse x) s = .next { s with
        riu := s.riu.setSource x { v with extra := if v.extra < 255 then v.extra + 1 else v.extra } })
      ∧ ((∀ p, v.lastPulse = some p → p + 5000000 ≤ s.elapsed) →
        ∃ t, exec (.refPulse x) s = .next t
          ∧ (t.riu.source x).lastPulse = some s.elapsed
          ∧ (t.riu.source x).lastError = some (phaseError s.now.frac v.delay)
          ∧ (t.riu.source x).extra = v.extra
          ∧ ((∃ p, v.lastPulse = some p ∧ p + 9998000 ≤ s.elapsed ∧ s.elapsed ≤ p + 10002000) →
              (v.run < 7 → (t.riu.source x).run = v.run + 1 ∧ (t.riu.source x).state = .candidate)
                ∧ (7 ≤ v.run → (t.riu.source x).run = 8 ∧ (t.riu.source x).state = .qualified))
          ∧ ((∀ p, v.lastPulse = some p → s.elapsed < p + 9998000 ∨ p + 10002000 < s.elapsed) →
              (t.riu.source x).run = 1 ∧ (t.riu.source x).state = .candidate)
          ∧ t.riu.source (otherSource x) = s.riu.source (otherSource x)
          ∧ t.riu.selection = t.riu.choice ∧ t.tb.elapsed = s.tb.elapsed
          ∧ (t.riu.selection ≠ some x → SelectionTold s t ∧ t.shc = s.shc)
          ∧ t = { s with tb := t.tb, riu := t.riu, shc := t.shc, lnu := t.lnu })

/-- A spaced pulse of a qualified source that is the choice is judged against the step threshold: an outlier joins the
chain of outliers within 100 cu of its first or begins a new chain, and the third of a chain steps the time; any other
pulse updates F and T, ends the chain and, in ACQUIRE, moves the lock run, which leads to LOCKED at 8; in LOCKED the
uncertainty becomes |e| + 2 cu. A source selected by this pulse from none is first taken into ACQUIRE with 1,000 cu
(R20, R21, R22, R24, R25, R26, R27, R28). When a local second boundary is due and the pulse is taken first, the pulse
reads the counts after the boundary's insertion, and a step leaves the boundary its own period to count; the
readings are the model's (notes/assumptions/31.md). -/
def Obligations.SelectedPulseDisciplinesTheTime : Prop :=
  ∀ (s : State) (x : SourceId) (p : Nat), s.powered = true → (s.riu.source x).enable = true →
    (s.riu.source x).lastPulse = some p → p + 9998000 ≤ s.elapsed → s.elapsed ≤ p + 10002000 →
    7 ≤ (s.riu.source x).run → SelectionAgrees s →
    ((s.riu.source (otherSource x)).enable = true → (s.riu.source (otherSource x)).state = .qualified →
      (s.riu.source x).priority < (s.riu.source (otherSource x)).priority) →
    let v := s.riu.source x
    let e := phaseError s.now.frac v.delay
    let told : Timebase := { s.tb with outlierRun := 0, firstOutlier := none, lockRun := 0 }
    let b : Timebase :=
      if s.riu.selection = some x then s.tb
      else if s.riu.selection = none then { told with state := .acquire, uncertainty := 1000 }
      else told
    let joins := ∃ f, b.firstOutlier = some f ∧ 0 < b.outlierRun ∧ (e - f).natAbs ≤ 100
    ∃ t, exec (.refPulse x) s = .next t
      ∧ t.riu.selection = some x
      ∧ t.riu.source x = { v with lastPulse := some s.elapsed, lastError := some e, run := 8, state := .qualified }
      ∧ t = { s with tb := t.tb, riu := t.riu, shc := t.shc, lnu := t.lnu }
      ∧ (b.stepThreshold < e.natAbs → ¬ joins →
          t.shc = s.shc ∧ t.tb = { b with
            outlierRun := 1, firstOutlier := some e
            lockRun := if b.state = .acquire then 0 else b.lockRun
            uncertainty := if b.state = .locked then e.natAbs + 2 else b.uncertainty
            reported := t.tb.reported })
      ∧ (b.stepThreshold < e.natAbs → joins → b.outlierRun < 2 →
          t.shc = s.shc ∧ t.tb = { b with
            outlierRun := b.outlierRun + 1
            lockRun := if b.state = .acquire then 0 else b.lockRun
            uncertainty := if b.state = .locked then e.natAbs + 2 else b.uncertainty
            reported := t.tb.reported })
      ∧ (b.stepThreshold < e.natAbs → joins → 2 ≤ b.outlierRun →
          t.lnu.flags.step = true ∧ TookTime s t
            ∧ t.tb = { b with
                seconds := t.tb.seconds, frac := t.tb.frac, holdBack := none, state := .acquire,
                uncertainty := 1000, trim := b.freq, trimRem := 0, outlierRun := 0, firstOutlier := none,
                lockRun := 0, reported := t.tb.reported }
            ∧ (s.tb.boundaryDue = false →
                let y : Int := (s.tb.frac : Int) - e
                (y < 0 → t.tb.frac = (y + 10000000).toNat
                    ∧ t.tb.seconds = (s.tb.seconds + 4294967295) % 4294967296)
                  ∧ (0 ≤ y → y ≤ 9999999 → t.tb.frac = y.toNat ∧ t.tb.seconds = s.tb.seconds)
                  ∧ (9999999 < y → t.tb.frac = (y - 10000000).toNat
                      ∧ t.tb.seconds = (s.tb.seconds + 1) % 4294967296))
            ∧ (s.now.frac ≤ 9999999 → v.delay ≤ 65535 →
                (s.tb.boundaryDue = false → t.tb.frac = v.delay)
                  ∧ (s.tb.boundaryDue = true → (t.tb.frac + 1) % 10000000 = v.delay)))
      ∧ (e.natAbs ≤ b.stepThreshold →
          let f := max (-20000) (min (b.freq - (e * 100).tdiv (2 ^ b.loopExp)) 20000)
          let locks := b.state = .acquire ∧ e.natAbs ≤ 100 ∧ 7 ≤ b.lockRun
          t.shc = s.shc ∧ (locks → t.lnu.flags.lockGained = true)
            ∧ t.tb = { b with
                freq := f
                trim := max (-20000) (min (f - (e * 100).tdiv 8) 20000)
                outlierRun := 0, firstOutlier := none
                lockRun :=
                  if b.state = .acquire then (if e.natAbs ≤ 100 then min (b.lockRun + 1) 8 else 0) else b.lockRun
                state := if locks then .locked else b.state
                lockHeld := b.lockHeld || decide locks
                uncertainty := if locks ∨ b.state = .locked then e.natAbs + 2 else b.uncertainty
                reported := t.tb.reported })

/-- At a local second boundary the trim and its remainder give applied, T becomes F and, in FREE and HOLDOVER, the
uncertainty grows at H; applied of 0 or more is inserted and the seconds increment; applied below 0 begins a hold-back,
and the period after the hold-back counts 1 cu, which increments the seconds. In the period of an insertion that has not
been taken a stamp reads the counts after it (R1, R4, R5, R23, R24, R29, R154). The boundary that waits to be taken, its
hold-back at another fraction than 9,999,999 and its time of day where the seconds do not increment, each after a step
or a SET_TIME of its instant, are the model's own (notes/assumptions/31.md). -/
def Obligations.SecondBoundaryAppliesTheTrim : Prop :=
  (∀ s : State, s.powered = true → s.tb.boundaryDue = true ∨ (s.tb.frac = 9999999 ∧ s.tb.holdBack = none) →
    let sum := s.tb.trimRem + s.tb.trim
    let applied := sum.tdiv 100
    let count := s.tb.frac + 1 + applied.toNat
    let grows := s.tb.state = .free ∨ s.tb.state = .holdover
    let grown := s.tb.growthRem + s.tb.holdRate
    ∃ t, exec .localSecondBoundary s = .next t
      ∧ t.tb = { s.tb with
          seconds := t.tb.seconds, frac := t.tb.frac, elapsed := t.tb.elapsed, holdBack := t.tb.holdBack
          boundaryDue := false, trimRem := sum - 100 * applied, trim := s.tb.freq
          uncertainty := if grows then min (s.tb.uncertainty + grown / 100) 4000000000 else s.tb.uncertainty
          growthRem := if grows then grown % 100 else s.tb.growthRem
          reported := t.tb.quality }
      ∧ (0 ≤ applied →
          t.tb.elapsed = min (s.tb.elapsed + (1 + applied.toNat)) (2 ^ 62) ∧ t.tb.holdBack = s.tb.holdBack
            ∧ t.tb.frac = (if 9999999 < count then count - 10000000 else count)
            ∧ t.tb.seconds = (if 9999999 < count then (s.tb.seconds + 1) % 4294967296 else s.tb.seconds)
            ∧ TookTime s t
            ∧ (s.tb.boundaryDue = true →
                s.now.seconds = t.tb.seconds ∧ s.now.frac = t.tb.frac ∧ s.elapsed = t.tb.elapsed))
      ∧ (applied < 0 →
          t.tb.seconds = s.tb.seconds ∧ t.tb.frac = s.tb.frac ∧ t.tb.elapsed = s.tb.elapsed
            ∧ t.tb.holdBack = some (applied.natAbs - 1) ∧ t.shc = s.shc
            ∧ s.now.seconds = s.tb.seconds ∧ s.now.frac = s.tb.frac ∧ s.elapsed = s.tb.elapsed)
      ∧ t = { s with tb := t.tb, shc := t.shc, lnu := t.lnu })
    ∧ ∀ s : State, s.powered = true → s.tb.holdBack = some 0 → s.tb.frac ≤ 9999999 →
      let passes := decide (s.tb.frac = 9999999)
      ∃ t, exec .holdBackEnd s = .next t
        ∧ t.tb = { s.tb with
            seconds := if passes then (s.tb.seconds + 1) % 4294967296 else s.tb.seconds
            frac := if passes then 0 else s.tb.frac + 1
            elapsed := min (s.tb.elapsed + 1) (2 ^ 62), holdBack := none }
        ∧ TookTime s t ∧ t = { s with tb := t.tb, shc := t.shc, lnu := t.lnu }

/-! ### Trip inputs (chapter 3) -/

/-- An edge from a stable state is stamped, takes the configured settings into force and begins a pending change;
an edge back during a pending change is a chatter; and an input disabled by the settings that an edge takes stays
IDLE, with no stamp and no chatter, and takes the configured settings at every edge (R41, R43, R45, R46). That an edge
to the level the contact already has changes nothing is the model's choice (notes/assumptions/4.md). -/
def Obligations.EdgesAreStampedOrChatter : Prop :=
  ∀ (s : State) (u : UnitId) (i : InputId), s.powered = true →
    let x := s.input u i
    let more := if x.chatter < 255 then x.chatter + 1 else x.chatter
    (x.closed = false → x.filter = .idle → x.config.enable = true →
      exec (.tripContactEdge u i true) s = .next (s.setInput u i { x with
        closed := true, inForce := x.config, filter := .pendingAssert s.now (s.tiu.testMode.get u) }))
      ∧ (x.closed = true → x.filter = .asserted →
        exec (.tripContactEdge u i false) s = .next (s.setInput u i { x with
          closed := false, inForce := x.config, filter := .pendingRelease s.now }))
      ∧ (∀ p b, x.closed = true → x.filter = .pendingAssert p b →
        exec (.tripContactEdge u i false) s = .next (s.setInput u i { x with
          closed := false, filter := .idle, chatter := more }))
      ∧ (∀ p, x.closed = false → x.filter = .pendingRelease p →
        exec (.tripContactEdge u i true) s = .next (s.setInput u i { x with
          closed := true, filter := .asserted, chatter := more }))
      ∧ (x.closed = false → x.filter = .idle → x.config.enable = false →
        exec (.tripContactEdge u i true) s = .next (s.setInput u i { x with closed := true, inForce := x.config }))
      ∧ (x.closed = true → x.filter = .idle → x.inForce.enable = false →
        exec (.tripContactEdge u i false) s = .next (s.setInput u i { x with
          closed := false, inForce := x.config }))
      ∧ exec (.tripContactEdge u i x.closed) s = .next s

/-- A confirmed assertion of an input that has no case, on a unit whose set gives a slot, opens an ACTIVE case dated
to its edge in that slot, takes the first free number, raises NEW_CASE for the unit and changes the handover content
once (R42, R58, R59, R60, R61, R62, R70, R73). -/
def Obligations.ConfirmedAssertionOpensACase : Prop :=
  ∀ (s : State) (u : UnitId) (i : InputId) (p : Stamp) (test : Bool) (j : SlotId),
    s.powered = true → (s.input u i).filter = .pendingAssert p test →
    p.elapsed + 5000 * 2 ^ (s.input u i).inForce.exponent ≤ s.elapsed →
    s.inputCase u i = none → (s.caseSet u).allocate = some j →
    ∃ t c, exec (.assertionConfirmation u i) s = .next t ∧ t.slot u j = some c
      ∧ c.number = freeNumber ((s.setSlot u j none).cases.map (·.number)) 33 s.ct.counter
      ∧ t.ct.counter = (if c.number < 65535 then c.number + 1 else 1)
      ∧ c.unit = u ∧ c.input = i ∧ c.state = .active ∧ c.test = test ∧ c.cls = (s.input u i).inForce.cls
      ∧ c.assertStamp = p ∧ c.releaseStamp = none ∧ c.lastRetrip = none ∧ c.releaseUnobserved = false
      ∧ c.repeats = 0 ∧ c.openedIn = s.shc.number
      ∧ c.handovers = 0 ∧ c.ackBadge = none ∧ c.clearBadge = none ∧ c.snapMode = (s.unit u).mode
      ∧ c.snapGen = (s.account u .gen).lifetime
      ∧ (t.input u i).filter = .asserted
      ∧ t.lnu.flags.newCase = true ∧ t.lnu.unitSets.newCase.get u = true
      ∧ t.shc = { s.shc with version := (s.shc.version + 1) % 65536 }
      ∧ (∀ v, v ≠ u → t.caseSet v = s.caseSet v ∧ t.unit v = s.unit v)
      ∧ (∀ k, k ≠ j → s.slot u k = none → t.slot u k = none)
      ∧ (∀ k d, k ≠ j → s.slot u k = some d →
          ∃ d', t.slot u k = some d' ∧ d' = { d with firstOut := d'.firstOut, provisional := d'.provisional })
      ∧ t.caseSet u = { (s.caseSet u).touch j with slots := (t.caseSet u).slots }
      ∧ t.ct.overflow = s.ct.overflow
      ∧ t = { s with
          tiu := t.tiu, ct := t.ct, tgr := t.tgr, usm := t.usm, rha := t.rha, asc := t.asc, shc := t.shc,
          lnu := t.lnu }

/-- A confirmed release of an asserted case makes it LATCHED or ACKNOWLEDGED with the stamp of its edge, raises
no notice and changes the handover content once; without an asserted case only the input changes (R44, R64). -/
def Obligations.ConfirmedReleaseLatchesTheCase : Prop :=
  ∀ (s : State) (u : UnitId) (i : InputId) (p : Stamp),
    s.powered = true → (s.input u i).filter = .pendingRelease p →
    p.elapsed + 5000 * 2 ^ (s.input u i).inForce.exponent ≤ s.elapsed →
    (∀ j c, s.inputCase u i = some (j, c) → c.state = .active ∨ c.state = .activeAck →
      ∃ t, exec (.releaseConfirmation u i) s = .next t
        ∧ t.slot u j = some { c with
            state := if c.state = .active then .latched else .acknowledged, releaseStamp := some p }
        ∧ OnlySlot u j s t ∧ OnlyReported u s t
        ∧ t.tiu = (s.setInput u i { s.input u i with filter := .idle }).tiu ∧ t.lnu.flags = s.lnu.flags
        ∧ t.shc = { s.shc with version := (s.shc.version + 1) % 65536 }
        ∧ t = { s with tiu := t.tiu, ct := t.ct, usm := t.usm, shc := t.shc, lnu := t.lnu })
      ∧ ((∀ j c, s.inputCase u i = some (j, c) → c.state = .latched ∨ c.state = .acknowledged) →
        exec (.releaseConfirmation u i) s = .next (s.setInput u i { s.input u i with filter := .idle }))

/-- SET_INPUT writes the five configured settings, the priority and the exponent brought to their ranges, and
leaves the settings in force; READ_INPUT with the clear flag 1 returns the chatter count and clears it, and
with the clear flag 0 changes no record (R53, R54). -/
def Obligations.InputCommandsConfigureAndRead : Prop :=
  ∀ (s : State) (u : UnitId) (i : InputId) (ku ki : Byte), Taken s → ku.toNat = unitNumber u →
    ki.toNat = inputNumber i →
    (∀ (e c x p n : Byte) (cls : TripClass), e.toNat ≤ 1 → classOf? c.toNat = some cls → x.toNat ≤ 1 →
      let p' := min p.toNat 3
      let n' := min n.toNat 5
      let cfg : InputSettings := { enable := e == 1#8, cls := cls, stops := x == 1#8, priority := p', exponent := n' }
      ∃ b, b.length = 10 ∧ exec (.setInput ku ki e c x p n) s = .next (sendReply 0x20
        { status := if p' = p.toNat ∧ n' = n.toNat then .ok else .clamped, body := b }
        (s.setInput u i { s.input u i with config := cfg })))
      ∧ (∃ b, b.length = 36 ∧ b.drop 29 = toBytes 1 (s.input u i).chatter ++ b.drop 30
        ∧ exec (.readInput ku ki 0#8) s = .next (sendReply 0x21 { status := .ok, body := b } s)
        ∧ exec (.readInput ku ki 1#8) s = .next (sendReply 0x21 { status := .ok, body := b }
            (s.setInput u i { s.input u i with chatter := 0 })))
      ∧ ∀ f : Byte, 2 ≤ f.toNat →
        exec (.readInput ku ki f) s = .next (sendReply 0x21 { status := .outOfRange, body := [] } s)

/-- SET_TEST_MODE sets the unit's test mode and replies with the test modes of all units; a unit or mode out of
range is refused with OUT_OF_RANGE and in hold-up the command is refused with HOLDUP (R48). -/
def Obligations.SetTestModeSetsTheUnit : Prop :=
  ∀ (s : State) (k m : Byte), s.listening = true →
    (s.spm.supply = .run → ∀ u, k.toNat = unitNumber u → m.toNat ≤ 1 →
      let modes := s.tiu.testMode.set u (m == 1#8)
      ∃ t, exec (.setTestMode k m) s = .next t
        ∧ Answered 0x22 { status := .ok, body := toBytes 1 (packBits modes.toList) } s t
        ∧ SameRecords { s with tiu := { s.tiu with testMode := modes } } t)
      ∧ (s.spm.supply = .run → k.toNat = 0 ∨ 8 < k.toNat ∨ 1 < m.toNat →
        OnlyAnswered (.setTestMode k m) 0x22 { status := .outOfRange, body := [] } s)
      ∧ (s.spm.supply = .holdup →
        OnlyAnswered (.setTestMode k m) 0x22 { status := .holdup, body := [] } s)

/-! ### Cases and groups (chapters 4 and 5) -/

/-- A set gives the first INVALID slot; with none, the slot of the walk if it holds a CLEARED case, else the lowest
slot that holds one, else none; the walk reads the three bits, and an access sets them to point away from its slot.
The number given to a new case is the first from the counter on that no case holds, found within 33 tests
when at most 32 cases are held. A re-trip returns its case to ACTIVE, counts a repeat, revokes the acknowledgement
and accesses its slot; an assertion with no slot or of the other TEST mark is counted in the unit's overflow
record and changes no case (R59, R61, R63, R70, R71, R73). -/
def Obligations.AssertionsFindTheirSlot : Prop :=
  (∀ c : CaseSet,
    let free (k : SlotId) : Prop := c.slots.get k = none
    let cleared (k : SlotId) : Prop := ∃ d, c.slots.get k = some d ∧ d.state = .cleared
    let walk : SlotId := if c.b0 then (if c.b2 then .s3 else .s2) else (if c.b1 then .s1 else .s0)
    (free .s0 → c.allocate = some .s0)
      ∧ (¬ free .s0 → free .s1 → c.allocate = some .s1)
      ∧ (¬ free .s0 → ¬ free .s1 → free .s2 → c.allocate = some .s2)
      ∧ (¬ free .s0 → ¬ free .s1 → ¬ free .s2 → free .s3 → c.allocate = some .s3)
      ∧ ((∀ k, ¬ free k) →
        (cleared walk → c.allocate = some walk)
          ∧ (¬ cleared walk →
            (cleared .s0 → c.allocate = some .s0)
              ∧ (¬ cleared .s0 → cleared .s1 → c.allocate = some .s1)
              ∧ (¬ cleared .s0 → ¬ cleared .s1 → cleared .s2 → c.allocate = some .s2)
              ∧ (¬ cleared .s0 → ¬ cleared .s1 → ¬ cleared .s2 → cleared .s3 → c.allocate = some .s3)
              ∧ ((∀ k, ¬ cleared k) → c.allocate = none)))
      ∧ c.touch .s0 = { c with b0 := true, b1 := true } ∧ c.touch .s1 = { c with b0 := true, b1 := false }
      ∧ c.touch .s2 = { c with b0 := false, b2 := true } ∧ c.touch .s3 = { c with b0 := false, b2 := false })
    ∧ (∀ (held : List Nat) (n : Nat), held.length ≤ 32 → 1 ≤ n → n ≤ 65535 →
      let m := freeNumber held 33 n
      m ∉ held ∧ 1 ≤ m ∧ m ≤ 65535
        ∧ ∃ j ≤ 32, m = nextNumber^[j] n ∧ ∀ i < j, nextNumber^[i] n ∈ held)
    ∧ ∀ (s : State) (u : UnitId) (i : InputId) (p : Stamp) (test : Bool),
      s.powered = true → (s.input u i).filter = .pendingAssert p test →
      p.elapsed + 5000 * 2 ^ (s.input u i).inForce.exponent ≤ s.elapsed →
      (∀ j c, s.inputCase u i = some (j, c) → c.test = test →
        ∃ t d, exec (.assertionConfirmation u i) s = .next t ∧ t.slot u j = some d
          ∧ d = { c with
              state := .active, repeats := (if c.repeats < 255 then c.repeats + 1 else c.repeats),
              lastRetrip := some p, ackBadge := none, releaseStamp := none, releaseUnobserved := false,
              snapMode := (s.unit u).mode, snapGen := (s.account u .gen).lifetime,
              groupId := d.groupId, firstOut := d.firstOut, provisional := d.provisional }
          ∧ t.caseSet u = { (s.caseSet u).touch j with slots := (t.caseSet u).slots }
          ∧ t.ct.counter = s.ct.counter ∧ t.ct.overflow = s.ct.overflow
          ∧ t.lnu.flags.newCase = true ∧ t.lnu.unitSets.newCase.get u = true
          ∧ t.shc = { s.shc with version := (s.shc.version + 1) % 65536 }
          ∧ (∀ v, v ≠ u → t.caseSet v = s.caseSet v ∧ t.unit v = s.unit v))
        ∧ ((s.inputCase u i = none ∧ (s.caseSet u).allocate = none)
              ∨ (∃ j c, s.inputCase u i = some (j, c) ∧ c.test ≠ test) →
          let o := s.ct.overflow.get u
          let r := s.unit u
          ∃ t, exec (.assertionConfirmation u i) s = .next t
            ∧ t.ct.overflow.get u =
                { count := if o.count < 65535 then o.count + 1 else o.count
                  first := if o.count = 0 then some p else o.first
                  last := some p, seen := o.seen.set i true }
            ∧ (∀ v, v ≠ u → t.ct.overflow.get v = s.ct.overflow.get v)
            ∧ t.ct.sets = s.ct.sets ∧ t.ct.counter = s.ct.counter
            ∧ (t.unit u).tripped = ((r.tripped || ((s.input u i).inForce.stops && !test))
                && !(r.speed == .standstill && !(t.unit u).caseHeld))
            ∧ (∀ v, v ≠ u → t.unit v = s.unit v)
            ∧ t.lnu.flags = s.lnu.flags.set .overflow true ∧ t.lnu.unitSets.overflow.get u = true
            ∧ t.shc = { s.shc with version := (s.shc.version + 1) % 65536 }
            ∧ t = { s with tiu := t.tiu, ct := t.ct, usm := t.usm, shc := t.shc, lnu := t.lnu })

/-- A case opened or re-tripped, not marked TEST, opens a group when its unit has none OPEN, with a fresh id, itself
as first-out and one count in TRIPS, which queues that account; joins the OPEN group within its window, where the
first-out mark moves to it by edge, priority and input number, and closes it when the close-at is already reached; and
beyond the window supersedes the group, which closes with its summary and FIRST_OUT_FINAL. Its stops-unit item sets
TRIPPED. A case marked TEST reaches no group (R83, R84, R85, R86, R87, R88, R89, R90, R105, R114, R121, R129). -/
def Obligations.TripsArePlacedInGroups : Prop :=
  ∀ (s : State) (u : UnitId) (i : InputId) (p : Stamp) (test : Bool) (held : Nat),
    s.powered = true → (s.input u i).filter = .pendingAssert p test →
    p.elapsed + 5000 * 2 ^ (s.input u i).inForce.exponent ≤ s.elapsed →
    (s.cases.map (·.number)).Nodup → 1 ≤ s.ct.counter → s.ct.counter ≤ 65535 →
    1 ≤ s.tgr.counter → s.tgr.counter ≤ 65535 →
    (s.inputCase u i = none ∧ (s.caseSet u).allocate ≠ none ∧ held = 0)
      ∨ (∃ j c, s.inputCase u i = some (j, c) ∧ c.test = test ∧ held = c.groupId) →
    let f := (s.input u i).inForce
    ∃ t j c, exec (.assertionConfirmation u i) s = .next t ∧ t.inputCase u i = some (j, c) ∧ c.test = test
      ∧ (test = true → t.tgr = s.tgr ∧ t.rha = s.rha ∧ c.groupId = held)
      ∧ (test = false →
        let opened : Prop := ∃ g, t.tgr.groups.get u = some g
          ∧ g.earliest = p ∧ g.firstOut = c.number ∧ g.window = 10000 * 2 ^ s.tgr.windowExp
          ∧ g.closeAt = p.elapsed + g.window + g.maxFilter
          ∧ g.members = [{ number := c.number, input := i, edge := p, priority := f.priority }]
          ∧ (∀ k, 5000 * 2 ^ (s.input u k).config.exponent ≤ g.maxFilter
              ∧ 5000 * 2 ^ (s.input u k).inForce.exponent ≤ g.maxFilter)
          ∧ (∃ k, g.maxFilter = 5000 * 2 ^ (s.input u k).config.exponent
              ∨ g.maxFilter = 5000 * 2 ^ (s.input u k).inForce.exponent)
          ∧ c.groupId = g.id ∧ c.firstOut = true ∧ c.provisional = true
          ∧ t.tgr.counter = (if g.id < 65535 then g.id + 1 else 1)
          ∧ (∀ v k d, (v, k) ≠ (u, j) → t.slot v k = some d → d.groupId ≠ g.id)
          ∧ (∀ v d, v ≠ u → t.tgr.groups.get v = some d → d.id ≠ g.id)
          ∧ CountHanded u .trips s t
        ((t.unit u).caseHeld = true ∧ (t.unit u).tripped = ((s.unit u).tripped || f.stops)
            ∧ (f.stops = true → (t.unit u).mode = .tripped))
          ∧ (∀ v, v ≠ u → t.tgr.groups.get v = s.tgr.groups.get v ∧ t.tgr.closed.get v = s.tgr.closed.get v)
          ∧ (s.tgr.groups.get u = none → opened ∧ t.tgr.closed = s.tgr.closed)
          ∧ ∀ g, s.tgr.groups.get u = some g → g.id ≠ 0 →
            (p.elapsed ≤ g.earliest.elapsed + g.window → held ≠ g.id →
              let moves : Prop := p.elapsed < g.earliest.elapsed
                ∨ (p.elapsed = g.earliest.elapsed
                  ∧ ∃ m, g.members.find? (fun m => m.number == g.firstOut) = some m
                    ∧ (f.priority < m.priority
                      ∨ (f.priority = m.priority ∧ inputNumber i < inputNumber m.input)))
              ∃ g' : OpenGroup,
                g' = { g with
                    members := g.members
                      ++ [{ number := c.number, input := i, edge := p, priority := f.priority }]
                    firstOut := g'.firstOut, earliest := g'.earliest, closeAt := g'.closeAt }
                  ∧ (moves → g'.firstOut = c.number ∧ g'.earliest = p
                      ∧ g'.closeAt = p.elapsed + g.window + g.maxFilter
                      ∧ ∀ k d, t.slot u k = some d → d.number = g.firstOut → d.number ≠ c.number →
                          d.firstOut = false ∧ d.provisional = false)
                  ∧ (¬ moves → g'.firstOut = g.firstOut ∧ g'.earliest = g.earliest ∧ g'.closeAt = g.closeAt)
                  ∧ c.groupId = g.id ∧ (c.firstOut = true ↔ moves)
                  ∧ t.rha = s.rha ∧ t.tgr.counter = s.tgr.counter
                  ∧ (s.elapsed < g'.closeAt →
                      t.tgr.groups.get u = some g' ∧ t.tgr.closed = s.tgr.closed
                        ∧ (c.provisional = true ↔ moves))
                  ∧ (g'.closeAt ≤ s.elapsed →
                      t.tgr.groups.get u = none ∧ c.provisional = false
                        ∧ t.lnu.flags.firstOutFinal = true
                        ∧ ∃ x, t.tgr.closed.get u = some x ∧ x.id = g.id ∧ x.earliest = g'.earliest
                          ∧ x.firstOut = g'.firstOut ∧ x.members = g'.members ∧ x.reason = .expired
                          ∧ x.closedAt = s.now))
              ∧ (p.elapsed ≤ g.earliest.elapsed + g.window → held = g.id → s.elapsed < g.closeAt →
                  t.tgr = s.tgr ∧ t.rha = s.rha ∧ c.groupId = held
                    ∧ ∀ k d, s.inputCase u i = some (k, d) → c.firstOut = d.firstOut ∧ c.provisional = d.provisional)
              ∧ (g.earliest.elapsed + g.window < p.elapsed →
                  opened ∧ t.lnu.flags.firstOutFinal = true ∧ t.lnu.unitSets.firstOutFinal.get u = true
                    ∧ ∃ x, t.tgr.closed.get u = some x ∧ x.id = g.id ∧ x.earliest = g.earliest
                      ∧ x.firstOut = g.firstOut ∧ x.members = g.members ∧ x.reason = .superseded
                      ∧ x.closedAt = s.now))

/-- ACK_CASE acknowledges an ACTIVE or LATCHED case with the badge given, leaves an acknowledged one as it is, and
is refused for a CLEARED case and for a number that no slot holds; CLEAR_CASE clears an ACKNOWLEDGED case that is
no member of an OPEN group and refuses any other; in AUTO mode both show the presence of the duty operator when
answered OK; RETIRE_CASE empties the slot of a CLEARED case, keeps the tree bits, and refuses any other
(R66, R67, R68, R70, R73, R105, R165, R166). -/
def Obligations.CasesAreAckedClearedAndRetired : Prop :=
  ∀ (s : State) (n b : BitVec 16), Taken s → n.toNat ≠ 0 → b.toNat ≠ 0 →
    (∀ u j c, s.findCase n.toNat = some (u, j, c) →
      (c.state = .active ∨ c.state = .latched →
        let x := if c.state = .active then CaseState.activeAck else .acknowledged
        ∃ t, exec (.ackCase n b) s = .next t
          ∧ Replied 0x32 { status := .ok, body := toBytes 1 (caseStateCode x) } s t
          ∧ t.slot u j = some { c with state := x, ackBadge := some b.toNat }
          ∧ t.caseSet u = { (s.caseSet u).touch j with slots := (t.caseSet u).slots }
          ∧ OnlySlot u j s t ∧ OnlyReported u s t ∧ OnlyVersion s t ∧ PresenceShown b.toNat s t
          ∧ t.lnu.flags = s.lnu.flags
          ∧ t = { s with ct := t.ct, usm := t.usm, shc := t.shc, lnu := t.lnu })
        ∧ (c.state = .activeAck ∨ c.state = .acknowledged →
          ∃ t, exec (.ackCase n b) s = .next t
            ∧ Replied 0x32 { status := .ok, body := toBytes 1 (caseStateCode c.state) } s t
            ∧ t.shc = { s.shc with presenceBy := t.shc.presenceBy, alarm := t.shc.alarm }
            ∧ PresenceShown b.toNat s t ∧ t = { s with shc := t.shc, lnu := t.lnu })
        ∧ (c.state = .cleared →
          exec (.ackCase n b) s = .next (sendReply 0x32
            { status := .wrongState, body := toBytes 1 (caseStateCode .cleared) } s))
        ∧ (let member := ∃ g, s.tgr.groups.get u = some g ∧ c.groupId = g.id
          (c.state = .acknowledged → ¬ member →
            ∃ t, exec (.clearCase n b) s = .next t
              ∧ Replied 0x33 { status := .ok, body := toBytes 1 (caseStateCode .cleared) } s t
              ∧ t.slot u j = some { c with state := .cleared, clearBadge := some b.toNat }
              ∧ t.caseSet u = { (s.caseSet u).touch j with slots := (t.caseSet u).slots }
              ∧ OnlySlot u j s t ∧ OnlyReported u s t ∧ OnlyVersion s t ∧ PresenceShown b.toNat s t
              ∧ t = { s with ct := t.ct, usm := t.usm, shc := t.shc, lnu := t.lnu })
            ∧ (c.state ≠ .acknowledged ∨ member →
              exec (.clearCase n b) s = .next (sendReply 0x33
                { status := .wrongState, body := toBytes 1 (caseStateCode c.state) } s)))
        ∧ (c.state = .cleared →
          ∃ t, exec (.retireCase n) s = .next t ∧ Replied 0x34 { status := .ok, body := [] } s t
            ∧ t.slot u j = none ∧ OnlySlot u j s t ∧ OnlyReported u s t
            ∧ (t.caseSet u).b0 = (s.caseSet u).b0 ∧ (t.caseSet u).b1 = (s.caseSet u).b1
            ∧ (t.caseSet u).b2 = (s.caseSet u).b2
            ∧ t.shc = { s.shc with version := (s.shc.version + 1) % 65536 }
            ∧ t = { s with ct := t.ct, usm := t.usm, shc := t.shc, lnu := t.lnu })
        ∧ (c.state ≠ .cleared →
          exec (.retireCase n) s = .next (sendReply 0x34 { status := .wrongState, body := [] } s)))
      ∧ (s.findCase n.toNat = none →
        exec (.ackCase n b) s = .next (sendReply 0x32 { status := .noSuchRecord, body := [] } s))

/-- CLEAR_OVERFLOW empties the unit's overflow record and reports the change unless it was empty already, and a group C
reset empties the case table with its tree bits, the overflow records and the groups and keeps both counters
(R72, R73, R78, R93). -/
def Obligations.OverflowAndTableAreEmptied : Prop :=
  ∀ s : State, Taken s →
    let empty : Overflow := { count := 0, first := none, last := none, seen := ⟨false, false, false, false⟩ }
    (∀ (k : Byte) (u : UnitId), k.toNat = unitNumber u →
      (s.ct.overflow.get u = empty →
        exec (.clearOverflow k) s = .next (sendReply 0x36 { status := .ok, body := [] } s))
        ∧ (s.ct.overflow.get u ≠ empty →
          ∃ t, exec (.clearOverflow k) s = .next t ∧ Replied 0x36 { status := .ok, body := [] } s t
            ∧ t.ct.overflow.get u = empty
            ∧ (∀ v, v ≠ u → t.ct.overflow.get v = s.ct.overflow.get v)
            ∧ t.ct.sets = s.ct.sets ∧ t.ct.counter = s.ct.counter ∧ OnlyReported u s t
            ∧ t.shc = { s.shc with version := (s.shc.version + 1) % 65536 }
            ∧ t = { s with ct := t.ct, usm := t.usm, shc := t.shc, lnu := t.lnu }))
      ∧ ∃ t, exec .resetGroupC s = .next t ∧ Replied 0x72 { status := .ok, body := [] } s t
        ∧ (∀ u j, t.slot u j = none) ∧ (∀ u, t.ct.overflow.get u = empty)
        ∧ (∀ u, (t.caseSet u).b0 = false ∧ (t.caseSet u).b1 = false ∧ (t.caseSet u).b2 = false)
        ∧ (∀ u, t.tgr.groups.get u = none ∧ t.tgr.closed.get u = none)
        ∧ t.ct.counter = s.ct.counter ∧ t.tgr.counter = s.tgr.counter ∧ t.tgr.windowExp = s.tgr.windowExp
        ∧ (∀ u, TookReport u s t)
        ∧ t.lnu.caseLamp = false ∧ t.shc = { s.shc with version := (s.shc.version + 1) % 65536 }
        ∧ t = { s with ct := t.ct, tgr := t.tgr, usm := t.usm, shc := t.shc, lnu := t.lnu }

/-- At its close-at a group closes as an expiry: the summary takes the group with a stamp of the instant,
FIRST_OUT_FINAL is raised for the unit and the record is released (R88, R89). -/
def Obligations.GroupExpiryClosesTheGroup : Prop :=
  ∀ (s : State) (u : UnitId) (g : OpenGroup), s.powered = true → s.tgr.groups.get u = some g →
    g.closeAt ≤ s.elapsed →
    ∃ t x, exec (.groupExpiry u) s = .next t ∧ t.tgr.groups.get u = none ∧ t.tgr.closed.get u = some x
      ∧ x.id = g.id ∧ x.earliest = g.earliest ∧ x.firstOut = g.firstOut ∧ x.members = g.members
      ∧ x.reason = .expired ∧ x.closedAt = s.now
      ∧ (∀ v, v ≠ u → t.tgr.groups.get v = s.tgr.groups.get v ∧ t.tgr.closed.get v = s.tgr.closed.get v
          ∧ t.caseSet v = s.caseSet v)
      ∧ (∀ j c, t.slot u j = some c → c.number = g.firstOut → c.provisional = false)
      ∧ t.lnu.flags = s.lnu.flags.set .firstOutFinal true
      ∧ t.lnu.unitSets.firstOutFinal.get u = true ∧ OnlyReported u s t
      ∧ t.shc = { s.shc with version := (s.shc.version + 1) % 65536 }
      ∧ t = { s with ct := t.ct, tgr := t.tgr, usm := t.usm, shc := t.shc, lnu := t.lnu }

/-! ### Units (chapter 6) -/

/-- The scan takes the nine channels in order and begins again at channel 1, and a sample of a channel it has not
come to, or in BACKUP, has no effect. A sample with a corrected value below 164 is invalid: it yields no speed and
counts towards a loss. Any other is valid, and its speed, formed by the four steps, becomes the channel's last valid
speed (R96, R98, R99). That a sample out of its turn or in BACKUP is a step that changes nothing is the model's choice
(notes/assumptions/4.md and 9.md). -/
def Obligations.SampleFormsTheSpeed : Prop :=
  (∀ (s : State) (c : Channel) (raw : BitVec 10),
    (s.powered = true → s.usm.scan = c →
      ∃ t, exec (.sampleEvent c raw) s = .next t ∧ channelNumber t.usm.scan = channelNumber c % 9 + 1)
      ∧ (s.powered = false ∨ s.usm.scan ≠ c → exec (.sampleEvent c raw) s = .next s))
    ∧ ∀ (s : State) (u : UnitId) (raw : BitVec 10), s.powered = true → s.usm.scan = .speed u →
    let r := s.unit u
    let c := min 1023 (if r.calMinus then raw.toNat - r.calMagnitude else raw.toNat + r.calMagnitude)
    ∃ t, exec (.sampleEvent (.speed u) raw) s = .next t
      ∧ (t.unit u).lastRaw = some raw.toNat ∧ (t.unit u).lastCorrected = some c
      ∧ (c < 164 →
          (t.unit u).lastSpeed = r.lastSpeed ∧ (t.unit u).speed = r.speed
            ∧ (r.lost = true → (t.unit u).lost = true ∧ (t.unit u).lossRun = 0)
            ∧ (r.lost = false → r.lossRun < 2 → (t.unit u).lost = false ∧ (t.unit u).lossRun = r.lossRun + 1)
            ∧ (r.lost = false → 2 ≤ r.lossRun → (t.unit u).lost = true ∧ (t.unit u).lossRun = 0
                ∧ t.lnu.flags.speedSignalLost = true ∧ t.lnu.unitSets.speedSignalLost.get u = true))
      ∧ (164 ≤ c → (t.unit u).lastSpeed = some (min 1500 (max 0 ((((c : Int) - 205) * 1500).tdiv 818)).toNat))
      ∧ (∀ v, v ≠ u → t.unit v = s.unit v)
      ∧ t = { s with usm := t.usm, rha := t.rha, asc := t.asc, lnu := t.lnu }

/-- A valid sample of a sound signal moves the speed state by the bands, at most one transition at a time; entering
STANDSTILL arms the start, entering AT_SPEED armed counts one start with its shift tally and disarms it, which queues
the STARTS account, and every change is followed by the TRIPPED clearing check and the evaluation of the mode. While
the signal is lost the state is held; the third valid sample in a row brings the signal back, with the state recovered
from it and no start counted (R99, R100, R101, R102, R104, R105, R114, R117, R118, R121, R129, R138). -/
def Obligations.SpeedStatesFollowTheSamples : Prop :=
  ∀ (s : State) (u : UnitId) (raw : BitVec 10), s.powered = true → s.usm.scan = .speed u →
    164 ≤ (s.unit u).corrected raw.toNat →
    let r := s.unit u
    let v := speedOf (r.corrected raw.toNat)
    let seen := { r with
      lastRaw := some raw.toNat, lastCorrected := some (r.corrected raw.toNat), lastSpeed := some v }
    let new : SpeedState :=
      match r.speed with
      | .unknown | .standstill =>
        if r.bands.atSpeedOn ≤ v then .atSpeed else if r.bands.rollingOn ≤ v then .rolling else .standstill
      | .rolling =>
        if r.bands.atSpeedOn ≤ v then .atSpeed else if v < r.bands.rollingOff then .standstill else .rolling
      | .atSpeed => if v < r.bands.atSpeedOff then .rolling else .atSpeed
    let clears := r.tripped && new == .standstill && !r.caseHeld
    ∃ t, exec (.sampleEvent (.speed u) raw) s = .next t
      ∧ (r.lost = false → new = r.speed →
          t.unit u = { seen with lossRun := 0 } ∧ t.rha = s.rha ∧ t.lnu = s.lnu)
      ∧ (r.lost = false → new ≠ r.speed →
          t.unit u = { seen with
            lossRun := 0, speed := new
            armed := new == .standstill || (r.armed && new == .rolling)
            tripped := r.tripped && !clears
            mode := modeOf (r.tripped && !clears) r.breaker.stable r.pumpMode.stable new })
      ∧ (r.lost = false → new = .atSpeed → r.speed ≠ .atSpeed → r.armed = true → CountHanded u .starts s t)
      ∧ (r.lost = false → new ≠ .atSpeed ∨ r.armed = false → t.rha = s.rha)
      ∧ (r.lost = true → r.lossRun < 2 →
          t.unit u = { seen with lossRun := r.lossRun + 1 } ∧ t.rha = s.rha ∧ t.lnu = s.lnu)
      ∧ (r.lost = true → 2 ≤ r.lossRun →
          t.unit u = { seen with
              lost := false, lossRun := 0, speed := new
              armed := new == .standstill && (r.armed || r.speed != .standstill)
              tripped := r.tripped && !clears
              mode := modeOf (r.tripped && !clears) r.breaker.stable r.pumpMode.stable new }
            ∧ t.rha = s.rha
            ∧ t.lnu.flags = s.lnu.flags.set .speedSignalBack true
            ∧ t.lnu.unitSets.speedSignalBack.get u = true)

/-- An edge of a unit contact begins a pending change or abandons one, and the confirmation 80,000 cu after it
gives the stable level its new value and evaluates the unit mode (R103, R104). -/
def Obligations.UnitContactsAreFiltered : Prop :=
  ∀ (s : State) (u : UnitId) (k : ContactId), s.powered = true →
    let r := s.unit u
    let c := r.contact k
    (∀ level : Bool, level ≠ c.level → c.pending = none →
      exec (.unitContactEdge u k level) s = .next
        (s.setUnit u (r.setContact k { c with level := level, pending := some s.elapsed })))
      ∧ (∀ (level : Bool) (p : Nat), level ≠ c.level → c.pending = some p → level = c.stable →
        exec (.unitContactEdge u k level) s = .next
          (s.setUnit u (r.setContact k { c with level := level, pending := none })))
      ∧ (∀ p : Nat, c.pending = some p → p + 80000 ≤ s.elapsed →
        ∃ r', exec (.unitContactConfirmation u k) s = .next (s.setUnit u r')
          ∧ r'.contact k = { c with stable := c.level, pending := none }
          ∧ r'.mode = modeOf r.tripped r'.breaker.stable r'.pumpMode.stable r.speed
          ∧ r' = { r with breaker := r'.breaker, pumpMode := r'.pumpMode, mode := r'.mode })

/-- SET_SPEED_BANDS writes bands brought into order, to one unit or with selector 0 to every unit, echoes them, and
refuses a selector above 8 (R108). -/
def Obligations.SetSpeedBandsOrdersThem : Prop :=
  ∀ (s : State) (k : Byte) (on off aOn aOff : BitVec 16), Taken s →
    let b := orderBands on.toNat off.toNat aOn.toNat aOff.toNat
    BandsOrdered b
      ∧ (b.rollingOff = min off.toNat 1498 ∧ b.rollingOn = max (b.rollingOff + 1) (min on.toNat 1499)
          ∧ b.atSpeedOff = max b.rollingOn (min aOff.toNat 1499)
          ∧ b.atSpeedOn = max (b.atSpeedOff + 1) (min aOn.toNat 1500))
      ∧ (8 < k.toNat →
        exec (.setSpeedBands k on off aOn aOff) s =
          .next (sendReply 0x41 { status := .outOfRange, body := [] } s))
      ∧ (k.toNat ≤ 8 →
        ∃ t, exec (.setSpeedBands k on off aOn aOff) s = .next t
          ∧ Replied 0x41
              { status :=
                  if b.rollingOn = on.toNat ∧ b.rollingOff = off.toNat ∧ b.atSpeedOn = aOn.toNat
                    ∧ b.atSpeedOff = aOff.toNat then .ok else .clamped
                body := toBytes 2 b.rollingOn ++ toBytes 2 b.rollingOff ++ toBytes 2 b.atSpeedOn
                  ++ toBytes 2 b.atSpeedOff } s t
          ∧ (∀ u, t.unit u = if k.toNat = 0 ∨ k.toNat = unitNumber u then { s.unit u with bands := b }
                else s.unit u)
          ∧ t = { s with usm := t.usm, lnu := t.lnu } ∧ t.usm.supplyReading = s.usm.supplyReading
          ∧ t.usm.scan = s.usm.scan)

/-- SET_SPEED_CAL writes the calibration of one channel, its magnitude at most 7, and echoes it; a unit or sign out of
range is refused with OUT_OF_RANGE, and in hold-up the command is refused with HOLDUP. The channel's samples are
corrected by it, and a magnitude of 0 leaves them raw (R109). -/
def Obligations.SetSpeedCalWritesTheOffset : Prop :=
  ∀ (s : State) (k x m : Byte), s.listening = true →
    (s.spm.supply = .run → ∀ u, k.toNat = unitNumber u → x.toNat ≤ 1 →
      let m' := min m.toNat 7
      ∃ t, exec (.setSpeedCal k x m) s = .next t
        ∧ Answered 0x42
            { status := if m' = m.toNat then .ok else .clamped, body := toBytes 1 x.toNat ++ toBytes 1 m' } s t
        ∧ SameRecords (s.setUnit u { s.unit u with calMinus := x == 1#8, calMagnitude := m' }) t)
      ∧ (s.spm.supply = .run → k.toNat = 0 ∨ 8 < k.toNat ∨ 1 < x.toNat →
        OnlyAnswered (.setSpeedCal k x m) 0x42 { status := .outOfRange, body := [] } s)
      ∧ (s.spm.supply = .holdup →
        OnlyAnswered (.setSpeedCal k x m) 0x42 { status := .holdup, body := [] } s)
      ∧ (∀ (u : UnitId) (raw : BitVec 10), s.usm.scan = .speed u →
        ∃ t, exec (.sampleEvent (.speed u) raw) s = .next t
          ∧ (t.unit u).lastCorrected = some (min 1023
              (if (s.unit u).calMinus then raw.toNat - (s.unit u).calMagnitude
               else raw.toNat + (s.unit u).calMagnitude))
          ∧ ((s.unit u).calMagnitude = 0 → (t.unit u).lastCorrected = some raw.toNat))

/-! ### Accounts (chapter 7) -/

/-- A tally second advances each unit's seconds accounts, with their intervals and shift tallies, as its mode calls
for, and no other account; each value stays at its limit once there, with SATURATED set where the lifetime is found at
its limit, and an account with nothing left to change keeps its persistence state; an account whose load is
outstanding takes the count into its pending amount, and a retired one takes none (R3, R114, R115, R116, R118, R129).
The count of boundaries handed on, which the premise and one clause name, is the model's own (notes/assumptions/5.md).
-/
def Obligations.TallySecondFollowsTheMode : Prop :=
  ∀ s : State, s.powered = true → s.tb.dutyHanded < s.tb.elapsed / 10000000 →
    ∃ t, exec .dutySecondBoundary s = .next t
      ∧ t = { s with tb := { s.tb with dutyHanded := s.tb.dutyHanded + 1 }, rha := t.rha }
      ∧ ∀ u k,
          let r := s.unit u
          let a := s.account u k
          let turning := r.speed = .rolling ∨ r.speed = .atSpeed
          let counts :=
            (k = .gen ∧ r.mode = .generating) ∨ (k = .pump ∧ r.mode = .pumping)
              ∨ (k = .rotate ∧ (r.mode = .spinning ∨ r.mode = .generating ∨ r.mode = .pumping
                  ∨ (r.mode = .tripped ∧ turning)))
          (¬ counts ∨ (a.retired = true ∧ isOutstanding a.status = false) →
              t.account u k = a ∧ t.tally u k = s.tally u k)
            ∧ (counts → ∀ n, a.status = .loading n →
              t.account u k = { a with status := .loading (min (n + 1) (max n 65535)) }
                ∧ t.tally u k = s.tally u k)
            ∧ (counts → isOutstanding a.status = false → a.retired = false →
                Counted u k s t
                  ∧ (AtLimits a → (t.account u k).status = a.status)
                  ∧ (¬ AtLimits a → (t.account u k).status =
                      if a.status = .clean then .dirty
                      else if a.status = .writing .none then .writing .seconds else a.status))

/-- PRESET_ACCOUNT writes the values, the preset stamp and clear flags, keeps the tally, and answers the account as
it then stands; it is refused for an interval above the lifetime, an outstanding load and a RETIRED account.
RETIRE_ACCOUNT sets and REINSTATE_ACCOUNT clears the RETIRED flag and keep the values. The change of each enters the
account in the queue, waits for the end of its write, or finds the queue full. READ_ACCOUNT returns the account record
and changes no record; all are refused while the load is outstanding (R121, R124, R125, R126, R127, R129, R138).
That PRESET_ACCOUNT answers the account after the store's choice of the next record, and that an outstanding load is
tested before the RETIRED flag, are the model's readings (notes/assumptions/25.md and 30.md, DEDUCED). -/
def Obligations.AccountCommandsWriteAndRead : Prop :=
  ∀ (s : State) (u : UnitId) (k : Kind) (ku kk : Byte) (l i : BitVec 32), Taken s →
    ku.toNat = unitNumber u → kk.toNat = kindNumber k →
    let a := s.account u k
    (i.toNat ≤ l.toNat → isOutstanding a.status = false → a.retired = false →
      ∃ t, exec (.presetAccount ku kk l i) s = .next t
        ∧ Replied 0x49 { status := .ok, body := accountRecord u k t } s t
        ∧ t.account u k =
            { lifetime := l.toNat, interval := i.toNat
              preset := some (if s.now.seconds = 4294967295 then 4294967294 else s.now.seconds)
              retired := false, suspect := false, saturated := false, status := (t.account u k).status }
        ∧ QueueChanged u k s t ∧ (∀ v m, t.tally v m = s.tally v m)
        ∧ (∀ v m, (v, m) ≠ (u, k) → t.account v m = { s.account v m with status := (t.account v m).status })
        ∧ t = { s with rha := t.rha, asc := t.asc, lnu := t.lnu })
      ∧ (l.toNat < i.toNat →
        exec (.presetAccount ku kk l i) s = .next (sendReply 0x49 { status := .outOfRange, body := [] } s))
      ∧ (i.toNat ≤ l.toNat → isOutstanding a.status = true →
        exec (.presetAccount ku kk l i) s = .next (sendReply 0x49 { status := .wrongState, body := [] } s))
      ∧ (i.toNat ≤ l.toNat → isOutstanding a.status = false → a.retired = true →
        exec (.presetAccount ku kk l i) s = .next (sendReply 0x49 { status := .retired, body := [] } s))
      ∧ (isOutstanding a.status = false →
        (a.retired = false →
          ∃ t, exec (.retireAccount ku kk) s = .next t ∧ Replied 0x4A { status := .ok, body := [] } s t
            ∧ t.account u k = { a with retired := true, status := (t.account u k).status } ∧ QueueChanged u k s t
            ∧ (∀ v m, (v, m) ≠ (u, k) → t.account v m = { s.account v m with status := (t.account v m).status })
            ∧ (∀ v m, t.tally v m = s.tally v m) ∧ t = { s with rha := t.rha, asc := t.asc, lnu := t.lnu })
          ∧ (a.retired = true →
            exec (.retireAccount ku kk) s = .next (sendReply 0x4A { status := .retired, body := [] } s))
          ∧ (a.retired = true →
            ∃ t, exec (.reinstateAccount ku kk) s = .next t ∧ Replied 0x4B { status := .ok, body := [] } s t
              ∧ t.account u k = { a with retired := false, status := (t.account u k).status } ∧ QueueChanged u k s t
              ∧ (∀ v m, (v, m) ≠ (u, k) → t.account v m = { s.account v m with status := (t.account v m).status })
              ∧ (∀ v m, t.tally v m = s.tally v m) ∧ t = { s with rha := t.rha, asc := t.asc, lnu := t.lnu })
          ∧ (a.retired = false →
            exec (.reinstateAccount ku kk) s = .next (sendReply 0x4B { status := .ok, body := [] } s))
          ∧ exec (.readAccount ku kk) s = .next (sendReply 0x48
              { status := .ok
                body := [BitVec.ofNat 8 (unitNumber u), BitVec.ofNat 8 (kindNumber k)]
                  ++ toBytes 1 (packBits [a.retired, a.suspect, a.saturated])
                  ++ toBytes 1 (persistenceCode a.status) ++ toBytes 4 a.lifetime ++ toBytes 4 a.interval
                  ++ toBytes 4 (a.preset.getD 4294967295) ++ toBytes 4 (s.tally u k) } s))
      ∧ (isOutstanding a.status = true →
        exec (.retireAccount ku kk) s = .next (sendReply 0x4A { status := .wrongState, body := [] } s)
          ∧ exec (.reinstateAccount ku kk) s = .next (sendReply 0x4B { status := .wrongState, body := [] } s)
          ∧ exec (.readAccount ku kk) s = .next (sendReply 0x48 { status := .wrongState, body := [] } s))

/-! ### The store (chapter 8) -/

/-- A grant takes a waiting transaction into TRANSFER, the end of the transfer starts the 10 ms wait, and the store's
report begins the read-back. A read-back equal to the record sent ends the write of a queued account CLEAN if it did
not change and DIRTY if its seconds did; any other read-back, a grant wait or a write cycle wait that expires, and a
grant withdrawn from a transaction that holds the bus, fail the record with their own reason and a stamp of the
instant, and leave the account DIRTY, which a running commit may then write. In either case an account with a queue
change during the write enters the queue at its tail, or is DIRTY with QUEUE_FULL when the queue is full (R121, R123,
R134, R135, R136, R137, R138). That a read takes the phase TRANSFER at its grant, as a write does, is the model's
reading (notes/assumptions/11.md, DEDUCED), and that a grant taken after the grant expiry of its own instant is a
grant to the record then waiting is its choice (33.md, DESIGN CHOICE). -/
def Obligations.TransactionRunsToItsEnd : Prop :=
  ∀ (s : State) (x : Transaction), s.powered = true → s.asc.inFlight = some x →
    let ends (written : Bool) (t : State) : Prop :=
      ∀ u k c, x.item = .account u k → (s.account u k).status = .writing c → (u, k) ∉ s.asc.queue →
        let a := s.account u k
        let allowed := s.asc.frozen = false ∨ s.spm.supply = .holdup ∨ s.asc.activity = .committing
        (c ≠ .queue → x.origin = .queue → s.asc.activity = .idle →
          t.account u k = { a with status := if written = true ∧ c = .none then .clean else .dirty })
          ∧ (c ≠ .queue → x.origin = .queue → s.asc.activity = .committing →
            t.account u k = { a with status := if written = true ∧ c = .none then .clean else .dirty }
              ∨ (t.account u k = { a with status := .writing .none }
                ∧ ∃ y, t.asc.inFlight = some y ∧ y.item = .account u k ∧ y.origin = .commit))
          ∧ (c = .queue →
            (x.origin = .queue ∧ isLoadActivity s.asc.activity = false)
              ∨ (x.origin = .commit ∧ s.asc.activity = .committing ∧ written = true) →
            (s.asc.queue.length < 16 → ¬ allowed →
              t.account u k = { a with status := .queued } ∧ t.asc.queue = s.asc.queue ++ [(u, k)]
                ∧ t.asc.inFlight = none)
              ∧ (s.asc.queue.length < 16 → allowed →
                ∀ v m rest, s.asc.queue ++ [(u, k)] = (v, m) :: rest →
                  t.asc.queue = rest ∧ (t.account v m).status = .writing .none
                    ∧ (∃ y, t.asc.inFlight = some y ∧ y.item = .account v m ∧ y.origin = .queue)
                    ∧ ((v, m) ≠ (u, k) → t.account u k = { a with status := .queued }))
              ∧ (16 ≤ s.asc.queue.length →
                t.account u k = { a with status := .dirty } ∧ t.lnu.flags.queueFull = true
                  ∧ (allowed → t.asc.queue = s.asc.queue.tail) ∧ (¬ allowed → t.asc.queue = s.asc.queue)))
    let failed (reason : FailReason) (t : State) : Prop :=
      t.asc.lastFailure = some { item := x.item, reason := reason, stamp := s.now } ∧ ends false t
        ∧ t = { s with rha := t.rha, asc := t.asc, lnu := t.lnu }
    (x.phase = .readBack →
      ∃ t, exec (.readBackComplete x.record) s = .next t ∧ ends true t
        ∧ t = { s with rha := t.rha, asc := t.asc, lnu := t.lnu })
      ∧ (x.phase = .waitGrant →
      exec .busGrant s = .next { s with asc := { s.asc with inFlight := some { x with phase := .transfer } } })
      ∧ (x.phase = .transfer → x.origin ≠ .read → x.cycleBy = none →
        exec .transferComplete s = .next { s with asc := { s.asc with
          inFlight := some { x with cycleBy := some (s.elapsed + 100000) } } })
      ∧ (∀ e, x.phase = .transfer → x.origin ≠ .read → x.cycleBy = some e →
        exec .storeWriteCycleDone s = .next { s with asc := { s.asc with
          inFlight := some { x with phase := .readBack, cycleBy := none } } })
      ∧ (∀ u k, x.phase = .readBack → x.item = .account u k → x.origin = .queue →
          (s.account u k).status = .writing .none → (u, k) ∉ s.asc.queue → isLoadActivity s.asc.activity = false →
        ∃ t, exec (.readBackComplete x.record) s = .next t
          ∧ t.account u k = { s.account u k with status := .clean }
          ∧ t = { s with rha := t.rha, asc := t.asc, lnu := t.lnu })
      ∧ (∀ bytes : List Byte, x.phase = .readBack → bytes ≠ x.record →
        ∃ t, exec (.readBackComplete bytes) s = .next t ∧ failed .mismatch t)
      ∧ (x.phase = .waitGrant → x.grantBy ≤ s.elapsed →
        ∃ t, exec .grantTimeout s = .next t ∧ failed .grantTimeout t)
      ∧ (∀ e, x.phase = .transfer → x.origin ≠ .read → x.cycleBy = some e → e ≤ s.elapsed →
        ∃ t, exec .notReadyTimeout s = .next t ∧ failed .notReady t)
      ∧ (x.phase = .transfer ∨ x.phase = .readBack →
        ∃ t, exec .grantWithdrawn s = .next t ∧ failed .grantLost t)

/-- A commit record that reads back as sent is counted, and its account is CLEAN, or DIRTY where its seconds changed
during the write; the commit goes on to the next DIRTY account in walk order, then to a pending format mark, and ends
done with COMMIT_DONE. An account with a queue change during the write is queued and so written again. A commit record
that fails ends the commit failed with COMMIT_FAILED and its account DIRTY, and the third failure in a row sets the
fault flag and raises STORE_FAULT. A freeze that waited takes effect at the end, and a set recommit flag is then taken
as a trigger (R121, R123, R137, R138, R139, R140, R141). That the commit ends in the very step that ends its format
mark is the model's reading (notes/assumptions/18.md, DEDUCED). -/
def Obligations.CommitEndsDoneOrFailed : Prop :=
  ∀ (s : State) (x : Transaction), s.powered = true → s.asc.inFlight = some x → x.phase = .readBack →
    x.origin = .commit → s.asc.activity = .committing → s.asc.queue = [] →
    let frozen := s.asc.frozen || s.asc.freezePending
    let done (t : State) : Prop :=
      t.asc.lastCommit = some { done := true, written := s.asc.written + 1, failed := 0, stamp := s.now }
        ∧ t.asc.failedCommits = 0 ∧ t.asc.fault = false ∧ t.asc.activity = .idle ∧ t.asc.inFlight = none
        ∧ t.asc.frozen = frozen ∧ t.asc.freezePending = false ∧ t.lnu.flags = s.lnu.flags.set .commitDone true
    (∀ u k c, x.item = .account u k → s.asc.cursor = walkPosition u k → (s.account u k).status = .writing c →
        c ≠ .queue →
      let ended := { s.account u k with status := if c = .none then .clean else .dirty }
      (∀ v m, walkPosition u k < walkPosition v m → (s.account v m).status = .dirty →
          (∀ w n, walkPosition u k < walkPosition w n → walkPosition w n < walkPosition v m →
            (s.account w n).status ≠ .dirty) →
        ∃ t, exec (.readBackComplete x.record) s = .next t
          ∧ t.account u k = ended
          ∧ t.account v m = { s.account v m with status := .writing .none }
          ∧ t.asc = { s.asc with
              written := s.asc.written + 1, cursor := walkPosition v m, cursorTaken := false
              inFlight := some
                { item := .account v m, origin := .commit, phase := .waitGrant, grantBy := s.elapsed + 500000,
                  cycleBy := none, record := storeRecord v m (s.account v m) }
              busRequest := true }
          ∧ t = { s with rha := t.rha, asc := t.asc })
        ∧ ((∀ v m, walkPosition u k < walkPosition v m → (s.account v m).status ≠ .dirty) →
          (s.asc.formatPending = true →
            ∃ t, exec (.readBackComplete x.record) s = .next t
              ∧ t.account u k = ended
              ∧ t.asc.written = s.asc.written + 1 ∧ t.asc.cursor = 40 ∧ t.asc.activity = .committing
              ∧ t.asc.inFlight = some
                  { item := .mark, origin := .commit, phase := .waitGrant, grantBy := s.elapsed + 500000,
                    cycleBy := none, record := formatMark })
            ∧ (s.asc.formatPending = false → s.asc.recommit = false →
              ∃ t, exec (.readBackComplete x.record) s = .next t
                ∧ t.account u k = ended ∧ t.asc.cursor = 40 ∧ done t
                ∧ t = { s with rha := t.rha, asc := t.asc, lnu := t.lnu })))
      ∧ (∀ u k, x.item = .account u k → (s.account u k).status = .writing .queue →
        ∃ t, exec (.readBackComplete x.record) s = .next t
          ∧ t.account u k = { s.account u k with status := .writing .none }
          ∧ t.asc = { s.asc with
              written := s.asc.written + 1, cursorTaken := true
              inFlight := some
                { item := .account u k, origin := .queue, phase := .waitGrant, grantBy := s.elapsed + 500000,
                  cycleBy := none, record := storeRecord u k (s.account u k) }
              busRequest := true }
          ∧ t = { s with rha := t.rha, asc := t.asc })
      ∧ (x.item = .mark → s.asc.recommit = false →
        ∃ t, exec (.readBackComplete x.record) s = .next t ∧ t.asc.formatPending = false ∧ done t
          ∧ t = { s with asc := t.asc, lnu := t.lnu })
      ∧ (∀ (u : UnitId) (k : Kind) (c : WriteChange) (bytes : List Byte), x.item = .account u k →
          bytes ≠ x.record → (s.account u k).status = .writing c →
        let count := if s.asc.failedCommits < 255 then s.asc.failedCommits + 1 else s.asc.failedCommits
        let told := decide (3 ≤ count) && !s.asc.fault
        ∃ t, exec (.readBackComplete bytes) s = .next t
          ∧ t.asc.lastCommit = some { done := false, written := s.asc.written, failed := 1, stamp := s.now }
          ∧ t.asc.failedCommits = count ∧ t.asc.fault = (s.asc.fault || told)
          ∧ t.lnu.flags =
              (if told then s.lnu.flags.set .storeFault true else s.lnu.flags).set .commitFailed true
          ∧ t.asc.frozen = frozen ∧ t.asc.freezePending = false ∧ t.asc.recommit = false
          ∧ (s.asc.recommit = false → t.asc.activity = .idle)
          ∧ (s.asc.recommit = false → c ≠ .queue →
              t.asc.inFlight = none ∧ t.account u k = { s.account u k with status := .dirty })
          ∧ (c = .queue → frozen = false ∨ s.spm.supply = .holdup →
              t.asc.queue = [] ∧ t.account u k = { s.account u k with status := .writing .none }
                ∧ ∃ y, t.asc.inFlight = some y ∧ y.item = .account u k ∧ y.origin = .queue)
          ∧ (c = .queue → frozen = true → s.spm.supply = .run →
              t.asc.queue = [(u, k)] ∧ t.account u k = { s.account u k with status := .queued })
          ∧ (s.asc.recommit = true → frozen = false →
              t.asc.activity = .committing ∧ t.asc.written = 0 ∧ t.asc.inFlight.isSome = true)
          ∧ (s.asc.recommit = true → frozen = true → s.spm.supply = .run →
              t.asc.activity = .idle ∧ t.asc.inFlight = none)
          ∧ t = { s with rha := t.rha, asc := t.asc, lnu := t.lnu })

/-- A load reads the format mark and, where it is present, the outstanding records in walk order. A good record is
delivered CLEAN with its values, preset stamp and flags; a bad one is read once more and, bad again, delivered with
SUSPECT added and SUSPECT_LOADED raised, its interval brought to its lifetime and DIRTY if it was greater. The
pending amount is applied at the delivery unless the account is RETIRED, and the load goes on to the next
outstanding account or ends. A read that ends without a record is made again, and the third in a row raises
STORE_FAULT once (R129, R133, R136, R144). The model's readings, each DEDUCED: a read in progress stands in TRANSFER
(notes/assumptions/11.md); the misses begin again at 0 for each record and each second read, and STORE_FAULT is told
once in a load (15.md); a good record is delivered as it stands, with an interval above its lifetime too (16.md); and a
pending amount that brings the lifetime exactly to its limit sets SATURATED (26.md). -/
def Obligations.LoadDeliversTheRecords : Prop :=
  ∀ (s : State) (x : Transaction) (l : Load), s.powered = true → s.asc.inFlight = some x →
    x.origin = .read → s.asc.activity = .loading l →
    let readOf (item : StoreItem) : Transaction :=
      { item := item, origin := .read, phase := .waitGrant, grantBy := s.elapsed + 500000, cycleBy := none,
        record := [] }
    let first (u : UnitId) (k : Kind) (but : Option (UnitId × Kind)) : Prop :=
      isOutstanding (s.account u k).status = true ∧ some (u, k) ≠ but
        ∧ ∀ v m, walkPosition v m < walkPosition u k → some (v, m) ≠ but → isOutstanding (s.account v m).status = false
    (∀ (u : UnitId) (k : Kind) (bytes : List Byte) (second : Bool) (n : Nat),
      x.phase = .transfer → x.item = .account u k → l.stage = .readRecord second →
      (s.account u k).status = .loading n →
        let a := recordAccount bytes .clean
        let given : Account :=
          if recordGood u k bytes = true then a
          else if a.lifetime < a.interval then { a with suspect := true, interval := a.lifetime, status := .dirty }
          else { a with suspect := true }
        (recordGood u k bytes = false → second = false →
          exec (.storeReadComplete bytes) s = .next { s with asc := { s.asc with
            activity := .loading { l with stage := .readRecord true, misses := 0 }
            inFlight := some (readOf x.item), busRequest := true } })
          ∧ (recordGood u k bytes = true ∨ second = true →
            ∃ t, exec (.storeReadComplete bytes) s = .next t
              ∧ t = { s with rha := t.rha, asc := t.asc, lnu := t.lnu }
              ∧ (recordGood u k bytes = false → t.lnu.flags.suspectLoaded = true)
              ∧ (∀ v m, (v, m) ≠ (u, k) → t.tally v m = s.tally v m)
              ∧ (∀ v m, first v m (some (u, k)) →
                  (given.retired = true ∨ n = 0 →
                    t.account u k = given ∧ t.tally u k = s.tally u k
                      ∧ t.asc.queue = s.asc.queue
                      ∧ (∀ w y, (w, y) ≠ (u, k) → t.account w y = s.account w y))
                    ∧ (given.retired = false → n ≠ 0 → given.lifetime + n ≤ 4294967295 →
                      t.account u k = { given with
                          lifetime := given.lifetime + n, interval := min (given.interval + n) 4294967295
                          saturated := given.saturated || decide (4294967295 ≤ given.lifetime + n)
                          status := (t.account u k).status }
                        ∧ t.tally u k = min (s.tally u k + n) 4294967295
                        ∧ (isSecondsKind k = true → (t.account u k).status = .dirty ∧ t.asc.queue = s.asc.queue)
                        ∧ (isSecondsKind k = false → (u, k) ∉ s.asc.queue → s.asc.queue.length < 16 →
                            (t.account u k).status = .queued ∧ t.asc.queue = s.asc.queue ++ [(u, k)])
                        ∧ (isSecondsKind k = false → (u, k) ∉ s.asc.queue → 16 ≤ s.asc.queue.length →
                            (t.account u k).status = .dirty ∧ t.asc.queue = s.asc.queue
                              ∧ t.lnu.flags.queueFull = true))
                    ∧ t.asc.activity = .loading { l with stage := .readRecord false, misses := 0 }
                    ∧ t.asc.inFlight = some (readOf (.account v m)) ∧ t.asc.busRequest = true)
              ∧ ((∀ v m, (v, m) ≠ (u, k) → isOutstanding (s.account v m).status = false) →
                  n = 0 → s.asc.recommit = false → s.asc.queue = [] →
                    t.account u k = given ∧ t.asc.activity = .idle ∧ t.asc.inFlight = none
                      ∧ t.asc.busRequest = false)))
      ∧ (∀ (bytes : List Byte) (u : UnitId) (k : Kind), x.phase = .transfer → x.item = .mark →
          l.stage = .readMark → first u k none →
        (bytes = formatMark →
          exec (.storeReadComplete bytes) s = .next { s with asc := { s.asc with
            activity := .loading { l with stage := .readRecord false, misses := 0 }
            inFlight := some (readOf (.account u k)), busRequest := true } })
          ∧ (bytes ≠ formatMark →
            exec (.storeReadComplete bytes) s = .next { s with asc := { s.asc with
              activity := .loading { l with stage := .initRecord 1, misses := 0 }
              inFlight := some { readOf (.account u k) with origin := .init, record := blankRecord u k }
              busRequest := true } }))
      ∧ (x.phase = .waitGrant → x.grantBy ≤ s.elapsed →
        let tell := decide (3 ≤ l.misses + 1) && !l.told
        ∃ t, exec .grantTimeout s = .next t
          ∧ t.asc = { s.asc with
              activity := .loading { l with misses := l.misses + 1, told := l.told || tell }
              inFlight := some (readOf x.item), busRequest := true, fault := s.asc.fault || tell
              lastFailure := some { item := x.item, reason := .grantTimeout, stamp := s.now } }
          ∧ t.lnu.flags = (if tell then s.lnu.flags.set .storeFault true else s.lnu.flags)
          ∧ t = { s with asc := t.asc, lnu := t.lnu })

/-- The initialization of a blank store writes the outstanding accounts' zeroed records in walk order, each up to three
times in all, and delivers each account zeroed, CLEAN when written and DIRTY when its third attempt failed, which sets
the fault flag and raises STORE_FAULT the first time; the format mark is written last, unless a record failed, and
format pending is set when it could not be written (R129, R144, R145). -/
def Obligations.BlankStoreIsInitialized : Prop :=
  ∀ (s : State) (x : Transaction) (l : Load), s.powered = true → s.asc.inFlight = some x →
    x.phase = .readBack → x.origin = .init → s.asc.activity = .loading l →
    let writeOf (item : StoreItem) (record : List Byte) : Transaction :=
      { item := item, origin := .init, phase := .waitGrant, grantBy := s.elapsed + 500000, cycleBy := none,
        record := record }
    let zeroed (p : Persistence) : Account :=
      { lifetime := 0, interval := 0, preset := none, retired := false, suspect := false, saturated := false,
        status := p }
    let next (failed : Bool) (u : UnitId) (k : Kind) (t : State) : Prop :=
      (∀ v m, (v, m) ≠ (u, k) → isOutstanding (s.account v m).status = true →
          (∀ w y, walkPosition w y < walkPosition v m → (w, y) ≠ (u, k) →
            isOutstanding (s.account w y).status = false) →
        t.asc.activity = .loading { l with stage := .initRecord 1, initFailed := failed }
          ∧ t.asc.inFlight = some (writeOf (.account v m) (blankRecord v m)))
        ∧ ((∀ v m, (v, m) ≠ (u, k) → isOutstanding (s.account v m).status = false) →
          (failed = false →
            t.asc.activity = .loading { l with stage := .initMark 1, initFailed := failed }
              ∧ t.asc.inFlight = some (writeOf .mark formatMark))
            ∧ (failed = true → t.asc.formatPending = true ∧ isLoadActivity t.asc.activity = false))
    (∀ (u : UnitId) (k : Kind) (n : Nat), x.item = .account u k → l.stage = .initRecord n →
        (s.account u k).status = .loading 0 → (u, k) ∉ s.asc.queue →
      (∃ t, exec (.readBackComplete x.record) s = .next t
          ∧ (s.asc.recommit = false → t.account u k = zeroed .clean) ∧ next l.initFailed u k t
          ∧ t = { s with rha := t.rha, asc := t.asc, lnu := t.lnu })
        ∧ ∀ bytes : List Byte, bytes ≠ x.record →
          (n < 3 →
            exec (.readBackComplete bytes) s = .next { s with asc := { s.asc with
              activity := .loading { l with stage := .initRecord (n + 1) }
              inFlight := some (writeOf x.item (blankRecord u k)), busRequest := true
              lastFailure := some { item := x.item, reason := .mismatch, stamp := s.now } } })
            ∧ (3 ≤ n →
              ∃ t, exec (.readBackComplete bytes) s = .next t
                ∧ (s.asc.recommit = false → t.account u k = zeroed .dirty) ∧ next true u k t
                ∧ (l.initFailed = false → s.asc.recommit = false →
                    t.asc.fault = true ∧ t.lnu.flags.storeFault = true)
                ∧ t = { s with rha := t.rha, asc := t.asc, lnu := t.lnu }))
      ∧ (∀ n, x.item = .mark → l.stage = .initMark n →
        (∃ t, exec (.readBackComplete x.record) s = .next t
            ∧ t.asc.formatPending = false ∧ isLoadActivity t.asc.activity = false
            ∧ t = { s with rha := t.rha, asc := t.asc, lnu := t.lnu })
          ∧ ∀ bytes : List Byte, bytes ≠ x.record →
            (n < 3 →
              exec (.readBackComplete bytes) s = .next { s with asc := { s.asc with
                activity := .loading { l with stage := .initMark (n + 1) }
                inFlight := some (writeOf .mark formatMark), busRequest := true
                lastFailure := some { item := .mark, reason := .mismatch, stamp := s.now } } })
              ∧ (3 ≤ n →
                ∃ t, exec (.readBackComplete bytes) s = .next t
                  ∧ t.asc.formatPending = true ∧ isLoadActivity t.asc.activity = false
                  ∧ t.lnu.flags.storeFault = true
                  ∧ t = { s with rha := t.rha, asc := t.asc, lnu := t.lnu }))

/-- COMMIT and the period expiry trigger a commit: one that finds no DIRTY account ends at once with COMMIT_DONE,
one that finds a DIRTY account begins to write, and one taken while a commit or a load runs sets the recommit flag;
COMMIT is refused while FROZEN, and the expiry restarts the period timer (R139 to R141, R148). That the timer
restarts from the count at which the expiry is taken is the model's reading (notes/assumptions/27.md, DEDUCED). -/
def Obligations.CommitIsTriggered : Prop :=
  ∀ s : State,
    (Taken s → s.asc.frozen = true →
      exec .commit s = .next (sendReply 0x50 { status := .wrongState, body := [] } s))
      ∧ (Taken s → s.asc.frozen = false → s.asc.activity ≠ .idle → s.asc.inFlight.isSome = true →
        exec .commit s = .next (sendReply 0x50
          { status := .accepted, body := toBytes 1 (activityCode s.asc.activity) }
          { s with asc := { s.asc with recommit := true } }))
      ∧ (Taken s → s.asc.frozen = false → s.asc.activity = .idle → s.asc.inFlight = none → s.asc.queue = [] →
          (∃ u k, (s.account u k).status = .dirty) →
        ∃ t u k, exec .commit s = .next t ∧ Replied 0x50 { status := .accepted, body := toBytes 1 1 } s t
          ∧ (s.account u k).status = .dirty ∧ (t.account u k).status = .writing .none
          ∧ (∀ v m, walkPosition v m < walkPosition u k → (s.account v m).status ≠ .dirty)
          ∧ t.asc.activity = .committing ∧ t.asc.cursor = walkPosition u k ∧ t.asc.written = 0
          ∧ t.asc.busRequest = true ∧ t = { s with rha := t.rha, asc := t.asc, lnu := t.lnu })
      ∧ (Taken s → s.asc.frozen = false → s.asc.activity = .idle → s.asc.inFlight = none → s.asc.queue = [] →
          s.asc.formatPending = false → s.asc.recommit = false → (∀ u k, (s.account u k).status ≠ .dirty) →
        ∃ t, exec .commit s = .next t ∧ Replied 0x50 { status := .accepted, body := toBytes 1 0 } s t
          ∧ t.asc.lastCommit = some { done := true, written := 0, failed := 0, stamp := s.now }
          ∧ t.asc.cursor = 40 ∧ t.asc.failedCommits = 0 ∧ t.lnu.flags.commitDone = true
          ∧ t = { s with asc := t.asc, lnu := t.lnu })
      ∧ (s.powered = true → s.asc.periodBy ≤ s.elapsed →
        ∃ t, exec .commitPeriodExpiry s = .next t
          ∧ t.asc.periodBy = s.elapsed + 600000000 * 2 ^ s.asc.periodExp
          ∧ (s.asc.activity ≠ .idle → s.asc.inFlight.isSome = true → t.asc.recommit = true)
          ∧ (s.asc.activity = .idle → s.asc.frozen = false → s.asc.inFlight.isSome = true →
              t.asc.activity = .committing ∧ t.asc.cursor = 0)
          ∧ t = { s with rha := t.rha, asc := t.asc, lnu := t.lnu })

/-- SET_STORE changes the store mode as R142 gives, stores the exponent and restarts the period timer; NORMAL ordered in
FROZEN triggers a commit. A group A reset makes every load outstanding, empties the queue and reads the first record,
at once or at the end of the record in flight, keeps the values and tallies, and is refused while a load is in
progress (R142, R146, R149). That the commit cursor and the count written stay as they stood while the reset waits, and
that a record in flight ends then as part of no commit, are the model's readings (notes/assumptions/17.md, DEDUCED). -/
def Obligations.StoreIsSetAndReloaded : Prop :=
  (∀ s : State, Taken s →
    (∀ m n : Byte, 1 < m.toNat →
      exec (.setStore m n) s = .next (sendReply 0x51 { status := .outOfRange, body := [] } s))
      ∧ (∀ n : Byte,
        let n' := min n.toNat 6
        let st : Status := if n' = n.toNat then .ok else .clamped
        let asc := { s.asc with periodExp := n', periodBy := s.elapsed + 600000000 * 2 ^ n' }
        (s.asc.frozen = true →
          exec (.setStore 1#8 n) s = .next (sendReply 0x51
            { status := st
              body := [1#8] ++ toBytes 1 s.asc.freezePending.toNat ++ toBytes 1 n' ++ toBytes 1 (2 ^ n') }
            { s with asc := asc }))
          ∧ (s.asc.frozen = false → s.asc.activity ≠ .committing →
            exec (.setStore 1#8 n) s = .next (sendReply 0x51
              { status := st
                body := [1#8] ++ toBytes 1 s.asc.freezePending.toNat ++ toBytes 1 n' ++ toBytes 1 (2 ^ n') }
              { s with asc := { asc with frozen := true } }))
          ∧ (s.asc.frozen = false → s.asc.activity = .committing →
            exec (.setStore 1#8 n) s = .next (sendReply 0x51
              { status := st, body := [0#8, 1#8] ++ toBytes 1 n' ++ toBytes 1 (2 ^ n') }
              { s with asc := { asc with freezePending := true } }))
          ∧ (s.asc.frozen = false →
            exec (.setStore 0#8 n) s = .next (sendReply 0x51
              { status := st, body := [0#8, 0#8] ++ toBytes 1 n' ++ toBytes 1 (2 ^ n') }
              { s with asc := { asc with freezePending := false } }))
          ∧ (s.asc.frozen = true → s.asc.activity = .idle → s.asc.inFlight.isSome = true →
            ∃ t, exec (.setStore 0#8 n) s = .next t ∧ t.lnu.answering = true
              ∧ t.asc = { asc with
                  frozen := false, activity := .committing, cursor := 0, cursorTaken := false, written := 0 }
              ∧ t = { s with asc := t.asc, lnu := t.lnu })
          ∧ (s.asc.frozen = true → s.asc.activity = .idle → s.asc.inFlight = none → s.asc.queue = [] →
              s.asc.recommit = false → s.asc.formatPending = false → (∀ u k, (s.account u k).status ≠ .dirty) →
            ∃ t, exec (.setStore 0#8 n) s = .next t ∧ t.lnu.answering = true
              ∧ t.asc.lastCommit = some { done := true, written := 0, failed := 0, stamp := s.now }
              ∧ t.lnu.flags.commitDone = true ∧ t.asc.activity = .idle ∧ t.asc.inFlight = none
              ∧ t = { s with asc := t.asc, lnu := t.lnu })
          ∧ (s.asc.frozen = true → s.asc.activity = .idle → s.asc.inFlight = none →
            ∀ u k,
              (∃ rest, s.asc.queue = (u, k) :: rest)
                ∨ (s.asc.queue = [] ∧ (s.account u k).status = .dirty
                  ∧ ∀ v m, walkPosition v m < walkPosition u k → (s.account v m).status ≠ .dirty) →
            ∃ t x, exec (.setStore 0#8 n) s = .next t ∧ t.lnu.answering = true
              ∧ t.asc.frozen = false ∧ t.asc.activity = .committing ∧ t.asc.inFlight = some x
              ∧ x.item = .account u k ∧ (t.account u k).status = .writing .none
              ∧ t.asc.queue = s.asc.queue.tail
              ∧ t = { s with rha := t.rha, asc := t.asc, lnu := t.lnu })
          ∧ (s.asc.frozen = true → isLoadActivity s.asc.activity = true → s.asc.inFlight.isSome = true →
            ∃ t, exec (.setStore 0#8 n) s = .next t ∧ t.lnu.answering = true
              ∧ t.asc = { asc with frozen := false, recommit := true }
              ∧ t = { s with asc := t.asc, lnu := t.lnu }))
      ∧ (isLoadActivity s.asc.activity = true →
        exec .resetGroupA s = .next (sendReply 0x72 { status := .wrongState, body := [] } s))
      ∧ (isLoadActivity s.asc.activity = false → s.asc.inFlight = none →
        ∃ t, exec .resetGroupA s = .next t ∧ Replied 0x72 { status := .ok, body := [] } s t
          ∧ (∀ u k, t.account u k = { s.account u k with status := .loading 0 })
          ∧ (∀ u k, t.tally u k = s.tally u k)
          ∧ t.asc.queue = [] ∧ t.asc.recommit = false ∧ t.asc.formatPending = s.asc.formatPending
          ∧ t.asc.frozen = (s.asc.frozen || s.asc.freezePending) ∧ t.asc.freezePending = false
          ∧ activityCode t.asc.activity = 2
          ∧ (∃ x, t.asc.inFlight = some x ∧ x.item = .account .u1 .gen ∧ x.origin = .read)
          ∧ t = { s with rha := t.rha, asc := t.asc, lnu := t.lnu })
      ∧ (isLoadActivity s.asc.activity = false → s.asc.inFlight.isSome = true →
        ∃ t l, exec .resetGroupA s = .next t ∧ Replied 0x72 { status := .ok, body := [] } s t
          ∧ t.asc = { s.asc with
              activity := .loading l, recommit := false, freezePending := false,
              frozen := s.asc.frozen || s.asc.freezePending }
          ∧ l.stage = .afterWrite
          ∧ t = { s with asc := t.asc, lnu := t.lnu }))
    ∧ ∀ (s : State) (x : Transaction) (l : Load), s.powered = true → s.asc.inFlight = some x →
      x.phase = .readBack → x.origin = .queue ∨ x.origin = .commit → s.asc.activity = .loading l →
      l.stage = .afterWrite → ∀ bytes : List Byte,
        ∃ t, exec (.readBackComplete bytes) s = .next t
          ∧ (∀ u k, t.account u k = { s.account u k with status := .loading 0 })
          ∧ (∀ u k, t.tally u k = s.tally u k)
          ∧ t.asc.queue = [] ∧ activityCode t.asc.activity = 2 ∧ t.asc.recommit = s.asc.recommit
          ∧ t.asc.lastCommit = s.asc.lastCommit ∧ t.asc.failedCommits = s.asc.failedCommits
          ∧ (∃ y, t.asc.inFlight = some y ∧ y.item = .account .u1 .gen ∧ y.origin = .read)
          ∧ t = { s with rha := t.rha, asc := t.asc, lnu := t.lnu }

/-! ### Shifts (chapter 9) -/

/-- A new time of day moves the clock forward by less than half a day and crosses, one at a time in clock order, every
open, due and overdue point it passes, or crosses nothing; and each crossing acts on the window by the tables of the
manual: the skip boundary, the quality class and the state decide what an open point does, and the due and
overdue points act on the open window alone (R152, R154, R155, R156, R157). -/
def Obligations.ClockCrossesItsPoints : Prop :=
  (∀ s : State, s.shc.seenFrac ≤ 9999999 → s.tb.frac ≤ 9999999 →
    let old := 10000000 * (s.shc.seenSeconds % 86400) + s.shc.seenFrac
    let adv := (10000000 * (s.tb.seconds % 86400) + s.tb.frac + 864000000000 - old) % 864000000000
    let minute (y : Point × Nat) : Nat :=
      match y.1 with
      | .opening => (y.2 + 1440 - s.shc.lead) % 1440
      | .due => y.2
      | .overdue => (y.2 + s.shc.grace) % 1440
    let dist (y : Point × Nat) : Nat := (600000000 * minute y + 864000000000 - old) % 864000000000
    let sees (t : State) : State :=
      { t with shc := { t.shc with seenSeconds := s.tb.seconds % 86400, seenFrac := s.tb.frac } }
    (adv = 0 ∨ 432000000000 ≤ adv → takeTimeOfDay s = sees s)
      ∧ (adv < 432000000000 →
        ∃ l : List (Point × Nat),
          (∀ y, y ∈ l ↔
            (y.2 ∈ s.shc.roster ∨ (s.shc.window = some y.2 ∧ y.1 ≠ .opening)) ∧ 0 < dist y ∧ dist y ≤ adv)
            ∧ l.Pairwise (fun y z => dist y < dist z ∨ (dist y = dist z ∧ pointRank y.1 ≤ pointRank z.1))
            ∧ (s.shc.roster.Nodup → l.Nodup)
            ∧ takeTimeOfDay s = sees (l.foldl crossPoint s)))
    ∧ ∀ (s : State) (b : Nat),
      let lamp : Lamp := if s.shc.overdue then .flashing else .steady
      (s.shc.skip = some b →
        crossPoint s (.opening, b) = { s with shc := { s.shc with skip := none } })
        ∧ (s.shc.skip ≠ some b → s.tb.quality = .u ∨ s.tb.quality = .d → crossPoint s (.opening, b) = s)
        ∧ (s.shc.skip ≠ some b → s.tb.quality ≠ .u → s.tb.quality ≠ .d →
          (s.shc.state = .noShift → crossPoint s (.opening, b) = s)
            ∧ (∀ x, (s.shc.state = .onShift ∧ x = .window) ∨ (s.shc.state = .offered ∧ s.shc.window = none ∧ x = .offered) →
              let t := crossPoint s (.opening, b)
              t.shc = { s.shc with state := x, window := some b, due := false }
                ∧ t.lnu.flags = s.lnu.flags.set .windowOpen true ∧ t.lnu.handoverLamp = lamp
                ∧ t = { s with shc := t.shc, lnu := t.lnu })
            ∧ (∀ w, s.shc.state = .window ∨ s.shc.state = .offered → s.shc.window = some w →
              crossPoint s (.opening, b) =
                if w = b then s else { s with shc := { s.shc with window := some b, due := false } }))
        ∧ crossPoint s (.due, b) =
            (if s.shc.window = some b ∧ (s.shc.state = .window ∨ s.shc.state = .offered) then
              { s with shc := { s.shc with due := true } } else s)
        ∧ (s.shc.window ≠ some b ∨ s.shc.overdue = true → crossPoint s (.overdue, b) = s)
        ∧ (s.shc.window = some b → s.shc.overdue = false → s.shc.state = .window ∨ s.shc.state = .offered →
          let t := crossPoint s (.overdue, b)
          t.shc = { s.shc with overdue := true } ∧ t.lnu.flags = s.lnu.flags.set .overdue true
            ∧ t.lnu.handoverLamp = .flashing ∧ t = { s with shc := t.shc, lnu := t.lnu })

/-- SIGN_ON in NO_SHIFT and an ACCEPT that passes its tests begin a new shift: the number increments, the duty passes
to the badge given, the ended shift goes into the summary, the cases are handed over, the tallies are zeroed, the
version increments once, presence restarts and HANDOVER_DONE is raised. An early ACCEPT leaves as skip boundary the
roster boundary whose open point lies first from the present time of day (R75, R158, R163, R164, R165). That the time of
day of an ACCEPT taken before a local second boundary of its instant is that after the insertion is the model's choice
(notes/assumptions/31.md). -/
def Obligations.NewShiftIsBegun : Prop :=
  ∀ (s : State) (b v : BitVec 16) (m : Byte), Taken s → b.toNat ≠ 0 → 1 ≤ m.toNat → m.toNat ≤ 15 →
    s.shc.number < 4294967295 →
    let done (byAccept : Bool) (t : State) : Prop :=
      t.shc.number = s.shc.number + 1 ∧ t.shc.state = .onShift ∧ t.shc.duty = some b.toNat
        ∧ t.shc.team = some m.toNat ∧ t.shc.start = some s.now ∧ t.shc.window = none ∧ t.shc.offer = none
        ∧ t.shc.due = false ∧ t.shc.overdue = false ∧ t.shc.lapses = 0 ∧ t.shc.alarm = false
        ∧ t.shc.version = (s.shc.version + 1) % 65536
        ∧ t.shc.presenceBy = s.shc.presenceExp.map (fun n => s.elapsed + 600000000 * 2 ^ n)
        ∧ (1 ≤ s.shc.number → t.shc.previous = some
            { number := s.shc.number, team := s.shc.team, duty := s.shc.duty, start := s.shc.start, stop := s.now,
              tallies := s.rha.tallies, lapses := s.shc.lapses, overdue := s.shc.overdue, byAccept := byAccept })
        ∧ (s.shc.number = 0 → t.shc.previous = none)
        ∧ (∀ u k, t.tally u k = 0)
        ∧ (∀ u j, s.slot u j = none → t.slot u j = none)
        ∧ (∀ u j c, s.slot u j = some c → c.state = .cleared → t.slot u j = none)
        ∧ (∀ u j c, s.slot u j = some c → c.state ≠ .cleared →
            t.slot u j = some { c with handovers := if c.handovers < 255 then c.handovers + 1 else c.handovers })
        ∧ t.lnu.flags.handoverDone = true ∧ t.lnu.handoverLamp = .dark ∧ t.lnu.presenceLine = false
        ∧ t = { s with ct := t.ct, rha := t.rha, asc := t.asc, shc := t.shc, lnu := t.lnu }
    (s.shc.state = .noShift →
      ∃ t, exec (.signOn b m) s = .next t
        ∧ Replied 0x62 { status := .ok, body := toBytes 4 (s.shc.number + 1) } s t ∧ t.shc.skip = none
        ∧ done false t)
      ∧ (s.shc.state ≠ .noShift →
        exec (.signOn b m) s = .next (sendReply 0x62 { status := .wrongState, body := [] } s))
      ∧ (s.shc.state = .offered → s.shc.duty ≠ some b.toNat → s.shc.version = v.toNat →
        ∃ t, exec (.accept b v m) s = .next t
          ∧ Replied 0x66 { status := .ok, body := toBytes 4 (s.shc.number + 1) } s t
          ∧ (s.shc.window ≠ none → t.shc.skip = none) ∧ (s.shc.roster = [] → t.shc.skip = none)
          ∧ (s.shc.window = none → s.shc.roster ≠ [] →
              let pos := 10000000 * (s.now.seconds % 86400) + s.now.frac
              let dist (r : Nat) : Nat :=
                (600000000 * ((r + 1440 - s.shc.lead) % 1440) + 864000000000 - pos) % 864000000000
              ∃ r ∈ s.shc.roster, t.shc.skip = some r ∧ ∀ q ∈ s.shc.roster, dist r ≤ dist q)
          ∧ done true t)
      ∧ (s.shc.state = .offered → s.shc.duty ≠ some b.toNat → s.shc.version ≠ v.toNat →
        exec (.accept b v m) s = .next (sendReply 0x66
          { status := .offerChanged, body := toBytes 2 s.shc.version } s))
      ∧ (s.shc.state = .offered → s.shc.duty = some b.toNat →
        exec (.accept b v m) s = .next (sendReply 0x66 { status := .sameOperator, body := [] } s))
      ∧ (s.shc.state ≠ .offered →
        exec (.accept b v m) s = .next (sendReply 0x66 { status := .wrongState, body := [] } s))

/-- OFFER by the duty badge makes the state OFFERED with a stamped offer; WITHDRAW by the duty badge takes it back to
WINDOW or ON_SHIFT; each increments the version and, in AUTO mode, shows presence. A badge of 0, another badge,
another state and hold-up are each refused (R159, R162, R165, R166). -/
def Obligations.OfferIsMadeAndWithdrawn : Prop :=
  ∀ (s : State) (b : BitVec 16), s.listening = true →
    let v := (s.shc.version + 1) % 65536
    let lamp : Lamp := if s.shc.overdue then .flashing else .steady
    (s.spm.supply = .holdup →
      OnlyAnswered (.offer b) 0x64 { status := .holdup, body := [] } s
        ∧ OnlyAnswered (.withdraw b) 0x67 { status := .holdup, body := [] } s)
      ∧ (s.spm.supply = .run → b.toNat = 0 →
        OnlyAnswered (.offer b) 0x64 { status := .outOfRange, body := [] } s
          ∧ OnlyAnswered (.withdraw b) 0x67 { status := .outOfRange, body := [] } s)
      ∧ (s.spm.supply = .run → b.toNat ≠ 0 →
        (s.shc.state = .onShift ∨ s.shc.state = .window →
          (s.shc.duty = some b.toNat →
            ∃ t, exec (.offer b) s = .next t ∧ Answered 0x64 { status := .ok, body := toBytes 2 v } s t
              ∧ t.shc = { s.shc with
                  state := .offered, offer := some { badge := b.toNat, stamp := s.now }, version := v
                  presenceBy := t.shc.presenceBy, alarm := t.shc.alarm }
              ∧ t.lnu.handoverLamp = lamp ∧ PresenceShown b.toNat s t
              ∧ t = { s with shc := t.shc, lnu := t.lnu })
            ∧ (s.shc.duty ≠ some b.toNat →
              OnlyAnswered (.offer b) 0x64 { status := .notDutyOperator, body := [] } s))
          ∧ (s.shc.state = .noShift ∨ s.shc.state = .offered →
            OnlyAnswered (.offer b) 0x64 { status := .wrongState, body := [] } s)
          ∧ (s.shc.state = .offered →
            (s.shc.duty = some b.toNat →
              let x := if s.shc.window = none then ShiftState.onShift else .window
              ∃ t, exec (.withdraw b) s = .next t
                ∧ Answered 0x67 { status := .ok, body := toBytes 1 (shiftStateCode x) ++ toBytes 2 v } s t
                ∧ t.shc = { s.shc with
                    state := x, offer := none, version := v
                    presenceBy := t.shc.presenceBy, alarm := t.shc.alarm }
                ∧ t.lnu.handoverLamp = (if s.shc.window = none then .dark else lamp)
                ∧ PresenceShown b.toNat s t ∧ t = { s with shc := t.shc, lnu := t.lnu })
              ∧ (s.shc.duty ≠ some b.toNat →
                OnlyAnswered (.withdraw b) 0x67 { status := .notDutyOperator, body := [] } s))
          ∧ (s.shc.state ≠ .offered →
            OnlyAnswered (.withdraw b) 0x67 { status := .wrongState, body := [] } s))

/-- PRESENCE by the duty badge restarts the presence timer and switches the alarm off; the expiry stops the timer,
switches the alarm and its line on, counts a lapse and raises PRESENCE_LAPSED (R165, R167). -/
def Obligations.PresenceIsShownOrLapses : Prop :=
  (∀ (s : State) (b : BitVec 16), Taken s → b.toNat ≠ 0 →
    (s.shc.state ≠ .noShift → s.shc.duty = some b.toNat →
      let by_ := s.shc.presenceExp.map (fun n => s.elapsed + 600000000 * 2 ^ n)
      ∃ r, exec (.presence b) s = .next (sendReply 0x63 { status := .ok, body := r }
          { s with shc := { s.shc with presenceBy := by_, alarm := false }, lnu := { s.lnu with presenceLine := false } })
        ∧ r.length = 10 ∧ r.take 1 = toBytes 1 by_.isSome.toNat)
      ∧ (s.shc.state ≠ .noShift → s.shc.duty ≠ some b.toNat →
        exec (.presence b) s = .next (sendReply 0x63 { status := .notDutyOperator, body := [] } s))
      ∧ (s.shc.state = .noShift →
        exec (.presence b) s = .next (sendReply 0x63 { status := .wrongState, body := [] } s)))
    ∧ ∀ (s : State) (e : Nat), s.powered = true → s.shc.presenceBy = some e → e ≤ s.elapsed →
      ∃ t, exec .presenceExpiry s = .next t
        ∧ t.shc = { s.shc with
            presenceBy := none, alarm := true,
            lapses := if s.shc.lapses < 255 then s.shc.lapses + 1 else s.shc.lapses }
        ∧ t.lnu.presenceLine = true ∧ t.lnu.flags = s.lnu.flags.set .presenceLapsed true
        ∧ t = { s with shc := t.shc, lnu := t.lnu }

/-- SET_ROSTER stores distinct minutes in ascending order and drops the skip boundary; SET_SHIFT_TIMING stores
the settings brought to their ranges; a group S reset releases the duty (R152, R153, R170). -/
def Obligations.ShiftSettingsAndRelease : Prop :=
  ∀ s : State, Taken s →
    (∀ l : List (BitVec 16), l.length ≤ 6 → (∀ m ∈ l, m.toNat ≤ 1439) → l.Nodup →
      ∃ r : List Nat, r.Perm (l.map (·.toNat)) ∧ r.Pairwise (· < ·)
        ∧ exec (.setRoster l) s = .next (sendReply 0x60
            { status := .ok, body := toBytes 1 r.length ++ r.flatMap (toBytes 2) }
            { s with shc := { s.shc with roster := r, skip := none } }))
      ∧ (∀ l : List (BitVec 16), 6 < l.length ∨ (∃ m ∈ l, 1439 < m.toNat) ∨ ¬ l.Nodup →
        exec (.setRoster l) s = .next (sendReply 0x60 { status := .outOfRange, body := [] } s))
      ∧ (∀ l g c m : Byte, m.toNat ≤ 1 →
        let l' := min l.toNat 60
        let g' := min g.toNat 60
        let c' := if c.toNat = 0 then 0 else max 2 (min c.toNat 7)
        ∃ p, exec (.setShiftTiming l g c m) s = .next (sendReply 0x6A
              { status := if l' = l.toNat ∧ g' = g.toNat ∧ c' = c.toNat then .ok else .clamped
                body := toBytes 1 l' ++ toBytes 1 g' ++ toBytes 1 c' ++ toBytes 1 m.toNat }
              { s with shc := { s.shc with
                lead := l', grace := g', presenceExp := if c' = 0 then none else some c', auto := m == 1#8,
                presenceBy := p } })
            ∧ (c' = 0 → p = none) ∧ (c' ≠ 0 → s.shc.presenceExp ≠ none → p = s.shc.presenceBy)
            ∧ (c' ≠ 0 → s.shc.presenceExp = none → s.shc.state ≠ .noShift →
                p = some (s.elapsed + 600000000 * 2 ^ c')))
      ∧ (∀ l g c m : Byte, 1 < m.toNat →
        exec (.setShiftTiming l g c m) s = .next (sendReply 0x6A { status := .outOfRange, body := [] } s))
      ∧ ∃ t, exec .resetGroupS s = .next t ∧ Replied 0x72 { status := .ok, body := [] } s t
        ∧ t.shc = { s.shc with
            offer := none, state := .noShift, duty := none, window := none, skip := none, due := false,
            presenceBy := none, version := (s.shc.version + 1) % 65536 }
        ∧ t.lnu.handoverLamp = .dark ∧ t = { s with shc := t.shc, lnu := t.lnu }

/-! ### The link (chapter 10) -/

/-- READ_NOTICES returns the overview, the flags, the unit sets and the masks of its instant, clears every flag it shows
set and empties its unit set, and releases the attention line; SET_NOTICE_MASK writes all masks and evaluates the
attention line, and refuses a bit that names no flag (R179, R180, R181, R189). -/
def Obligations.NoticesAreCollectedAndMasked : Prop :=
  (∀ s : State, s.listening = true →
    let f := s.lnu.flags
    let g := s.lnu.unitSets
    let taken (flag : Bool) (x : PerUnit Bool) : PerUnit Bool :=
      if flag then ⟨false, false, false, false, false, false, false, false⟩ else x
    ∃ t b, exec .readNotices s = .next t ∧ Replied 0x70 { status := .ok, body := b } s t
      ∧ b.length = 18
      ∧ b.take 1 = toBytes 1 (packBits
          [f.sourceChange || f.step || f.lockGained || f.holdoverEntered || f.qualityDrop,
           f.newCase || f.firstOutFinal || f.overflow, f.speedSignalLost || f.speedSignalBack,
           f.commitDone || f.commitFailed || f.storeFault || f.suspectLoaded || f.queueFull,
           f.windowOpen || f.overdue || f.presenceLapsed || f.handoverDone,
           f.holdup || f.warmStart || f.coldStart])
      ∧ (b.drop 1).take 6 = noticeBytes f
      ∧ (b.drop 7).take 5 = toBytes 1 (packBits g.newCase.toList) ++ toBytes 1 (packBits g.firstOutFinal.toList)
          ++ toBytes 1 (packBits g.overflow.toList) ++ toBytes 1 (packBits g.speedSignalLost.toList)
          ++ toBytes 1 (packBits g.speedSignalBack.toList)
      ∧ b.drop 12 = noticeBytes s.lnu.masks
      ∧ (∀ n, t.lnu.flags.get n = false) ∧ t.lnu.masks = s.lnu.masks ∧ t.lnu.attention = false
      ∧ t.lnu.unitSets =
          { newCase := taken f.newCase g.newCase, firstOutFinal := taken f.firstOutFinal g.firstOutFinal
            overflow := taken f.overflow g.overflow
            speedSignalLost := taken f.speedSignalLost g.speedSignalLost
            speedSignalBack := taken f.speedSignalBack g.speedSignalBack }
      ∧ t = { s with lnu := t.lnu })
    ∧ (∀ (s : State) (a b c d e f : Byte), Taken s → a.toNat < 32 → b.toNat < 8 → c.toNat < 4 → d.toNat < 32 →
        e.toNat < 16 → f.toNat < 8 →
      ∃ t, exec (.setNoticeMask a b c d e f) s = .next t
        ∧ noticeBytes t.lnu.masks = [a, b, c, d, e, f]
        ∧ t.lnu.flags = s.lnu.flags ∧ t.lnu.attention = anyUnmasked s.lnu.flags t.lnu.masks
        ∧ Replied 0x71 { status := .ok, body := [a, b, c, d, e, f] ++ toBytes 1 t.lnu.attention.toNat } s t
        ∧ t = { s with lnu := t.lnu })
    ∧ ∀ (s : State) (a b c d e f : Byte), Taken s →
        32 ≤ a.toNat ∨ 8 ≤ b.toNat ∨ 4 ≤ c.toNat ∨ 32 ≤ d.toNat ∨ 16 ≤ e.toNat ∨ 8 ≤ f.toNat →
      exec (.setNoticeMask a b c d e f) s = .next (sendReply 0x71 { status := .outOfRange, body := [] } s)

/-- IDENTIFY answers the part code 48, revision 1, the link address, the link rate and the link error count, changes no
record and is taken in hold-up (R184). -/
def Obligations.IdentifyAnswersThePart : Prop :=
  ∀ s : State, s.listening = true →
    OnlyAnswered .identify 0x73
      { status := .ok
        body := [48#8, 1#8] ++ toBytes 1 s.lnu.address ++ [if s.lnu.fast then 1#8 else 0#8]
          ++ toBytes 2 s.lnu.errors } s

/-- Bytes gather into a frame; a frame is good exactly when it has no framing error, holds 5 to 255 bytes, its length
byte counts its bytes less 4 and its CRC-16 agrees; a frame that is not good counts one link error and is not
answered; a good frame for another slave is not counted; bytes that arrive while ANSWERING, and the rest of a frame
begun then, are discarded until the silence that ends them, and are not counted; an unknown code is answered
UNKNOWN_COMMAND, in hold-up too; the end of a reply releases the driver (R173 to R176). -/
def Obligations.LinkTakesBytesAndFrames : Prop :=
  (∀ (l : List Byte) (o e : Bool), frameGood l o e = true ↔
    o = false ∧ e = false ∧ 5 ≤ l.length ∧ l.length ≤ 255 ∧ field l 1 1 = l.length - 4
      ∧ l.drop (l.length - 2) = toBytes 2 (crc16 (l.take (l.length - 2))).toNat)
    ∧ ∀ s : State, s.powered = true →
    (∀ (b : Byte) (stop : Bool), s.lnu.answering = false → s.lnu.rx = .silent →
      exec (.linkByteReceived b stop) s = .next { s with lnu := { s.lnu with rx := .frame [b] false (!stop) } })
      ∧ (∀ (b : Byte) (stop : Bool) (l : List Byte) (o e : Bool),
          s.lnu.answering = false → s.lnu.rx = .frame l o e →
        exec (.linkByteReceived b stop) s = .next { s with lnu := { s.lnu with
          rx := if l.length < 255 then .frame (l ++ [b]) o (e || !stop) else .frame l true (e || !stop) } })
      ∧ (∀ (b : Byte) (stop : Bool), s.lnu.answering = true →
        exec (.linkByteReceived b stop) s = .next { s with lnu := { s.lnu with rx := .ignoring } })
      ∧ (∀ (l : List Byte) (o e : Bool), s.lnu.answering = false → s.lnu.rx = .frame l o e →
        (frameGood l o e = false →
          exec .frameEnd s = .next { s with lnu := { s.lnu with
            rx := .silent, errors := if s.lnu.errors < 65535 then s.lnu.errors + 1 else s.lnu.errors } })
        ∧ (frameGood l o e = true → field l 0 1 ≠ 0 → field l 0 1 ≠ s.lnu.address →
          exec .frameEnd s = .next { s with lnu := { s.lnu with rx := .silent } }))
      ∧ (s.lnu.answering = false → s.lnu.rx = .ignoring →
        exec .frameEnd s = .next { s with lnu := { s.lnu with rx := .silent } }
          ∧ ∀ (b : Byte) (stop : Bool), exec (.linkByteReceived b stop) s = .next s)
      ∧ (s.lnu.answering = true ∨ s.lnu.rx = .silent → exec .frameEnd s = .next s)
      ∧ (s.lnu.answering = true →
        exec .replyComplete s = .next { s with lnu := { s.lnu with
          answering := false, driver := false, tx := [], rx := .ignoring } })
      ∧ (∀ code : Byte, s.listening = true → code.toNat ∉ knownCodes →
        exec (.unknownCommand code) s = .next
          (sendReply code.toNat { status := .unknownCommand, body := [] } s))

/-! ### Supply (chapter 11) -/

/-- PFI is filtered for 10,000 cu, and an edge back to the stable level abandons the change; its confirmation asserted
and a second low reading in a row each enter HOLDUP once, with the notice, and do not enter it again from HOLDUP; a
reading of 88.0 V or more ends the low-supply run. In HOLDUP a reading of 95.0 V or more with PFI released, or the
release confirmed with such a reading last, starts the restore timer; a reading below it or an assertion confirmed stops
the timer; and its expiry returns the supply to RUN (R193 to R195). -/
def Obligations.HoldupIsEnteredAndLeft : Prop :=
  ∀ s : State, s.powered = true →
    (∀ level : Bool, level ≠ s.spm.pfiLevel → s.spm.pfiPending = none →
      exec (.pfiEdge level) s = .next { s with spm := { s.spm with
        pfiLevel := level, pfiPending := some s.elapsed } })
      ∧ (∀ e, s.spm.pfiPending = some e → e + 10000 ≤ s.elapsed → s.spm.pfiLevel = true →
          s.spm.supply = .run →
        ∃ t, exec .pfiConfirmation s = .next t
          ∧ t.spm = { s.spm with
              pfiStable := true, pfiPending := none, supply := .holdup, lowRun := 0, restoreBy := none }
          ∧ t.lnu.flags.holdup = true
          ∧ t = { s with rha := t.rha, asc := t.asc, lnu := t.lnu, spm := t.spm })
      ∧ (∀ (level : Bool) (e : Nat), level ≠ s.spm.pfiLevel → s.spm.pfiPending = some e → level = s.spm.pfiStable →
        exec (.pfiEdge level) s = .next { s with spm := { s.spm with pfiLevel := level, pfiPending := none } })
      ∧ (∀ e, s.spm.pfiPending = some e → e + 10000 ≤ s.elapsed →
        (s.spm.pfiLevel = true → s.spm.supply = .holdup →
          exec .pfiConfirmation s = .next { s with spm := { s.spm with
            pfiStable := true, pfiPending := none, restoreBy := none } })
          ∧ (s.spm.pfiLevel = false →
            exec .pfiConfirmation s = .next { s with spm := { s.spm with
              pfiStable := false, pfiPending := none
              restoreBy :=
                if s.spm.supply = .holdup ∧ s.spm.restoreBy = none ∧ s.usm.supplyReading.any (950 ≤ ·) = true then
                  some (s.elapsed + 1000000)
                else s.spm.restoreBy } }))
      ∧ (∀ raw : BitVec 10, s.usm.scan = .supply →
        let read := { s.usm with supplyReading := some (raw.toNat * 1500 / 1023), scan := .speed .u1 }
        (s.spm.supply = .run → 600 < raw.toNat →
          exec (.sampleEvent .supply raw) s = .next { s with usm := read, spm := { s.spm with lowRun := 0 } })
          ∧ (s.spm.supply = .holdup → raw.toNat < 648 →
            exec (.sampleEvent .supply raw) s = .next { s with usm := read, spm := { s.spm with restoreBy := none } })
          ∧ (s.spm.supply = .holdup → 648 ≤ raw.toNat → s.spm.pfiStable = true ∨ s.spm.restoreBy ≠ none →
            exec (.sampleEvent .supply raw) s = .next { s with usm := read }))
      ∧ (∀ raw : BitVec 10, raw.toNat ≤ 600 → s.usm.scan = .supply → s.spm.supply = .run →
        ∃ t, exec (.sampleEvent .supply raw) s = .next t
          ∧ t.usm = { s.usm with supplyReading := some (raw.toNat * 1500 / 1023), scan := .speed .u1 }
          ∧ (s.spm.lowRun = 0 → t.spm = { s.spm with lowRun := 1 })
          ∧ (s.spm.lowRun = 1 →
              t.spm = { s.spm with supply := .holdup, lowRun := 0, restoreBy := none }
                ∧ t.lnu.flags.holdup = true)
          ∧ t = { s with usm := t.usm, rha := t.rha, asc := t.asc, lnu := t.lnu, spm := t.spm })
      ∧ (∀ raw : BitVec 10, 648 ≤ raw.toNat → s.usm.scan = .supply → s.spm.supply = .holdup → s.spm.pfiStable = false →
          s.spm.restoreBy = none →
        ∃ t, exec (.sampleEvent .supply raw) s = .next t
          ∧ t.spm = { s.spm with restoreBy := some (s.elapsed + 1000000) }
          ∧ t = { s with usm := t.usm, spm := t.spm })
      ∧ (∀ e, s.spm.restoreBy = some e → e ≤ s.elapsed →
        exec .restoreExpiry s = .next { s with spm := { s.spm with
          supply := .run, restoreBy := none, lowRun := 0 } })

/-- The entry to BACKUP releases every output and line, ends a hold-back and records the elapsed count, and keeps the
backed-up records; a lost retention makes the next return of the supply a cold start, which with every contact open
and PFI released gives the state of reset, and otherwise rebuilds each input from the contact found, opens a case for
each closed one and enters HOLDUP exactly when PFI is asserted (R6, R52, R79, R112, R196, R198). The account values
that this state holds before the load delivers them, the counts handed on and the silent receiver are the model's
choices (notes/assumptions/2.md, 5.md and 6.md), the straps enter as operands (notes/assumptions/8.md), a local second
boundary that is due is dropped at the entry (notes/assumptions/31.md), and that the loss of the retention
changes the retention record alone until the cold start is the model's reading (notes/assumptions/22.md). R7 and
R196 put the settings and not the state of the sources in the backed-up domain: that the states, runs, last pulses,
last errors and extra counts of the sources and the selection stand over the entry and over that loss is the model's
reading too (notes/assumptions/23.md, DEDUCED). -/
def Obligations.BackupAndColdStart : Prop :=
  (∀ s : State, s.powered = true →
    ∃ t, exec .backupEntry s = .next t ∧ t.spm.supply = .backup
      ∧ t.lnu.attention = false ∧ t.lnu.caseLamp = false ∧ t.lnu.handoverLamp = .dark
      ∧ t.lnu.presenceLine = false ∧ t.lnu.driver = false ∧ t.lnu.masks = s.lnu.masks
      ∧ t.asc.busRequest = false ∧ t.asc.inFlight = none ∧ t.asc.queue = s.asc.queue
      ∧ t.tb = { s.tb with
          holdBack := none, boundaryDue := false, backupAcc := 0, backupEntry := s.tb.elapsed }
      ∧ t = { s with tb := t.tb, tiu := t.tiu, usm := t.usm, asc := t.asc, lnu := t.lnu, spm := t.spm })
    ∧ (∀ s : State, s.spm.supply = .backup →
      exec .backupRetentionLost s = .next { s with spm := { s.spm with retained := false } })
    ∧ (∀ (s : State) (a : BitVec 5) (f : Bool), s.spm.supply = .backup → s.spm.retained = false →
        s.spm.pfiLevel = false → (∀ u i, (s.input u i).closed = false) →
        (∀ u, (s.unit u).breaker.level = false ∧ (s.unit u).pumpMode.level = false) →
      exec (.mainSupplyReturn a f) s = .next { State.reset with
        lnu := { State.reset.lnu with address := a.toNat, fast := f }, pending := s.pending })
    ∧ ∀ (s : State) (a : BitVec 5) (f : Bool), s.spm.supply = .backup → s.spm.retained = false →
      ∃ t, exec (.mainSupplyReturn a f) s = .next t
        ∧ t.spm = { State.reset.spm with
            pfiLevel := s.spm.pfiLevel, pfiStable := s.spm.pfiLevel,
            supply := if s.spm.pfiLevel then .holdup else .run }
        ∧ t.lnu.flags.coldStart = true ∧ t.lnu.flags.holdup = s.spm.pfiLevel
        ∧ (∀ u i, t.input u i = { State.reset.input u i with
            closed := (s.input u i).closed
            filter := if (s.input u i).closed then .asserted else .idle })
        ∧ (∀ u i, (s.input u i).closed = true →
            ∃ j c, t.slot u j = some c ∧ c.unit = u ∧ c.input = i ∧ c.state = .active ∧ c.test = false
              ∧ c.assertStamp = State.reset.now)
        ∧ (∀ u j c, t.slot u j = some c → (s.input u c.input).closed = true)
        ∧ (t.lnu.caseLamp = true ↔ ∃ u i, (s.input u i).closed = true)
        ∧ (∀ u, (t.unit u).speed = .unknown ∧ (t.unit u).breaker.stable = (s.unit u).breaker.level
            ∧ (t.unit u).pumpMode.stable = (s.unit u).pumpMode.level
            ∧ ((t.unit u).tripped = true ↔ ∃ i, (s.input u i).closed = true)
            ∧ (t.unit u).mode = modeOf (t.unit u).tripped (s.unit u).breaker.level (s.unit u).pumpMode.level .unknown)
        ∧ (∀ u k, t.account u k = { State.reset.account u k with status := (t.account u k).status }
            ∧ (k = .trips → (∃ i, (s.input u i).closed = true) → (t.account u k).status = .loading 1)
            ∧ (k ≠ .trips ∨ (∀ i, (s.input u i).closed = false) → (t.account u k).status = .loading 0))
        ∧ t.tb = State.reset.tb ∧ t.riu = State.reset.riu ∧ t.pending = s.pending

/-- A warm start, after a blackout with the records held or by the RESET pin, keeps the counts, the frequency, every
setting, the roster, the duty and the offer, the account values and tallies but for restart trips, and every store
queue entry, and keeps the cases, groups and overflow records as they are where the contacts found agree with the cases
and no group is OPEN; it adds the backup drift, clears the selection and the link error count, sets every speed state
to UNKNOWN and the scan to channel 1, raises WARM_START, and ends in HOLDUP exactly when PFI is asserted (R17, R30,
R51, R92, R96, R111, R130, R147, R171, R173, R197). That the boundaries passed in BACKUP count as handed on is the
model's reading of R3 (notes/assumptions/5.md). -/
def Obligations.WarmStartKeepsTheRecords : Prop :=
  let warm (duration : Nat) (a : BitVec 5) (f : Bool) (s t : State) : Prop :=
    (t.tb.seconds = s.tb.seconds ∧ t.tb.frac = s.tb.frac ∧ t.tb.elapsed = s.tb.elapsed
      ∧ t.tb.timeSet = s.tb.timeSet ∧ t.tb.freq = s.tb.freq ∧ t.tb.trim = s.tb.freq
      ∧ t.tb.trimRem = s.tb.trimRem ∧ t.tb.lockHeld = s.tb.lockHeld
      ∧ t.tb.uncertainty = min (s.tb.uncertainty + 200 * duration) 4000000000
      ∧ t.tb.state = (if s.tb.state = .free then .free else .holdover)
      ∧ t.tb.outlierRun = 0 ∧ t.tb.firstOutlier = none ∧ t.tb.lockRun = 0 ∧ t.tb.growthRem = 0
      ∧ t.tb.loopExp = s.tb.loopExp ∧ t.tb.stepThreshold = s.tb.stepThreshold ∧ t.tb.holdRate = s.tb.holdRate)
    ∧ (t.riu.selection = none ∧ ∀ x, t.riu.source x = { s.riu.source x with
        state := .absent, run := 0, lastPulse := none, lastError := none, extra := 0 })
    ∧ (t.tiu.testMode = s.tiu.testMode
      ∧ (∀ u i, t.input u i = { s.input u i with
          inForce := (s.input u i).config, chatter := 0
          filter := if (s.input u i).config.enable && (s.input u i).closed then .asserted else .idle })
      ∧ (ContactsAgree s → t.ct = s.ct ∧ t.tgr = s.tgr) ∧ t.tgr.windowExp = s.tgr.windowExp
      ∧ ∀ u, t.tgr.groups.get u ≠ none → ∃ i, (s.input u i).closed = true)
    ∧ (∀ u, (t.unit u).speed = .unknown ∧ (t.unit u).armed = false ∧ (t.unit u).lost = false
        ∧ (t.unit u).bands = (s.unit u).bands ∧ (t.unit u).calMinus = (s.unit u).calMinus
        ∧ (t.unit u).calMagnitude = (s.unit u).calMagnitude
        ∧ (t.unit u).breaker = { (s.unit u).breaker with stable := (s.unit u).breaker.level, pending := none }
        ∧ (t.unit u).pumpMode = { (s.unit u).pumpMode with stable := (s.unit u).pumpMode.level, pending := none }
        ∧ (ContactsAgree s → (t.unit u).tripped = (s.unit u).tripped ∧ (t.unit u).caseHeld = (s.unit u).caseHeld))
    ∧ (t.usm.supplyReading = none ∧ t.usm.scan = .speed .u1)
    ∧ (∀ u k, k ≠ .trips ∨ ContactsAgree s →
        t.account u k = { s.account u k with status := (t.account u k).status } ∧ t.tally u k = s.tally u k)
    ∧ (∀ y ∈ s.asc.queue, y ∈ t.asc.queue ∨ ∃ x, t.asc.inFlight = some x ∧ x.item = .account y.1 y.2)
    ∧ (t.asc.periodExp = s.asc.periodExp ∧ t.asc.formatPending = s.asc.formatPending
      ∧ t.asc.frozen = (s.asc.frozen || s.asc.freezePending) ∧ t.asc.fault = false ∧ t.asc.lastFailure = none)
    ∧ (t.shc.number = s.shc.number ∧ t.shc.duty = s.shc.duty ∧ t.shc.team = s.shc.team
      ∧ t.shc.start = s.shc.start ∧ t.shc.offer = s.shc.offer ∧ t.shc.lapses = s.shc.lapses
      ∧ t.shc.previous = s.shc.previous ∧ t.shc.roster = s.shc.roster ∧ t.shc.lead = s.shc.lead
      ∧ t.shc.grace = s.shc.grace ∧ t.shc.presenceExp = s.shc.presenceExp ∧ t.shc.auto = s.shc.auto)
    ∧ (t.lnu.flags.warmStart = true ∧ t.lnu.errors = 0 ∧ t.lnu.masks = s.lnu.masks
      ∧ t.lnu.address = a.toNat ∧ t.lnu.fast = f ∧ t.lnu.answering = false)
    ∧ (t.spm.supply = (if s.spm.pfiLevel then .holdup else .run) ∧ t.spm.pfiStable = s.spm.pfiLevel
      ∧ t.pending = s.pending)
  (∀ (s : State) (a : BitVec 5) (f : Bool), s.powered = true →
    ∃ t, exec (.resetPin a f) s = .next t ∧ warm 0 a f s t)
    ∧ ∀ (s : State) (a : BitVec 5) (f : Bool), s.spm.supply = .backup → s.spm.retained = true →
      ∃ t, exec (.mainSupplyReturn a f) s = .next t
        ∧ warm ((s.tb.elapsed - s.tb.backupEntry) / 10000000) a f s t
        ∧ t.tb.dutyHanded = s.tb.elapsed / 10000000

/-- At a warm start, after a blackout with the records held or by the RESET pin, an OPEN group closes with its summary,
the reason WARM_START and FIRST_OUT_FINAL; an asserted case whose input is not found closed and enabled is released
unobserved, and any other asserted case stands; an input found closed and enabled without one re-trips its case, opens
one, or overflows, with the restart stamp, and a trip so made opens a group and counts once in TRIPS; and an account in
WRITING becomes DIRTY, which a commit may then write, or makes the queue request of a queue change, while every other
persistence state is kept until a commit or the queue takes the account
(R51, R63, R65, R71, R83, R92, R114, R121, R123, R130, R137, R147). -/
def Obligations.WarmStartRebuildsCasesAndAccounts : Prop :=
  let groups (s t : State) : Prop :=
    (∀ u g, s.tgr.groups.get u = some g →
      t.lnu.flags.firstOutFinal = true ∧ t.lnu.unitSets.firstOutFinal.get u = true
        ∧ (∃ x, t.tgr.closed.get u = some x ∧ x.id = g.id ∧ x.earliest = g.earliest ∧ x.firstOut = g.firstOut
            ∧ x.members = g.members ∧ x.reason = .warmStart ∧ x.closedAt = t.now)
        ∧ (t.tgr.groups.get u = none → ∀ j c, t.slot u j = some c → c.number = g.firstOut → c.provisional = false))
      ∧ (∀ u, s.tgr.groups.get u = none → t.tgr.closed.get u = s.tgr.closed.get u)
      ∧ (∀ u, (∀ i, ¬ FoundClosed s u i) → t.tgr.groups.get u = none)
  let cases (s t : State) : Prop :=
    (∀ u i j c, s.inputCase u i = some (j, c) → IsAsserted c →
      ∃ d, t.slot u j = some d
        ∧ (FoundClosed s u i → d = { c with
            groupId := d.groupId, firstOut := d.firstOut, provisional := d.provisional })
        ∧ (¬ FoundClosed s u i → d = { c with
            state := if c.state = .active then .latched else .acknowledged, releaseUnobserved := true
            groupId := d.groupId, firstOut := d.firstOut, provisional := d.provisional }))
      ∧ (∀ u i j c, s.inputCase u i = some (j, c) → ¬ IsAsserted c → FoundClosed s u i →
        (c.test = s.tiu.testMode.get u →
          ∃ d, t.slot u j = some d ∧ t.lnu.flags.newCase = true ∧ t.lnu.unitSets.newCase.get u = true
            ∧ d = { c with
                state := .active, repeats := (if c.repeats < 255 then c.repeats + 1 else c.repeats),
                lastRetrip := some t.now, ackBadge := none, releaseStamp := none, releaseUnobserved := false,
                snapMode := d.snapMode, snapGen := (s.account u .gen).lifetime,
                groupId := d.groupId, firstOut := d.firstOut, provisional := d.provisional }
            ∧ (c.test = false →
                Counted u .trips s t ∨ isOutstanding (s.account u .trips).status = true
                  ∨ (s.account u .trips).retired = true)
            ∧ (c.test = false → ∃ g, t.tgr.groups.get u = some g ∧ g.earliest = t.now ∧ d.groupId = g.id))
          ∧ (c.test ≠ s.tiu.testMode.get u →
            (t.ct.overflow.get u).seen.get i = true ∧ (t.ct.overflow.get u).last = some t.now
              ∧ t.lnu.flags.overflow = true ∧ t.lnu.unitSets.overflow.get u = true))
      ∧ (∀ u i j, s.inputCase u i = none → FoundClosed s u i → (s.caseSet u).allocate = some j →
          (∀ k, k ≠ i → FoundClosed s u k → ∃ m d, s.inputCase u k = some (m, d) ∧ IsAsserted d) →
        let test := s.tiu.testMode.get u
        ∃ c, t.slot u j = some c ∧ c.unit = u ∧ c.input = i ∧ c.state = .active ∧ c.test = test
          ∧ c.cls = (s.input u i).config.cls ∧ c.assertStamp = t.now ∧ c.releaseStamp = none
          ∧ c.releaseUnobserved = false ∧ c.repeats = 0 ∧ c.lastRetrip = none ∧ c.ackBadge = none
          ∧ c.openedIn = s.shc.number ∧ c.handovers = 0 ∧ c.snapGen = (s.account u .gen).lifetime
          ∧ (∀ v m d, t.slot v m = some d → (v, m) ≠ (u, j) → d.number ≠ c.number)
          ∧ t.lnu.flags.newCase = true ∧ t.lnu.unitSets.newCase.get u = true
          ∧ (test = false →
              Counted u .trips s t ∨ isOutstanding (s.account u .trips).status = true
                ∨ (s.account u .trips).retired = true)
          ∧ (test = false →
              ∃ g, t.tgr.groups.get u = some g ∧ g.earliest = t.now ∧ g.firstOut = c.number ∧ c.groupId = g.id
                ∧ c.firstOut = true ∧ c.provisional = true))
      ∧ ∀ u i, FoundClosed s u i →
        (∃ j c, t.slot u j = some c ∧ c.input = i ∧ IsAsserted c) ∨ (t.ct.overflow.get u).seen.get i = true
  let persistence (s t : State) : Prop :=
    ∀ u k, k ≠ .trips ∨ ContactsAgree s →
      let p := (s.account u k).status
      let q := (t.account u k).status
      let kept : Persistence := match p with | .writing _ => .dirty | p => p
      let begun := q = .writing .none ∧ ∃ x, t.asc.inFlight = some x ∧ x.item = .account u k
      let noWrite := (s.asc.frozen || s.asc.freezePending) = true ∧ s.spm.pfiLevel = false
      (p ≠ .writing .queue → (q = kept ∨ begun) ∧ (noWrite → q = kept))
        ∧ (p = .writing .queue → (u, k) ∉ s.asc.queue →
          (q = .queued ∧ (u, k) ∈ t.asc.queue ∨ begun ∨ q = .dirty ∧ t.lnu.flags.queueFull = true)
            ∧ ((∀ v m, (v, m) ≠ (u, k) → (s.account v m).status ≠ .writing .queue) → noWrite → ContactsAgree s →
              (s.asc.queue.length < 16 → q = .queued ∧ t.asc.queue = s.asc.queue ++ [(u, k)])
                ∧ (16 ≤ s.asc.queue.length →
                  q = .dirty ∧ t.asc.queue = s.asc.queue ∧ t.lnu.flags.queueFull = true)))
  (∀ (s : State) (a : BitVec 5) (f : Bool), s.powered = true →
    ∃ t, exec (.resetPin a f) s = .next t ∧ groups s t ∧ cases s t ∧ persistence s t)
    ∧ ∀ (s : State) (a : BitVec 5) (f : Bool), s.spm.supply = .backup → s.spm.retained = true →
      ∃ t, exec (.mainSupplyReturn a f) s = .next t ∧ groups s t ∧ cases s t ∧ persistence s t
end

