-- ==== Sys2Proof/Laws/Bytes.lean ====
section
/-! SUPPORT. Lengths of the byte forms of a reply, reading a number back from its bytes, and the parts of a
request frame. -/

namespace Sys2Proof.Machine

/-! ### Numbers in bytes (R185) -/

@[simp] theorem toBytes_length (w n : Nat) : (toBytes w n).length = w := by
  induction w generalizing n with
  | zero => rfl
  | succ w ih => simp [toBytes, ih]

@[simp] theorem signedBytes_length (w : Nat) (x : Int) : (signedBytes w x).length = w := by simp [signedBytes]

/-- A number reads back from its bytes, cut to their width. -/
theorem fromBytes_toBytes (w n : Nat) : fromBytes (toBytes w n) = n % 256 ^ w := by
  have key : ∀ w n acc, (toBytes w n).foldl (fun n b => n * 256 + b.toNat) acc
      = acc * 256 ^ w + n % 256 ^ w := by
    intro w
    induction w with
    | zero => intro n acc; simp [toBytes, Nat.mod_one]
    | succ w ih =>
      intro n acc
      simp only [toBytes, List.foldl_cons, ih, BitVec.toNat_ofNat]
      have : n % 256 ^ (w + 1) = 256 ^ w * (n / 256 ^ w % 256) + n % 256 ^ w := by
        rw [Nat.pow_succ, Nat.mod_mul, Nat.add_comm]
      rw [this]
      show (acc * 256 + n / 256 ^ w % 256) * 256 ^ w + n % 256 ^ w
        = acc * (256 ^ w * 256) + (256 ^ w * (n / 256 ^ w % 256) + n % 256 ^ w)
      rw [Nat.add_mul, Nat.mul_assoc, Nat.mul_comm 256 (256 ^ w), Nat.mul_comm (n / 256 ^ w % 256),
        Nat.add_assoc]
  simpa [fromBytes] using key w n 0

/-- A field at the front of a list of bytes. -/
theorem field_toBytes (w n : Nat) (l : List Byte) : field (toBytes w n ++ l) 0 w = n % 256 ^ w := by
  simp [field, fromBytes_toBytes]

/-- A field behind another. -/
theorem field_skip (w n : Nat) (l : List Byte) (p v : Nat) :
    field (toBytes w n ++ l) (w + p) v = field l p v := by
  simp only [field, List.drop_append, toBytes_length]
  rw [List.drop_of_length_le (by simp), List.nil_append]; simp

/-! ### Lengths of the forms of a reply (R185 to R187, R191) -/

@[simp] theorem zeros_length (w : Nat) : (zeros w).length = w := by simp [zeros]

@[simp] theorem fullStamp_length (t : Stamp) : (fullStamp t).length = 17 := by simp [fullStamp]

@[simp] theorem date_length (t : Stamp) : (date t).length = 9 := by simp [date]

@[simp] theorem optStamp_length (t : Option Stamp) : (optStamp t).length = 17 := by
  cases t <;> simp [optStamp]

@[simp] theorem optDate_length (t : Option Stamp) : (optDate t).length = 9 := by
  cases t <;> simp [optDate]

@[simp] theorem optNum_length (w : Nat) (n : Option Nat) : (optNum w n).length = w := by simp [optNum]

@[simp] theorem caseRecord_length (c : Case) : (caseRecord c).length = 50 := by simp [caseRecord]

@[simp] theorem sourceBytes_length (x : Source) : (sourceBytes x).length = 12 := by simp [sourceBytes]

@[simp] theorem tallyBytes_length (p : PerKind Nat) : (tallyBytes p).length = 20 := by
  simp [tallyBytes, PerKind.toList]

/-- Entries of one width make a list of bytes of the width times their number. -/
theorem flatMap_length {α : Type} (f : α → List Byte) (n : Nat) (h : ∀ x, (f x).length = n) (l : List α) :
    (l.flatMap f).length = n * l.length := by
  induction l with
  | nil => simp
  | cons a l ih => rw [List.flatMap_cons, List.length_append, h, ih, List.length_cons, Nat.mul_succ, Nat.add_comm]

/-! ### The request frame (R174, R185) -/

/-- A request frame of at most 255 bytes passes tests 1 and 2 and gives back its address, code and body. -/
theorem requestFrame_parts (a code : Nat) (body : List Byte) (hb : body.length ≤ 250) (ha : a < 256)
    (hc : code < 256) :
    let f := Safety.requestFrame a code body
    frameGood f false false = true ∧ field f 0 1 = a ∧ field f 2 1 = code
      ∧ (f.drop 3).take (f.length - 5) = body := by
  have e1 : ∀ n, toBytes 1 n = [BitVec.ofNat 8 n] := by intro n; simp [toBytes]
  have hl : (Safety.requestFrame a code body).length = body.length + 5 := by
    simp [Safety.requestFrame]; omega
  refine ⟨?_, ?_, ?_, ?_⟩
  · simp only [frameGood, hl]
    have h1 : field (Safety.requestFrame a code body) 1 1 = 1 + body.length := by
      simp [Safety.requestFrame, e1, field, fromBytes]; omega
    have h2 : (Safety.requestFrame a code body).take (body.length + 5 - 2)
        = toBytes 1 a ++ toBytes 1 (1 + body.length) ++ toBytes 1 code ++ body := by
      simp only [Safety.requestFrame]
      rw [List.take_append_of_le_length (by simp; omega), List.take_of_length_le (by simp; omega)]
    have h3 : (Safety.requestFrame a code body).drop (body.length + 5 - 2)
        = toBytes 2 (crc16 (toBytes 1 a ++ toBytes 1 (1 + body.length) ++ toBytes 1 code ++ body)).toNat := by
      simp only [Safety.requestFrame]
      rw [List.drop_append_of_le_length (by simp; omega), List.drop_of_length_le (by simp; omega)]; simp
    rw [h1, h2, h3]; simp; omega
  · simp [Safety.requestFrame, e1, field, fromBytes]; omega
  · simp [Safety.requestFrame, e1, field, fromBytes]; omega
  · rw [hl]; simp [Safety.requestFrame, e1]

end Sys2Proof.Machine
end

