-- ==== Sys2Proof/Laws/Frames.lean ====
section
/-! SUPPORT. What each shared operation leaves unchanged: one lemma for each operation, tagged for simp, so
that no proof about a block unfolds an operation that does not touch it. -/

namespace Sys2Proof.Machine

/-- What `raise` leaves unchanged. -/
@[simp] theorem raise_frame (n : Notice) (s : State) :
    (raise n s).tb = s.tb
    ∧ (raise n s).riu = s.riu
    ∧ (raise n s).tiu = s.tiu
    ∧ (raise n s).ct = s.ct
    ∧ (raise n s).tgr = s.tgr
    ∧ (raise n s).usm = s.usm
    ∧ (raise n s).rha = s.rha
    ∧ (raise n s).asc = s.asc
    ∧ (raise n s).shc = s.shc
    ∧ (raise n s).spm = s.spm
    ∧ (raise n s).pending = s.pending
    ∧ (raise n s).lnu.address = s.lnu.address
    ∧ (raise n s).lnu.fast = s.lnu.fast
    ∧ (raise n s).lnu.answering = s.lnu.answering
    ∧ (raise n s).lnu.rx = s.lnu.rx
    ∧ (raise n s).lnu.tx = s.lnu.tx
    ∧ (raise n s).lnu.driver = s.lnu.driver
    ∧ (raise n s).lnu.errors = s.lnu.errors
    ∧ (raise n s).lnu.masks = s.lnu.masks
    ∧ (raise n s).lnu.caseLamp = s.lnu.caseLamp
    ∧ (raise n s).lnu.handoverLamp = s.lnu.handoverLamp
    ∧ (raise n s).lnu.presenceLine = s.lnu.presenceLine
    ∧ (raise n s).lnu.unitSets = s.lnu.unitSets := by
  simp [raise, Lnu.evalAttention]

/-- What `raiseFor` leaves unchanged. -/
@[simp] theorem raiseFor_frame (n : Notice) (u : UnitId) (s : State) :
    (raiseFor n u s).tb = s.tb
    ∧ (raiseFor n u s).riu = s.riu
    ∧ (raiseFor n u s).tiu = s.tiu
    ∧ (raiseFor n u s).ct = s.ct
    ∧ (raiseFor n u s).tgr = s.tgr
    ∧ (raiseFor n u s).usm = s.usm
    ∧ (raiseFor n u s).rha = s.rha
    ∧ (raiseFor n u s).asc = s.asc
    ∧ (raiseFor n u s).shc = s.shc
    ∧ (raiseFor n u s).spm = s.spm
    ∧ (raiseFor n u s).pending = s.pending
    ∧ (raiseFor n u s).lnu.address = s.lnu.address
    ∧ (raiseFor n u s).lnu.fast = s.lnu.fast
    ∧ (raiseFor n u s).lnu.answering = s.lnu.answering
    ∧ (raiseFor n u s).lnu.rx = s.lnu.rx
    ∧ (raiseFor n u s).lnu.tx = s.lnu.tx
    ∧ (raiseFor n u s).lnu.driver = s.lnu.driver
    ∧ (raiseFor n u s).lnu.errors = s.lnu.errors
    ∧ (raiseFor n u s).lnu.masks = s.lnu.masks
    ∧ (raiseFor n u s).lnu.caseLamp = s.lnu.caseLamp
    ∧ (raiseFor n u s).lnu.handoverLamp = s.lnu.handoverLamp
    ∧ (raiseFor n u s).lnu.presenceLine = s.lnu.presenceLine := by
  simp [raiseFor, Lnu.evalAttention]

/-- What `evalCaseLamp` leaves unchanged. -/
@[simp] theorem evalCaseLamp_frame (s : State) :
    (evalCaseLamp s).tb = s.tb
    ∧ (evalCaseLamp s).riu = s.riu
    ∧ (evalCaseLamp s).tiu = s.tiu
    ∧ (evalCaseLamp s).ct = s.ct
    ∧ (evalCaseLamp s).tgr = s.tgr
    ∧ (evalCaseLamp s).usm = s.usm
    ∧ (evalCaseLamp s).rha = s.rha
    ∧ (evalCaseLamp s).asc = s.asc
    ∧ (evalCaseLamp s).shc = s.shc
    ∧ (evalCaseLamp s).spm = s.spm
    ∧ (evalCaseLamp s).pending = s.pending
    ∧ (evalCaseLamp s).lnu.address = s.lnu.address
    ∧ (evalCaseLamp s).lnu.fast = s.lnu.fast
    ∧ (evalCaseLamp s).lnu.answering = s.lnu.answering
    ∧ (evalCaseLamp s).lnu.rx = s.lnu.rx
    ∧ (evalCaseLamp s).lnu.tx = s.lnu.tx
    ∧ (evalCaseLamp s).lnu.driver = s.lnu.driver
    ∧ (evalCaseLamp s).lnu.errors = s.lnu.errors
    ∧ (evalCaseLamp s).lnu.masks = s.lnu.masks
    ∧ (evalCaseLamp s).lnu.flags = s.lnu.flags
    ∧ (evalCaseLamp s).lnu.unitSets = s.lnu.unitSets
    ∧ (evalCaseLamp s).lnu.attention = s.lnu.attention
    ∧ (evalCaseLamp s).lnu.handoverLamp = s.lnu.handoverLamp
    ∧ (evalCaseLamp s).lnu.presenceLine = s.lnu.presenceLine := by
  simp [evalCaseLamp]

/-- What `evalHandoverLamp` leaves unchanged. -/
@[simp] theorem evalHandoverLamp_frame (s : State) :
    (evalHandoverLamp s).tb = s.tb
    ∧ (evalHandoverLamp s).riu = s.riu
    ∧ (evalHandoverLamp s).tiu = s.tiu
    ∧ (evalHandoverLamp s).ct = s.ct
    ∧ (evalHandoverLamp s).tgr = s.tgr
    ∧ (evalHandoverLamp s).usm = s.usm
    ∧ (evalHandoverLamp s).rha = s.rha
    ∧ (evalHandoverLamp s).asc = s.asc
    ∧ (evalHandoverLamp s).shc = s.shc
    ∧ (evalHandoverLamp s).spm = s.spm
    ∧ (evalHandoverLamp s).pending = s.pending
    ∧ (evalHandoverLamp s).lnu.address = s.lnu.address
    ∧ (evalHandoverLamp s).lnu.fast = s.lnu.fast
    ∧ (evalHandoverLamp s).lnu.answering = s.lnu.answering
    ∧ (evalHandoverLamp s).lnu.rx = s.lnu.rx
    ∧ (evalHandoverLamp s).lnu.tx = s.lnu.tx
    ∧ (evalHandoverLamp s).lnu.driver = s.lnu.driver
    ∧ (evalHandoverLamp s).lnu.errors = s.lnu.errors
    ∧ (evalHandoverLamp s).lnu.masks = s.lnu.masks
    ∧ (evalHandoverLamp s).lnu.flags = s.lnu.flags
    ∧ (evalHandoverLamp s).lnu.unitSets = s.lnu.unitSets
    ∧ (evalHandoverLamp s).lnu.attention = s.lnu.attention
    ∧ (evalHandoverLamp s).lnu.caseLamp = s.lnu.caseLamp
    ∧ (evalHandoverLamp s).lnu.presenceLine = s.lnu.presenceLine := by
  simp [evalHandoverLamp]

/-- What `setAlarm` leaves unchanged. -/
@[simp] theorem setAlarm_frame (on : Bool) (s : State) :
    (setAlarm on s).tb = s.tb
    ∧ (setAlarm on s).riu = s.riu
    ∧ (setAlarm on s).tiu = s.tiu
    ∧ (setAlarm on s).ct = s.ct
    ∧ (setAlarm on s).tgr = s.tgr
    ∧ (setAlarm on s).usm = s.usm
    ∧ (setAlarm on s).rha = s.rha
    ∧ (setAlarm on s).asc = s.asc
    ∧ (setAlarm on s).spm = s.spm
    ∧ (setAlarm on s).pending = s.pending
    ∧ (setAlarm on s).lnu.address = s.lnu.address
    ∧ (setAlarm on s).lnu.fast = s.lnu.fast
    ∧ (setAlarm on s).lnu.answering = s.lnu.answering
    ∧ (setAlarm on s).lnu.rx = s.lnu.rx
    ∧ (setAlarm on s).lnu.tx = s.lnu.tx
    ∧ (setAlarm on s).lnu.driver = s.lnu.driver
    ∧ (setAlarm on s).lnu.errors = s.lnu.errors
    ∧ (setAlarm on s).lnu.masks = s.lnu.masks
    ∧ (setAlarm on s).lnu.flags = s.lnu.flags
    ∧ (setAlarm on s).lnu.unitSets = s.lnu.unitSets
    ∧ (setAlarm on s).lnu.attention = s.lnu.attention
    ∧ (setAlarm on s).lnu.caseLamp = s.lnu.caseLamp
    ∧ (setAlarm on s).lnu.handoverLamp = s.lnu.handoverLamp := by
  simp [setAlarm]

/-- What `evalQuality` leaves unchanged. -/
@[simp] theorem evalQuality_frame (s : State) :
    (evalQuality s).riu = s.riu
    ∧ (evalQuality s).tiu = s.tiu
    ∧ (evalQuality s).ct = s.ct
    ∧ (evalQuality s).tgr = s.tgr
    ∧ (evalQuality s).usm = s.usm
    ∧ (evalQuality s).rha = s.rha
    ∧ (evalQuality s).asc = s.asc
    ∧ (evalQuality s).shc = s.shc
    ∧ (evalQuality s).spm = s.spm
    ∧ (evalQuality s).pending = s.pending
    ∧ (evalQuality s).lnu.address = s.lnu.address
    ∧ (evalQuality s).lnu.fast = s.lnu.fast
    ∧ (evalQuality s).lnu.answering = s.lnu.answering
    ∧ (evalQuality s).lnu.rx = s.lnu.rx
    ∧ (evalQuality s).lnu.tx = s.lnu.tx
    ∧ (evalQuality s).lnu.driver = s.lnu.driver
    ∧ (evalQuality s).lnu.errors = s.lnu.errors
    ∧ (evalQuality s).lnu.masks = s.lnu.masks
    ∧ (evalQuality s).tb.seconds = s.tb.seconds
    ∧ (evalQuality s).tb.frac = s.tb.frac
    ∧ (evalQuality s).tb.elapsed = s.tb.elapsed
    ∧ (evalQuality s).tb.timeSet = s.tb.timeSet
    ∧ (evalQuality s).tb.holdBack = s.tb.holdBack
    ∧ (evalQuality s).tb.boundaryDue = s.tb.boundaryDue
    ∧ (evalQuality s).tb.dutyHanded = s.tb.dutyHanded
    ∧ (evalQuality s).tb.backupAcc = s.tb.backupAcc
    ∧ (evalQuality s).tb.backupEntry = s.tb.backupEntry
    ∧ (evalQuality s).tb.state = s.tb.state
    ∧ (evalQuality s).tb.freq = s.tb.freq
    ∧ (evalQuality s).tb.trim = s.tb.trim
    ∧ (evalQuality s).tb.trimRem = s.tb.trimRem
    ∧ (evalQuality s).tb.outlierRun = s.tb.outlierRun
    ∧ (evalQuality s).tb.firstOutlier = s.tb.firstOutlier
    ∧ (evalQuality s).tb.lockRun = s.tb.lockRun
    ∧ (evalQuality s).tb.lockHeld = s.tb.lockHeld
    ∧ (evalQuality s).tb.uncertainty = s.tb.uncertainty
    ∧ (evalQuality s).tb.growthRem = s.tb.growthRem
    ∧ (evalQuality s).tb.loopExp = s.tb.loopExp
    ∧ (evalQuality s).tb.stepThreshold = s.tb.stepThreshold
    ∧ (evalQuality s).tb.holdRate = s.tb.holdRate
    ∧ (evalQuality s).lnu.caseLamp = s.lnu.caseLamp
    ∧ (evalQuality s).lnu.handoverLamp = s.lnu.handoverLamp
    ∧ (evalQuality s).lnu.presenceLine = s.lnu.presenceLine := by
  simp only [evalQuality]; split <;> simp

/-- What `State.setAccount` leaves unchanged. -/
@[simp] theorem State.setAccount_frame (u : UnitId) (k : Kind) (a : Account) (s : State) :
    (s.setAccount u k a).tb = s.tb
    ∧ (s.setAccount u k a).riu = s.riu
    ∧ (s.setAccount u k a).tiu = s.tiu
    ∧ (s.setAccount u k a).ct = s.ct
    ∧ (s.setAccount u k a).tgr = s.tgr
    ∧ (s.setAccount u k a).usm = s.usm
    ∧ (s.setAccount u k a).asc = s.asc
    ∧ (s.setAccount u k a).shc = s.shc
    ∧ (s.setAccount u k a).lnu = s.lnu
    ∧ (s.setAccount u k a).spm = s.spm
    ∧ (s.setAccount u k a).pending = s.pending
    ∧ (s.setAccount u k a).rha.tallies = s.rha.tallies := by
  simp [State.setAccount]

/-- What `State.setTally` leaves unchanged. -/
@[simp] theorem State.setTally_frame (u : UnitId) (k : Kind) (n : Nat) (s : State) :
    (s.setTally u k n).tb = s.tb
    ∧ (s.setTally u k n).riu = s.riu
    ∧ (s.setTally u k n).tiu = s.tiu
    ∧ (s.setTally u k n).ct = s.ct
    ∧ (s.setTally u k n).tgr = s.tgr
    ∧ (s.setTally u k n).usm = s.usm
    ∧ (s.setTally u k n).asc = s.asc
    ∧ (s.setTally u k n).shc = s.shc
    ∧ (s.setTally u k n).lnu = s.lnu
    ∧ (s.setTally u k n).spm = s.spm
    ∧ (s.setTally u k n).pending = s.pending
    ∧ (s.setTally u k n).rha.accounts = s.rha.accounts := by
  simp [State.setTally]

/-- What `State.setStatus` leaves unchanged. -/
@[simp] theorem State.setStatus_frame (u : UnitId) (k : Kind) (p : Persistence) (s : State) :
    (s.setStatus u k p).tb = s.tb
    ∧ (s.setStatus u k p).riu = s.riu
    ∧ (s.setStatus u k p).tiu = s.tiu
    ∧ (s.setStatus u k p).ct = s.ct
    ∧ (s.setStatus u k p).tgr = s.tgr
    ∧ (s.setStatus u k p).usm = s.usm
    ∧ (s.setStatus u k p).asc = s.asc
    ∧ (s.setStatus u k p).shc = s.shc
    ∧ (s.setStatus u k p).lnu = s.lnu
    ∧ (s.setStatus u k p).spm = s.spm
    ∧ (s.setStatus u k p).pending = s.pending
    ∧ (s.setStatus u k p).rha.tallies = s.rha.tallies := by
  simp [State.setStatus]

/-- What `State.setUnit` leaves unchanged. -/
@[simp] theorem State.setUnit_frame (u : UnitId) (r : UnitRecord) (s : State) :
    (s.setUnit u r).tb = s.tb
    ∧ (s.setUnit u r).riu = s.riu
    ∧ (s.setUnit u r).tiu = s.tiu
    ∧ (s.setUnit u r).ct = s.ct
    ∧ (s.setUnit u r).tgr = s.tgr
    ∧ (s.setUnit u r).rha = s.rha
    ∧ (s.setUnit u r).asc = s.asc
    ∧ (s.setUnit u r).shc = s.shc
    ∧ (s.setUnit u r).lnu = s.lnu
    ∧ (s.setUnit u r).spm = s.spm
    ∧ (s.setUnit u r).pending = s.pending
    ∧ (s.setUnit u r).usm.scan = s.usm.scan
    ∧ (s.setUnit u r).usm.supplyReading = s.usm.supplyReading := by
  simp [State.setUnit]

/-- What `State.setInput` leaves unchanged. -/
@[simp] theorem State.setInput_frame (u : UnitId) (i : InputId) (t : TripInput) (s : State) :
    (s.setInput u i t).tb = s.tb
    ∧ (s.setInput u i t).riu = s.riu
    ∧ (s.setInput u i t).ct = s.ct
    ∧ (s.setInput u i t).tgr = s.tgr
    ∧ (s.setInput u i t).usm = s.usm
    ∧ (s.setInput u i t).rha = s.rha
    ∧ (s.setInput u i t).asc = s.asc
    ∧ (s.setInput u i t).shc = s.shc
    ∧ (s.setInput u i t).lnu = s.lnu
    ∧ (s.setInput u i t).spm = s.spm
    ∧ (s.setInput u i t).pending = s.pending
    ∧ (s.setInput u i t).tiu.testMode = s.tiu.testMode := by
  simp [State.setInput]

/-- What `requestQueue` leaves unchanged. -/
@[simp] theorem requestQueue_frame (u : UnitId) (k : Kind) (s : State) :
    (requestQueue u k s).tb = s.tb
    ∧ (requestQueue u k s).riu = s.riu
    ∧ (requestQueue u k s).tiu = s.tiu
    ∧ (requestQueue u k s).ct = s.ct
    ∧ (requestQueue u k s).tgr = s.tgr
    ∧ (requestQueue u k s).usm = s.usm
    ∧ (requestQueue u k s).shc = s.shc
    ∧ (requestQueue u k s).spm = s.spm
    ∧ (requestQueue u k s).pending = s.pending
    ∧ (requestQueue u k s).lnu.address = s.lnu.address
    ∧ (requestQueue u k s).lnu.fast = s.lnu.fast
    ∧ (requestQueue u k s).lnu.answering = s.lnu.answering
    ∧ (requestQueue u k s).lnu.rx = s.lnu.rx
    ∧ (requestQueue u k s).lnu.tx = s.lnu.tx
    ∧ (requestQueue u k s).lnu.driver = s.lnu.driver
    ∧ (requestQueue u k s).lnu.errors = s.lnu.errors
    ∧ (requestQueue u k s).lnu.masks = s.lnu.masks
    ∧ (requestQueue u k s).lnu.caseLamp = s.lnu.caseLamp
    ∧ (requestQueue u k s).lnu.handoverLamp = s.lnu.handoverLamp
    ∧ (requestQueue u k s).lnu.presenceLine = s.lnu.presenceLine := by
  unfold requestQueue; (repeat' split) <;> simp

/-- What `secondsChange` leaves unchanged. -/
@[simp] theorem secondsChange_frame (u : UnitId) (k : Kind) (s : State) :
    (secondsChange u k s).tb = s.tb
    ∧ (secondsChange u k s).riu = s.riu
    ∧ (secondsChange u k s).tiu = s.tiu
    ∧ (secondsChange u k s).ct = s.ct
    ∧ (secondsChange u k s).tgr = s.tgr
    ∧ (secondsChange u k s).usm = s.usm
    ∧ (secondsChange u k s).asc = s.asc
    ∧ (secondsChange u k s).shc = s.shc
    ∧ (secondsChange u k s).lnu = s.lnu
    ∧ (secondsChange u k s).spm = s.spm
    ∧ (secondsChange u k s).pending = s.pending := by
  simp [secondsChange]

/-- What `queueChange` leaves unchanged. -/
@[simp] theorem queueChange_frame (u : UnitId) (k : Kind) (s : State) :
    (queueChange u k s).tb = s.tb
    ∧ (queueChange u k s).riu = s.riu
    ∧ (queueChange u k s).tiu = s.tiu
    ∧ (queueChange u k s).ct = s.ct
    ∧ (queueChange u k s).tgr = s.tgr
    ∧ (queueChange u k s).usm = s.usm
    ∧ (queueChange u k s).shc = s.shc
    ∧ (queueChange u k s).spm = s.spm
    ∧ (queueChange u k s).pending = s.pending
    ∧ (queueChange u k s).lnu.address = s.lnu.address
    ∧ (queueChange u k s).lnu.fast = s.lnu.fast
    ∧ (queueChange u k s).lnu.answering = s.lnu.answering
    ∧ (queueChange u k s).lnu.rx = s.lnu.rx
    ∧ (queueChange u k s).lnu.tx = s.lnu.tx
    ∧ (queueChange u k s).lnu.driver = s.lnu.driver
    ∧ (queueChange u k s).lnu.errors = s.lnu.errors
    ∧ (queueChange u k s).lnu.masks = s.lnu.masks
    ∧ (queueChange u k s).lnu.caseLamp = s.lnu.caseLamp
    ∧ (queueChange u k s).lnu.handoverLamp = s.lnu.handoverLamp
    ∧ (queueChange u k s).lnu.presenceLine = s.lnu.presenceLine := by
  unfold queueChange; (repeat' split) <;> simp

/-- What `countChange` leaves unchanged. -/
@[simp] theorem countChange_frame (u : UnitId) (k : Kind) (s : State) :
    (countChange u k s).tb = s.tb
    ∧ (countChange u k s).riu = s.riu
    ∧ (countChange u k s).tiu = s.tiu
    ∧ (countChange u k s).ct = s.ct
    ∧ (countChange u k s).tgr = s.tgr
    ∧ (countChange u k s).usm = s.usm
    ∧ (countChange u k s).shc = s.shc
    ∧ (countChange u k s).spm = s.spm
    ∧ (countChange u k s).pending = s.pending
    ∧ (countChange u k s).lnu.address = s.lnu.address
    ∧ (countChange u k s).lnu.fast = s.lnu.fast
    ∧ (countChange u k s).lnu.answering = s.lnu.answering
    ∧ (countChange u k s).lnu.rx = s.lnu.rx
    ∧ (countChange u k s).lnu.tx = s.lnu.tx
    ∧ (countChange u k s).lnu.driver = s.lnu.driver
    ∧ (countChange u k s).lnu.errors = s.lnu.errors
    ∧ (countChange u k s).lnu.masks = s.lnu.masks
    ∧ (countChange u k s).lnu.caseLamp = s.lnu.caseLamp
    ∧ (countChange u k s).lnu.handoverLamp = s.lnu.handoverLamp
    ∧ (countChange u k s).lnu.presenceLine = s.lnu.presenceLine := by
  unfold countChange; (repeat' split) <;> simp

/-- What `increment` leaves unchanged. -/
@[simp] theorem increment_frame (u : UnitId) (k : Kind) (s : State) :
    (increment u k s).tb = s.tb
    ∧ (increment u k s).riu = s.riu
    ∧ (increment u k s).tiu = s.tiu
    ∧ (increment u k s).ct = s.ct
    ∧ (increment u k s).tgr = s.tgr
    ∧ (increment u k s).usm = s.usm
    ∧ (increment u k s).shc = s.shc
    ∧ (increment u k s).spm = s.spm
    ∧ (increment u k s).pending = s.pending
    ∧ (increment u k s).lnu.address = s.lnu.address
    ∧ (increment u k s).lnu.fast = s.lnu.fast
    ∧ (increment u k s).lnu.answering = s.lnu.answering
    ∧ (increment u k s).lnu.rx = s.lnu.rx
    ∧ (increment u k s).lnu.tx = s.lnu.tx
    ∧ (increment u k s).lnu.driver = s.lnu.driver
    ∧ (increment u k s).lnu.errors = s.lnu.errors
    ∧ (increment u k s).lnu.masks = s.lnu.masks
    ∧ (increment u k s).lnu.caseLamp = s.lnu.caseLamp
    ∧ (increment u k s).lnu.handoverLamp = s.lnu.handoverLamp
    ∧ (increment u k s).lnu.presenceLine = s.lnu.presenceLine := by
  simp only [increment]; (repeat' split) <;> simp

/-- What `applyPending` leaves unchanged. -/
@[simp] theorem applyPending_frame (u : UnitId) (k : Kind) (p : Nat) (s : State) :
    (applyPending u k p s).tb = s.tb
    ∧ (applyPending u k p s).riu = s.riu
    ∧ (applyPending u k p s).tiu = s.tiu
    ∧ (applyPending u k p s).ct = s.ct
    ∧ (applyPending u k p s).tgr = s.tgr
    ∧ (applyPending u k p s).usm = s.usm
    ∧ (applyPending u k p s).shc = s.shc
    ∧ (applyPending u k p s).spm = s.spm
    ∧ (applyPending u k p s).pending = s.pending
    ∧ (applyPending u k p s).lnu.address = s.lnu.address
    ∧ (applyPending u k p s).lnu.fast = s.lnu.fast
    ∧ (applyPending u k p s).lnu.answering = s.lnu.answering
    ∧ (applyPending u k p s).lnu.rx = s.lnu.rx
    ∧ (applyPending u k p s).lnu.tx = s.lnu.tx
    ∧ (applyPending u k p s).lnu.driver = s.lnu.driver
    ∧ (applyPending u k p s).lnu.errors = s.lnu.errors
    ∧ (applyPending u k p s).lnu.masks = s.lnu.masks
    ∧ (applyPending u k p s).lnu.caseLamp = s.lnu.caseLamp
    ∧ (applyPending u k p s).lnu.handoverLamp = s.lnu.handoverLamp
    ∧ (applyPending u k p s).lnu.presenceLine = s.lnu.presenceLine := by
  simp only [applyPending]; (repeat' split) <;> simp

/-- What `deliver` leaves unchanged. -/
@[simp] theorem deliver_frame (u : UnitId) (k : Kind) (a : Account) (s : State) :
    (deliver u k a s).tb = s.tb
    ∧ (deliver u k a s).riu = s.riu
    ∧ (deliver u k a s).tiu = s.tiu
    ∧ (deliver u k a s).ct = s.ct
    ∧ (deliver u k a s).tgr = s.tgr
    ∧ (deliver u k a s).usm = s.usm
    ∧ (deliver u k a s).shc = s.shc
    ∧ (deliver u k a s).spm = s.spm
    ∧ (deliver u k a s).pending = s.pending
    ∧ (deliver u k a s).lnu.address = s.lnu.address
    ∧ (deliver u k a s).lnu.fast = s.lnu.fast
    ∧ (deliver u k a s).lnu.answering = s.lnu.answering
    ∧ (deliver u k a s).lnu.rx = s.lnu.rx
    ∧ (deliver u k a s).lnu.tx = s.lnu.tx
    ∧ (deliver u k a s).lnu.driver = s.lnu.driver
    ∧ (deliver u k a s).lnu.errors = s.lnu.errors
    ∧ (deliver u k a s).lnu.masks = s.lnu.masks
    ∧ (deliver u k a s).lnu.caseLamp = s.lnu.caseLamp
    ∧ (deliver u k a s).lnu.handoverLamp = s.lnu.handoverLamp
    ∧ (deliver u k a s).lnu.presenceLine = s.lnu.presenceLine := by
  simp [deliver]

/-- What `beginTransaction` leaves unchanged. -/
@[simp] theorem beginTransaction_frame (i : StoreItem) (o : Origin) (r : List Byte) (s : State) :
    (beginTransaction i o r s).tb = s.tb
    ∧ (beginTransaction i o r s).riu = s.riu
    ∧ (beginTransaction i o r s).tiu = s.tiu
    ∧ (beginTransaction i o r s).ct = s.ct
    ∧ (beginTransaction i o r s).tgr = s.tgr
    ∧ (beginTransaction i o r s).usm = s.usm
    ∧ (beginTransaction i o r s).rha = s.rha
    ∧ (beginTransaction i o r s).shc = s.shc
    ∧ (beginTransaction i o r s).lnu = s.lnu
    ∧ (beginTransaction i o r s).spm = s.spm
    ∧ (beginTransaction i o r s).pending = s.pending := by
  simp [beginTransaction]

/-- What `beginAccountWrite` leaves unchanged. -/
@[simp] theorem beginAccountWrite_frame (u : UnitId) (k : Kind) (o : Origin) (s : State) :
    (beginAccountWrite u k o s).tb = s.tb
    ∧ (beginAccountWrite u k o s).riu = s.riu
    ∧ (beginAccountWrite u k o s).tiu = s.tiu
    ∧ (beginAccountWrite u k o s).ct = s.ct
    ∧ (beginAccountWrite u k o s).tgr = s.tgr
    ∧ (beginAccountWrite u k o s).usm = s.usm
    ∧ (beginAccountWrite u k o s).shc = s.shc
    ∧ (beginAccountWrite u k o s).lnu = s.lnu
    ∧ (beginAccountWrite u k o s).spm = s.spm
    ∧ (beginAccountWrite u k o s).pending = s.pending := by
  simp [beginAccountWrite]

/-- What `release` leaves unchanged. -/
@[simp] theorem release_frame (s : State) :
    (release s).tb = s.tb
    ∧ (release s).riu = s.riu
    ∧ (release s).tiu = s.tiu
    ∧ (release s).ct = s.ct
    ∧ (release s).tgr = s.tgr
    ∧ (release s).usm = s.usm
    ∧ (release s).rha = s.rha
    ∧ (release s).shc = s.shc
    ∧ (release s).lnu = s.lnu
    ∧ (release s).spm = s.spm
    ∧ (release s).pending = s.pending := by
  simp [release]

/-- What `writeEnd` leaves unchanged. -/
@[simp] theorem writeEnd_frame (u : UnitId) (k : Kind) (w : Bool) (s : State) :
    (writeEnd u k w s).tb = s.tb
    ∧ (writeEnd u k w s).riu = s.riu
    ∧ (writeEnd u k w s).tiu = s.tiu
    ∧ (writeEnd u k w s).ct = s.ct
    ∧ (writeEnd u k w s).tgr = s.tgr
    ∧ (writeEnd u k w s).usm = s.usm
    ∧ (writeEnd u k w s).shc = s.shc
    ∧ (writeEnd u k w s).spm = s.spm
    ∧ (writeEnd u k w s).pending = s.pending
    ∧ (writeEnd u k w s).lnu.address = s.lnu.address
    ∧ (writeEnd u k w s).lnu.fast = s.lnu.fast
    ∧ (writeEnd u k w s).lnu.answering = s.lnu.answering
    ∧ (writeEnd u k w s).lnu.rx = s.lnu.rx
    ∧ (writeEnd u k w s).lnu.tx = s.lnu.tx
    ∧ (writeEnd u k w s).lnu.driver = s.lnu.driver
    ∧ (writeEnd u k w s).lnu.errors = s.lnu.errors
    ∧ (writeEnd u k w s).lnu.masks = s.lnu.masks
    ∧ (writeEnd u k w s).lnu.caseLamp = s.lnu.caseLamp
    ∧ (writeEnd u k w s).lnu.handoverLamp = s.lnu.handoverLamp
    ∧ (writeEnd u k w s).lnu.presenceLine = s.lnu.presenceLine := by
  unfold writeEnd; (repeat' split) <;> simp

/-- What `beginCommit` leaves unchanged. -/
@[simp] theorem beginCommit_frame (s : State) :
    (beginCommit s).tb = s.tb
    ∧ (beginCommit s).riu = s.riu
    ∧ (beginCommit s).tiu = s.tiu
    ∧ (beginCommit s).ct = s.ct
    ∧ (beginCommit s).tgr = s.tgr
    ∧ (beginCommit s).usm = s.usm
    ∧ (beginCommit s).rha = s.rha
    ∧ (beginCommit s).shc = s.shc
    ∧ (beginCommit s).lnu = s.lnu
    ∧ (beginCommit s).spm = s.spm
    ∧ (beginCommit s).pending = s.pending := by
  simp [beginCommit]

/-- What `takeTrigger` leaves unchanged. -/
@[simp] theorem takeTrigger_frame (s : State) :
    (takeTrigger s).tb = s.tb
    ∧ (takeTrigger s).riu = s.riu
    ∧ (takeTrigger s).tiu = s.tiu
    ∧ (takeTrigger s).ct = s.ct
    ∧ (takeTrigger s).tgr = s.tgr
    ∧ (takeTrigger s).usm = s.usm
    ∧ (takeTrigger s).rha = s.rha
    ∧ (takeTrigger s).shc = s.shc
    ∧ (takeTrigger s).lnu = s.lnu
    ∧ (takeTrigger s).spm = s.spm
    ∧ (takeTrigger s).pending = s.pending := by
  unfold takeTrigger; (repeat' split) <;> simp

/-- What `takeRecommit` leaves unchanged. -/
@[simp] theorem takeRecommit_frame (s : State) :
    (takeRecommit s).tb = s.tb
    ∧ (takeRecommit s).riu = s.riu
    ∧ (takeRecommit s).tiu = s.tiu
    ∧ (takeRecommit s).ct = s.ct
    ∧ (takeRecommit s).tgr = s.tgr
    ∧ (takeRecommit s).usm = s.usm
    ∧ (takeRecommit s).rha = s.rha
    ∧ (takeRecommit s).shc = s.shc
    ∧ (takeRecommit s).lnu = s.lnu
    ∧ (takeRecommit s).spm = s.spm
    ∧ (takeRecommit s).pending = s.pending := by
  unfold takeRecommit; (repeat' split) <;> simp

/-- What `takeFreeze` leaves unchanged. -/
@[simp] theorem takeFreeze_frame (s : State) :
    (takeFreeze s).tb = s.tb
    ∧ (takeFreeze s).riu = s.riu
    ∧ (takeFreeze s).tiu = s.tiu
    ∧ (takeFreeze s).ct = s.ct
    ∧ (takeFreeze s).tgr = s.tgr
    ∧ (takeFreeze s).usm = s.usm
    ∧ (takeFreeze s).rha = s.rha
    ∧ (takeFreeze s).shc = s.shc
    ∧ (takeFreeze s).lnu = s.lnu
    ∧ (takeFreeze s).spm = s.spm
    ∧ (takeFreeze s).pending = s.pending := by
  unfold takeFreeze; (repeat' split) <;> simp

/-- What `commitEnd` leaves unchanged. -/
@[simp] theorem commitEnd_frame (d : Bool) (s : State) :
    (commitEnd d s).tb = s.tb
    ∧ (commitEnd d s).riu = s.riu
    ∧ (commitEnd d s).tiu = s.tiu
    ∧ (commitEnd d s).ct = s.ct
    ∧ (commitEnd d s).tgr = s.tgr
    ∧ (commitEnd d s).usm = s.usm
    ∧ (commitEnd d s).rha = s.rha
    ∧ (commitEnd d s).shc = s.shc
    ∧ (commitEnd d s).spm = s.spm
    ∧ (commitEnd d s).pending = s.pending
    ∧ (commitEnd d s).lnu.address = s.lnu.address
    ∧ (commitEnd d s).lnu.fast = s.lnu.fast
    ∧ (commitEnd d s).lnu.answering = s.lnu.answering
    ∧ (commitEnd d s).lnu.rx = s.lnu.rx
    ∧ (commitEnd d s).lnu.tx = s.lnu.tx
    ∧ (commitEnd d s).lnu.driver = s.lnu.driver
    ∧ (commitEnd d s).lnu.errors = s.lnu.errors
    ∧ (commitEnd d s).lnu.masks = s.lnu.masks
    ∧ (commitEnd d s).lnu.caseLamp = s.lnu.caseLamp
    ∧ (commitEnd d s).lnu.handoverLamp = s.lnu.handoverLamp
    ∧ (commitEnd d s).lnu.presenceLine = s.lnu.presenceLine := by
  simp only [commitEnd]; (repeat' split) <;> simp

/-- What `chooseNext` leaves unchanged. -/
@[simp] theorem chooseNext_frame (n : Nat) (s : State) :
    (chooseNext n s).tb = s.tb
    ∧ (chooseNext n s).riu = s.riu
    ∧ (chooseNext n s).tiu = s.tiu
    ∧ (chooseNext n s).ct = s.ct
    ∧ (chooseNext n s).tgr = s.tgr
    ∧ (chooseNext n s).usm = s.usm
    ∧ (chooseNext n s).shc = s.shc
    ∧ (chooseNext n s).spm = s.spm
    ∧ (chooseNext n s).pending = s.pending
    ∧ (chooseNext n s).lnu.address = s.lnu.address
    ∧ (chooseNext n s).lnu.fast = s.lnu.fast
    ∧ (chooseNext n s).lnu.answering = s.lnu.answering
    ∧ (chooseNext n s).lnu.rx = s.lnu.rx
    ∧ (chooseNext n s).lnu.tx = s.lnu.tx
    ∧ (chooseNext n s).lnu.driver = s.lnu.driver
    ∧ (chooseNext n s).lnu.errors = s.lnu.errors
    ∧ (chooseNext n s).lnu.masks = s.lnu.masks
    ∧ (chooseNext n s).lnu.caseLamp = s.lnu.caseLamp
    ∧ (chooseNext n s).lnu.handoverLamp = s.lnu.handoverLamp
    ∧ (chooseNext n s).lnu.presenceLine = s.lnu.presenceLine := by
  induction n generalizing s with
  | zero => simp [chooseNext]
  | succ n ih =>
    unfold chooseNext
    (repeat' split) <;> simp [ih]

/-- What `serveStore` leaves unchanged. -/
@[simp] theorem serveStore_frame (s : State) :
    (serveStore s).tb = s.tb
    ∧ (serveStore s).riu = s.riu
    ∧ (serveStore s).tiu = s.tiu
    ∧ (serveStore s).ct = s.ct
    ∧ (serveStore s).tgr = s.tgr
    ∧ (serveStore s).usm = s.usm
    ∧ (serveStore s).shc = s.shc
    ∧ (serveStore s).spm = s.spm
    ∧ (serveStore s).pending = s.pending
    ∧ (serveStore s).lnu.address = s.lnu.address
    ∧ (serveStore s).lnu.fast = s.lnu.fast
    ∧ (serveStore s).lnu.answering = s.lnu.answering
    ∧ (serveStore s).lnu.rx = s.lnu.rx
    ∧ (serveStore s).lnu.tx = s.lnu.tx
    ∧ (serveStore s).lnu.driver = s.lnu.driver
    ∧ (serveStore s).lnu.errors = s.lnu.errors
    ∧ (serveStore s).lnu.masks = s.lnu.masks
    ∧ (serveStore s).lnu.caseLamp = s.lnu.caseLamp
    ∧ (serveStore s).lnu.handoverLamp = s.lnu.handoverLamp
    ∧ (serveStore s).lnu.presenceLine = s.lnu.presenceLine := by
  simp [serveStore]

/-- What `commitTrigger` leaves unchanged. -/
@[simp] theorem commitTrigger_frame (s : State) :
    (commitTrigger s).tb = s.tb
    ∧ (commitTrigger s).riu = s.riu
    ∧ (commitTrigger s).tiu = s.tiu
    ∧ (commitTrigger s).ct = s.ct
    ∧ (commitTrigger s).tgr = s.tgr
    ∧ (commitTrigger s).usm = s.usm
    ∧ (commitTrigger s).shc = s.shc
    ∧ (commitTrigger s).spm = s.spm
    ∧ (commitTrigger s).pending = s.pending
    ∧ (commitTrigger s).lnu.address = s.lnu.address
    ∧ (commitTrigger s).lnu.fast = s.lnu.fast
    ∧ (commitTrigger s).lnu.answering = s.lnu.answering
    ∧ (commitTrigger s).lnu.rx = s.lnu.rx
    ∧ (commitTrigger s).lnu.tx = s.lnu.tx
    ∧ (commitTrigger s).lnu.driver = s.lnu.driver
    ∧ (commitTrigger s).lnu.errors = s.lnu.errors
    ∧ (commitTrigger s).lnu.masks = s.lnu.masks
    ∧ (commitTrigger s).lnu.caseLamp = s.lnu.caseLamp
    ∧ (commitTrigger s).lnu.handoverLamp = s.lnu.handoverLamp
    ∧ (commitTrigger s).lnu.presenceLine = s.lnu.presenceLine := by
  simp [commitTrigger]

/-- What `countOne` leaves unchanged. -/
@[simp] theorem countOne_frame (u : UnitId) (k : Kind) (s : State) :
    (countOne u k s).tb = s.tb
    ∧ (countOne u k s).riu = s.riu
    ∧ (countOne u k s).tiu = s.tiu
    ∧ (countOne u k s).ct = s.ct
    ∧ (countOne u k s).tgr = s.tgr
    ∧ (countOne u k s).usm = s.usm
    ∧ (countOne u k s).shc = s.shc
    ∧ (countOne u k s).spm = s.spm
    ∧ (countOne u k s).pending = s.pending
    ∧ (countOne u k s).lnu.address = s.lnu.address
    ∧ (countOne u k s).lnu.fast = s.lnu.fast
    ∧ (countOne u k s).lnu.answering = s.lnu.answering
    ∧ (countOne u k s).lnu.rx = s.lnu.rx
    ∧ (countOne u k s).lnu.tx = s.lnu.tx
    ∧ (countOne u k s).lnu.driver = s.lnu.driver
    ∧ (countOne u k s).lnu.errors = s.lnu.errors
    ∧ (countOne u k s).lnu.masks = s.lnu.masks
    ∧ (countOne u k s).lnu.caseLamp = s.lnu.caseLamp
    ∧ (countOne u k s).lnu.handoverLamp = s.lnu.handoverLamp
    ∧ (countOne u k s).lnu.presenceLine = s.lnu.presenceLine := by
  simp [countOne]

/-- What `setLoad` leaves unchanged. -/
@[simp] theorem setLoad_frame (l : Load) (s : State) :
    (setLoad l s).tb = s.tb
    ∧ (setLoad l s).riu = s.riu
    ∧ (setLoad l s).tiu = s.tiu
    ∧ (setLoad l s).ct = s.ct
    ∧ (setLoad l s).tgr = s.tgr
    ∧ (setLoad l s).usm = s.usm
    ∧ (setLoad l s).rha = s.rha
    ∧ (setLoad l s).shc = s.shc
    ∧ (setLoad l s).lnu = s.lnu
    ∧ (setLoad l s).spm = s.spm
    ∧ (setLoad l s).pending = s.pending := by
  simp [setLoad]

/-- What `raiseFault` leaves unchanged. -/
@[simp] theorem raiseFault_frame (s : State) :
    (raiseFault s).tb = s.tb
    ∧ (raiseFault s).riu = s.riu
    ∧ (raiseFault s).tiu = s.tiu
    ∧ (raiseFault s).ct = s.ct
    ∧ (raiseFault s).tgr = s.tgr
    ∧ (raiseFault s).usm = s.usm
    ∧ (raiseFault s).rha = s.rha
    ∧ (raiseFault s).shc = s.shc
    ∧ (raiseFault s).spm = s.spm
    ∧ (raiseFault s).pending = s.pending
    ∧ (raiseFault s).lnu.address = s.lnu.address
    ∧ (raiseFault s).lnu.fast = s.lnu.fast
    ∧ (raiseFault s).lnu.answering = s.lnu.answering
    ∧ (raiseFault s).lnu.rx = s.lnu.rx
    ∧ (raiseFault s).lnu.tx = s.lnu.tx
    ∧ (raiseFault s).lnu.driver = s.lnu.driver
    ∧ (raiseFault s).lnu.errors = s.lnu.errors
    ∧ (raiseFault s).lnu.masks = s.lnu.masks
    ∧ (raiseFault s).lnu.caseLamp = s.lnu.caseLamp
    ∧ (raiseFault s).lnu.handoverLamp = s.lnu.handoverLamp
    ∧ (raiseFault s).lnu.presenceLine = s.lnu.presenceLine := by
  simp [raiseFault]

/-- What `endLoad` leaves unchanged. -/
@[simp] theorem endLoad_frame (s : State) :
    (endLoad s).tb = s.tb
    ∧ (endLoad s).riu = s.riu
    ∧ (endLoad s).tiu = s.tiu
    ∧ (endLoad s).ct = s.ct
    ∧ (endLoad s).tgr = s.tgr
    ∧ (endLoad s).usm = s.usm
    ∧ (endLoad s).shc = s.shc
    ∧ (endLoad s).spm = s.spm
    ∧ (endLoad s).pending = s.pending
    ∧ (endLoad s).lnu.address = s.lnu.address
    ∧ (endLoad s).lnu.fast = s.lnu.fast
    ∧ (endLoad s).lnu.answering = s.lnu.answering
    ∧ (endLoad s).lnu.rx = s.lnu.rx
    ∧ (endLoad s).lnu.tx = s.lnu.tx
    ∧ (endLoad s).lnu.driver = s.lnu.driver
    ∧ (endLoad s).lnu.errors = s.lnu.errors
    ∧ (endLoad s).lnu.masks = s.lnu.masks
    ∧ (endLoad s).lnu.caseLamp = s.lnu.caseLamp
    ∧ (endLoad s).lnu.handoverLamp = s.lnu.handoverLamp
    ∧ (endLoad s).lnu.presenceLine = s.lnu.presenceLine := by
  simp [endLoad]

/-- What `loadNextRead` leaves unchanged. -/
@[simp] theorem loadNextRead_frame (l : Load) (s : State) :
    (loadNextRead l s).tb = s.tb
    ∧ (loadNextRead l s).riu = s.riu
    ∧ (loadNextRead l s).tiu = s.tiu
    ∧ (loadNextRead l s).ct = s.ct
    ∧ (loadNextRead l s).tgr = s.tgr
    ∧ (loadNextRead l s).usm = s.usm
    ∧ (loadNextRead l s).shc = s.shc
    ∧ (loadNextRead l s).spm = s.spm
    ∧ (loadNextRead l s).pending = s.pending
    ∧ (loadNextRead l s).lnu.address = s.lnu.address
    ∧ (loadNextRead l s).lnu.fast = s.lnu.fast
    ∧ (loadNextRead l s).lnu.answering = s.lnu.answering
    ∧ (loadNextRead l s).lnu.rx = s.lnu.rx
    ∧ (loadNextRead l s).lnu.tx = s.lnu.tx
    ∧ (loadNextRead l s).lnu.driver = s.lnu.driver
    ∧ (loadNextRead l s).lnu.errors = s.lnu.errors
    ∧ (loadNextRead l s).lnu.masks = s.lnu.masks
    ∧ (loadNextRead l s).lnu.caseLamp = s.lnu.caseLamp
    ∧ (loadNextRead l s).lnu.handoverLamp = s.lnu.handoverLamp
    ∧ (loadNextRead l s).lnu.presenceLine = s.lnu.presenceLine := by
  unfold loadNextRead; (repeat' split) <;> simp

/-- What `loadNextInit` leaves unchanged. -/
@[simp] theorem loadNextInit_frame (l : Load) (s : State) :
    (loadNextInit l s).tb = s.tb
    ∧ (loadNextInit l s).riu = s.riu
    ∧ (loadNextInit l s).tiu = s.tiu
    ∧ (loadNextInit l s).ct = s.ct
    ∧ (loadNextInit l s).tgr = s.tgr
    ∧ (loadNextInit l s).usm = s.usm
    ∧ (loadNextInit l s).shc = s.shc
    ∧ (loadNextInit l s).spm = s.spm
    ∧ (loadNextInit l s).pending = s.pending
    ∧ (loadNextInit l s).lnu.address = s.lnu.address
    ∧ (loadNextInit l s).lnu.fast = s.lnu.fast
    ∧ (loadNextInit l s).lnu.answering = s.lnu.answering
    ∧ (loadNextInit l s).lnu.rx = s.lnu.rx
    ∧ (loadNextInit l s).lnu.tx = s.lnu.tx
    ∧ (loadNextInit l s).lnu.driver = s.lnu.driver
    ∧ (loadNextInit l s).lnu.errors = s.lnu.errors
    ∧ (loadNextInit l s).lnu.masks = s.lnu.masks
    ∧ (loadNextInit l s).lnu.caseLamp = s.lnu.caseLamp
    ∧ (loadNextInit l s).lnu.handoverLamp = s.lnu.handoverLamp
    ∧ (loadNextInit l s).lnu.presenceLine = s.lnu.presenceLine := by
  unfold loadNextInit; (repeat' split) <;> simp

/-- What `beginReload` leaves unchanged. -/
@[simp] theorem beginReload_frame (s : State) :
    (beginReload s).tb = s.tb
    ∧ (beginReload s).riu = s.riu
    ∧ (beginReload s).tiu = s.tiu
    ∧ (beginReload s).ct = s.ct
    ∧ (beginReload s).tgr = s.tgr
    ∧ (beginReload s).usm = s.usm
    ∧ (beginReload s).shc = s.shc
    ∧ (beginReload s).spm = s.spm
    ∧ (beginReload s).pending = s.pending
    ∧ (beginReload s).lnu.address = s.lnu.address
    ∧ (beginReload s).lnu.fast = s.lnu.fast
    ∧ (beginReload s).lnu.answering = s.lnu.answering
    ∧ (beginReload s).lnu.rx = s.lnu.rx
    ∧ (beginReload s).lnu.tx = s.lnu.tx
    ∧ (beginReload s).lnu.driver = s.lnu.driver
    ∧ (beginReload s).lnu.errors = s.lnu.errors
    ∧ (beginReload s).lnu.masks = s.lnu.masks
    ∧ (beginReload s).lnu.caseLamp = s.lnu.caseLamp
    ∧ (beginReload s).lnu.handoverLamp = s.lnu.handoverLamp
    ∧ (beginReload s).lnu.presenceLine = s.lnu.presenceLine := by
  simp [beginReload]

/-- What `afterRecord` leaves unchanged. -/
@[simp] theorem afterRecord_frame (s : State) :
    (afterRecord s).tb = s.tb
    ∧ (afterRecord s).riu = s.riu
    ∧ (afterRecord s).tiu = s.tiu
    ∧ (afterRecord s).ct = s.ct
    ∧ (afterRecord s).tgr = s.tgr
    ∧ (afterRecord s).usm = s.usm
    ∧ (afterRecord s).shc = s.shc
    ∧ (afterRecord s).spm = s.spm
    ∧ (afterRecord s).pending = s.pending
    ∧ (afterRecord s).lnu.address = s.lnu.address
    ∧ (afterRecord s).lnu.fast = s.lnu.fast
    ∧ (afterRecord s).lnu.answering = s.lnu.answering
    ∧ (afterRecord s).lnu.rx = s.lnu.rx
    ∧ (afterRecord s).lnu.tx = s.lnu.tx
    ∧ (afterRecord s).lnu.driver = s.lnu.driver
    ∧ (afterRecord s).lnu.errors = s.lnu.errors
    ∧ (afterRecord s).lnu.masks = s.lnu.masks
    ∧ (afterRecord s).lnu.caseLamp = s.lnu.caseLamp
    ∧ (afterRecord s).lnu.handoverLamp = s.lnu.handoverLamp
    ∧ (afterRecord s).lnu.presenceLine = s.lnu.presenceLine := by
  unfold afterRecord; (repeat' split) <;> simp

/-- What `initWritten` leaves unchanged. -/
@[simp] theorem initWritten_frame (l : Load) (i : StoreItem) (s : State) :
    (initWritten l i s).tb = s.tb
    ∧ (initWritten l i s).riu = s.riu
    ∧ (initWritten l i s).tiu = s.tiu
    ∧ (initWritten l i s).ct = s.ct
    ∧ (initWritten l i s).tgr = s.tgr
    ∧ (initWritten l i s).usm = s.usm
    ∧ (initWritten l i s).shc = s.shc
    ∧ (initWritten l i s).spm = s.spm
    ∧ (initWritten l i s).pending = s.pending
    ∧ (initWritten l i s).lnu.address = s.lnu.address
    ∧ (initWritten l i s).lnu.fast = s.lnu.fast
    ∧ (initWritten l i s).lnu.answering = s.lnu.answering
    ∧ (initWritten l i s).lnu.rx = s.lnu.rx
    ∧ (initWritten l i s).lnu.tx = s.lnu.tx
    ∧ (initWritten l i s).lnu.driver = s.lnu.driver
    ∧ (initWritten l i s).lnu.errors = s.lnu.errors
    ∧ (initWritten l i s).lnu.masks = s.lnu.masks
    ∧ (initWritten l i s).lnu.caseLamp = s.lnu.caseLamp
    ∧ (initWritten l i s).lnu.handoverLamp = s.lnu.handoverLamp
    ∧ (initWritten l i s).lnu.presenceLine = s.lnu.presenceLine := by
  unfold initWritten; (repeat' split) <;> simp

/-- What `initFailure` leaves unchanged. -/
@[simp] theorem initFailure_frame (l : Load) (i : StoreItem) (s : State) :
    (initFailure l i s).tb = s.tb
    ∧ (initFailure l i s).riu = s.riu
    ∧ (initFailure l i s).tiu = s.tiu
    ∧ (initFailure l i s).ct = s.ct
    ∧ (initFailure l i s).tgr = s.tgr
    ∧ (initFailure l i s).usm = s.usm
    ∧ (initFailure l i s).shc = s.shc
    ∧ (initFailure l i s).spm = s.spm
    ∧ (initFailure l i s).pending = s.pending
    ∧ (initFailure l i s).lnu.address = s.lnu.address
    ∧ (initFailure l i s).lnu.fast = s.lnu.fast
    ∧ (initFailure l i s).lnu.answering = s.lnu.answering
    ∧ (initFailure l i s).lnu.rx = s.lnu.rx
    ∧ (initFailure l i s).lnu.tx = s.lnu.tx
    ∧ (initFailure l i s).lnu.driver = s.lnu.driver
    ∧ (initFailure l i s).lnu.errors = s.lnu.errors
    ∧ (initFailure l i s).lnu.masks = s.lnu.masks
    ∧ (initFailure l i s).lnu.caseLamp = s.lnu.caseLamp
    ∧ (initFailure l i s).lnu.handoverLamp = s.lnu.handoverLamp
    ∧ (initFailure l i s).lnu.presenceLine = s.lnu.presenceLine := by
  unfold initFailure; (repeat' split) <;> simp

/-- What `readMissed` leaves unchanged. -/
@[simp] theorem readMissed_frame (l : Load) (i : StoreItem) (s : State) :
    (readMissed l i s).tb = s.tb
    ∧ (readMissed l i s).riu = s.riu
    ∧ (readMissed l i s).tiu = s.tiu
    ∧ (readMissed l i s).ct = s.ct
    ∧ (readMissed l i s).tgr = s.tgr
    ∧ (readMissed l i s).usm = s.usm
    ∧ (readMissed l i s).rha = s.rha
    ∧ (readMissed l i s).shc = s.shc
    ∧ (readMissed l i s).spm = s.spm
    ∧ (readMissed l i s).pending = s.pending
    ∧ (readMissed l i s).lnu.address = s.lnu.address
    ∧ (readMissed l i s).lnu.fast = s.lnu.fast
    ∧ (readMissed l i s).lnu.answering = s.lnu.answering
    ∧ (readMissed l i s).lnu.rx = s.lnu.rx
    ∧ (readMissed l i s).lnu.tx = s.lnu.tx
    ∧ (readMissed l i s).lnu.driver = s.lnu.driver
    ∧ (readMissed l i s).lnu.errors = s.lnu.errors
    ∧ (readMissed l i s).lnu.masks = s.lnu.masks
    ∧ (readMissed l i s).lnu.caseLamp = s.lnu.caseLamp
    ∧ (readMissed l i s).lnu.handoverLamp = s.lnu.handoverLamp
    ∧ (readMissed l i s).lnu.presenceLine = s.lnu.presenceLine := by
  simp only [readMissed]; split <;> simp

/-- What `itemEnd` leaves unchanged. -/
@[simp] theorem itemEnd_frame (i : StoreItem) (w : Bool) (s : State) :
    (itemEnd i w s).tb = s.tb
    ∧ (itemEnd i w s).riu = s.riu
    ∧ (itemEnd i w s).tiu = s.tiu
    ∧ (itemEnd i w s).ct = s.ct
    ∧ (itemEnd i w s).tgr = s.tgr
    ∧ (itemEnd i w s).usm = s.usm
    ∧ (itemEnd i w s).shc = s.shc
    ∧ (itemEnd i w s).spm = s.spm
    ∧ (itemEnd i w s).pending = s.pending
    ∧ (itemEnd i w s).lnu.address = s.lnu.address
    ∧ (itemEnd i w s).lnu.fast = s.lnu.fast
    ∧ (itemEnd i w s).lnu.answering = s.lnu.answering
    ∧ (itemEnd i w s).lnu.rx = s.lnu.rx
    ∧ (itemEnd i w s).lnu.tx = s.lnu.tx
    ∧ (itemEnd i w s).lnu.driver = s.lnu.driver
    ∧ (itemEnd i w s).lnu.errors = s.lnu.errors
    ∧ (itemEnd i w s).lnu.masks = s.lnu.masks
    ∧ (itemEnd i w s).lnu.caseLamp = s.lnu.caseLamp
    ∧ (itemEnd i w s).lnu.handoverLamp = s.lnu.handoverLamp
    ∧ (itemEnd i w s).lnu.presenceLine = s.lnu.presenceLine := by
  unfold itemEnd; (repeat' split) <;> simp

/-- What `commitRecordWritten` leaves unchanged. -/
@[simp] theorem commitRecordWritten_frame (i : StoreItem) (s : State) :
    (commitRecordWritten i s).tb = s.tb
    ∧ (commitRecordWritten i s).riu = s.riu
    ∧ (commitRecordWritten i s).tiu = s.tiu
    ∧ (commitRecordWritten i s).ct = s.ct
    ∧ (commitRecordWritten i s).tgr = s.tgr
    ∧ (commitRecordWritten i s).usm = s.usm
    ∧ (commitRecordWritten i s).rha = s.rha
    ∧ (commitRecordWritten i s).shc = s.shc
    ∧ (commitRecordWritten i s).spm = s.spm
    ∧ (commitRecordWritten i s).pending = s.pending
    ∧ (commitRecordWritten i s).lnu.address = s.lnu.address
    ∧ (commitRecordWritten i s).lnu.fast = s.lnu.fast
    ∧ (commitRecordWritten i s).lnu.answering = s.lnu.answering
    ∧ (commitRecordWritten i s).lnu.rx = s.lnu.rx
    ∧ (commitRecordWritten i s).lnu.tx = s.lnu.tx
    ∧ (commitRecordWritten i s).lnu.driver = s.lnu.driver
    ∧ (commitRecordWritten i s).lnu.errors = s.lnu.errors
    ∧ (commitRecordWritten i s).lnu.masks = s.lnu.masks
    ∧ (commitRecordWritten i s).lnu.caseLamp = s.lnu.caseLamp
    ∧ (commitRecordWritten i s).lnu.handoverLamp = s.lnu.handoverLamp
    ∧ (commitRecordWritten i s).lnu.presenceLine = s.lnu.presenceLine := by
  simp only [commitRecordWritten]; split <;> simp

/-- What `transactionWritten` leaves unchanged. -/
@[simp] theorem transactionWritten_frame (t : Transaction) (s : State) :
    (transactionWritten t s).tb = s.tb
    ∧ (transactionWritten t s).riu = s.riu
    ∧ (transactionWritten t s).tiu = s.tiu
    ∧ (transactionWritten t s).ct = s.ct
    ∧ (transactionWritten t s).tgr = s.tgr
    ∧ (transactionWritten t s).usm = s.usm
    ∧ (transactionWritten t s).shc = s.shc
    ∧ (transactionWritten t s).spm = s.spm
    ∧ (transactionWritten t s).pending = s.pending
    ∧ (transactionWritten t s).lnu.address = s.lnu.address
    ∧ (transactionWritten t s).lnu.fast = s.lnu.fast
    ∧ (transactionWritten t s).lnu.answering = s.lnu.answering
    ∧ (transactionWritten t s).lnu.rx = s.lnu.rx
    ∧ (transactionWritten t s).lnu.tx = s.lnu.tx
    ∧ (transactionWritten t s).lnu.driver = s.lnu.driver
    ∧ (transactionWritten t s).lnu.errors = s.lnu.errors
    ∧ (transactionWritten t s).lnu.masks = s.lnu.masks
    ∧ (transactionWritten t s).lnu.caseLamp = s.lnu.caseLamp
    ∧ (transactionWritten t s).lnu.handoverLamp = s.lnu.handoverLamp
    ∧ (transactionWritten t s).lnu.presenceLine = s.lnu.presenceLine := by
  simp only [transactionWritten]; (repeat' split) <;> simp

/-- What `transactionFailed` leaves unchanged. -/
@[simp] theorem transactionFailed_frame (t : Transaction) (r : FailReason) (s : State) :
    (transactionFailed t r s).tb = s.tb
    ∧ (transactionFailed t r s).riu = s.riu
    ∧ (transactionFailed t r s).tiu = s.tiu
    ∧ (transactionFailed t r s).ct = s.ct
    ∧ (transactionFailed t r s).tgr = s.tgr
    ∧ (transactionFailed t r s).usm = s.usm
    ∧ (transactionFailed t r s).shc = s.shc
    ∧ (transactionFailed t r s).spm = s.spm
    ∧ (transactionFailed t r s).pending = s.pending
    ∧ (transactionFailed t r s).lnu.address = s.lnu.address
    ∧ (transactionFailed t r s).lnu.fast = s.lnu.fast
    ∧ (transactionFailed t r s).lnu.answering = s.lnu.answering
    ∧ (transactionFailed t r s).lnu.rx = s.lnu.rx
    ∧ (transactionFailed t r s).lnu.tx = s.lnu.tx
    ∧ (transactionFailed t r s).lnu.driver = s.lnu.driver
    ∧ (transactionFailed t r s).lnu.errors = s.lnu.errors
    ∧ (transactionFailed t r s).lnu.masks = s.lnu.masks
    ∧ (transactionFailed t r s).lnu.caseLamp = s.lnu.caseLamp
    ∧ (transactionFailed t r s).lnu.handoverLamp = s.lnu.handoverLamp
    ∧ (transactionFailed t r s).lnu.presenceLine = s.lnu.presenceLine := by
  simp only [transactionFailed]; (repeat' split) <;> simp

/-- What `readDelivered` leaves unchanged. -/
@[simp] theorem readDelivered_frame (l : Load) (i : StoreItem) (b : List Byte) (s : State) :
    (readDelivered l i b s).tb = s.tb
    ∧ (readDelivered l i b s).riu = s.riu
    ∧ (readDelivered l i b s).tiu = s.tiu
    ∧ (readDelivered l i b s).ct = s.ct
    ∧ (readDelivered l i b s).tgr = s.tgr
    ∧ (readDelivered l i b s).usm = s.usm
    ∧ (readDelivered l i b s).shc = s.shc
    ∧ (readDelivered l i b s).spm = s.spm
    ∧ (readDelivered l i b s).pending = s.pending
    ∧ (readDelivered l i b s).lnu.address = s.lnu.address
    ∧ (readDelivered l i b s).lnu.fast = s.lnu.fast
    ∧ (readDelivered l i b s).lnu.answering = s.lnu.answering
    ∧ (readDelivered l i b s).lnu.rx = s.lnu.rx
    ∧ (readDelivered l i b s).lnu.tx = s.lnu.tx
    ∧ (readDelivered l i b s).lnu.driver = s.lnu.driver
    ∧ (readDelivered l i b s).lnu.errors = s.lnu.errors
    ∧ (readDelivered l i b s).lnu.masks = s.lnu.masks
    ∧ (readDelivered l i b s).lnu.caseLamp = s.lnu.caseLamp
    ∧ (readDelivered l i b s).lnu.handoverLamp = s.lnu.handoverLamp
    ∧ (readDelivered l i b s).lnu.presenceLine = s.lnu.presenceLine := by
  simp only [readDelivered]; (repeat' split) <;> simp

/-- What `openWindow` leaves unchanged. -/
@[simp] theorem openWindow_frame (b : Nat) (x : ShiftState) (s : State) :
    (openWindow b x s).tb = s.tb
    ∧ (openWindow b x s).riu = s.riu
    ∧ (openWindow b x s).tiu = s.tiu
    ∧ (openWindow b x s).ct = s.ct
    ∧ (openWindow b x s).tgr = s.tgr
    ∧ (openWindow b x s).usm = s.usm
    ∧ (openWindow b x s).rha = s.rha
    ∧ (openWindow b x s).asc = s.asc
    ∧ (openWindow b x s).spm = s.spm
    ∧ (openWindow b x s).pending = s.pending
    ∧ (openWindow b x s).lnu.address = s.lnu.address
    ∧ (openWindow b x s).lnu.fast = s.lnu.fast
    ∧ (openWindow b x s).lnu.answering = s.lnu.answering
    ∧ (openWindow b x s).lnu.rx = s.lnu.rx
    ∧ (openWindow b x s).lnu.tx = s.lnu.tx
    ∧ (openWindow b x s).lnu.driver = s.lnu.driver
    ∧ (openWindow b x s).lnu.errors = s.lnu.errors
    ∧ (openWindow b x s).lnu.masks = s.lnu.masks
    ∧ (openWindow b x s).lnu.caseLamp = s.lnu.caseLamp
    ∧ (openWindow b x s).lnu.presenceLine = s.lnu.presenceLine := by
  simp [openWindow]

/-- What `crossOpening` leaves unchanged. -/
@[simp] theorem crossOpening_frame (b : Nat) (s : State) :
    (crossOpening b s).tb = s.tb
    ∧ (crossOpening b s).riu = s.riu
    ∧ (crossOpening b s).tiu = s.tiu
    ∧ (crossOpening b s).ct = s.ct
    ∧ (crossOpening b s).tgr = s.tgr
    ∧ (crossOpening b s).usm = s.usm
    ∧ (crossOpening b s).rha = s.rha
    ∧ (crossOpening b s).asc = s.asc
    ∧ (crossOpening b s).spm = s.spm
    ∧ (crossOpening b s).pending = s.pending
    ∧ (crossOpening b s).lnu.address = s.lnu.address
    ∧ (crossOpening b s).lnu.fast = s.lnu.fast
    ∧ (crossOpening b s).lnu.answering = s.lnu.answering
    ∧ (crossOpening b s).lnu.rx = s.lnu.rx
    ∧ (crossOpening b s).lnu.tx = s.lnu.tx
    ∧ (crossOpening b s).lnu.driver = s.lnu.driver
    ∧ (crossOpening b s).lnu.errors = s.lnu.errors
    ∧ (crossOpening b s).lnu.masks = s.lnu.masks
    ∧ (crossOpening b s).lnu.caseLamp = s.lnu.caseLamp
    ∧ (crossOpening b s).lnu.presenceLine = s.lnu.presenceLine := by
  unfold crossOpening; (repeat' split) <;> simp

/-- What `crossDue` leaves unchanged. -/
@[simp] theorem crossDue_frame (b : Nat) (s : State) :
    (crossDue b s).tb = s.tb
    ∧ (crossDue b s).riu = s.riu
    ∧ (crossDue b s).tiu = s.tiu
    ∧ (crossDue b s).ct = s.ct
    ∧ (crossDue b s).tgr = s.tgr
    ∧ (crossDue b s).usm = s.usm
    ∧ (crossDue b s).rha = s.rha
    ∧ (crossDue b s).asc = s.asc
    ∧ (crossDue b s).spm = s.spm
    ∧ (crossDue b s).pending = s.pending
    ∧ (crossDue b s).lnu.address = s.lnu.address
    ∧ (crossDue b s).lnu.fast = s.lnu.fast
    ∧ (crossDue b s).lnu.answering = s.lnu.answering
    ∧ (crossDue b s).lnu.rx = s.lnu.rx
    ∧ (crossDue b s).lnu.tx = s.lnu.tx
    ∧ (crossDue b s).lnu.driver = s.lnu.driver
    ∧ (crossDue b s).lnu.errors = s.lnu.errors
    ∧ (crossDue b s).lnu.masks = s.lnu.masks
    ∧ (crossDue b s).lnu.caseLamp = s.lnu.caseLamp
    ∧ (crossDue b s).lnu.handoverLamp = s.lnu.handoverLamp
    ∧ (crossDue b s).lnu.presenceLine = s.lnu.presenceLine := by
  unfold crossDue; (repeat' split) <;> simp

/-- What `crossOverdue` leaves unchanged. -/
@[simp] theorem crossOverdue_frame (b : Nat) (s : State) :
    (crossOverdue b s).tb = s.tb
    ∧ (crossOverdue b s).riu = s.riu
    ∧ (crossOverdue b s).tiu = s.tiu
    ∧ (crossOverdue b s).ct = s.ct
    ∧ (crossOverdue b s).tgr = s.tgr
    ∧ (crossOverdue b s).usm = s.usm
    ∧ (crossOverdue b s).rha = s.rha
    ∧ (crossOverdue b s).asc = s.asc
    ∧ (crossOverdue b s).spm = s.spm
    ∧ (crossOverdue b s).pending = s.pending
    ∧ (crossOverdue b s).lnu.address = s.lnu.address
    ∧ (crossOverdue b s).lnu.fast = s.lnu.fast
    ∧ (crossOverdue b s).lnu.answering = s.lnu.answering
    ∧ (crossOverdue b s).lnu.rx = s.lnu.rx
    ∧ (crossOverdue b s).lnu.tx = s.lnu.tx
    ∧ (crossOverdue b s).lnu.driver = s.lnu.driver
    ∧ (crossOverdue b s).lnu.errors = s.lnu.errors
    ∧ (crossOverdue b s).lnu.masks = s.lnu.masks
    ∧ (crossOverdue b s).lnu.caseLamp = s.lnu.caseLamp
    ∧ (crossOverdue b s).lnu.presenceLine = s.lnu.presenceLine := by
  unfold crossOverdue; (repeat' split) <;> simp

/-- What `crossPoint` leaves unchanged. -/
@[simp] theorem crossPoint_frame (x : Point × Nat) (s : State) :
    (crossPoint s x).tb = s.tb
    ∧ (crossPoint s x).riu = s.riu
    ∧ (crossPoint s x).tiu = s.tiu
    ∧ (crossPoint s x).ct = s.ct
    ∧ (crossPoint s x).tgr = s.tgr
    ∧ (crossPoint s x).usm = s.usm
    ∧ (crossPoint s x).rha = s.rha
    ∧ (crossPoint s x).asc = s.asc
    ∧ (crossPoint s x).spm = s.spm
    ∧ (crossPoint s x).pending = s.pending
    ∧ (crossPoint s x).lnu.address = s.lnu.address
    ∧ (crossPoint s x).lnu.fast = s.lnu.fast
    ∧ (crossPoint s x).lnu.answering = s.lnu.answering
    ∧ (crossPoint s x).lnu.rx = s.lnu.rx
    ∧ (crossPoint s x).lnu.tx = s.lnu.tx
    ∧ (crossPoint s x).lnu.driver = s.lnu.driver
    ∧ (crossPoint s x).lnu.errors = s.lnu.errors
    ∧ (crossPoint s x).lnu.masks = s.lnu.masks
    ∧ (crossPoint s x).lnu.caseLamp = s.lnu.caseLamp
    ∧ (crossPoint s x).lnu.presenceLine = s.lnu.presenceLine := by
  unfold crossPoint; (repeat' split) <;> simp

/-- What `foldl_crossPoint` leaves unchanged. -/
@[simp] theorem foldl_crossPoint_frame (l : List (Point × Nat)) (s : State) :
    (l.foldl crossPoint s).tb = s.tb
    ∧ (l.foldl crossPoint s).riu = s.riu
    ∧ (l.foldl crossPoint s).tiu = s.tiu
    ∧ (l.foldl crossPoint s).ct = s.ct
    ∧ (l.foldl crossPoint s).tgr = s.tgr
    ∧ (l.foldl crossPoint s).usm = s.usm
    ∧ (l.foldl crossPoint s).rha = s.rha
    ∧ (l.foldl crossPoint s).asc = s.asc
    ∧ (l.foldl crossPoint s).spm = s.spm
    ∧ (l.foldl crossPoint s).pending = s.pending
    ∧ (l.foldl crossPoint s).lnu.address = s.lnu.address
    ∧ (l.foldl crossPoint s).lnu.fast = s.lnu.fast
    ∧ (l.foldl crossPoint s).lnu.answering = s.lnu.answering
    ∧ (l.foldl crossPoint s).lnu.rx = s.lnu.rx
    ∧ (l.foldl crossPoint s).lnu.tx = s.lnu.tx
    ∧ (l.foldl crossPoint s).lnu.driver = s.lnu.driver
    ∧ (l.foldl crossPoint s).lnu.errors = s.lnu.errors
    ∧ (l.foldl crossPoint s).lnu.masks = s.lnu.masks
    ∧ (l.foldl crossPoint s).lnu.caseLamp = s.lnu.caseLamp
    ∧ (l.foldl crossPoint s).lnu.presenceLine = s.lnu.presenceLine := by
  induction l generalizing s with
  | nil => simp
  | cons x l ih => simp [ih]

/-- What `crossPoints` leaves unchanged. -/
@[simp] theorem crossPoints_frame (s : State) :
    (crossPoints s).tb = s.tb
    ∧ (crossPoints s).riu = s.riu
    ∧ (crossPoints s).tiu = s.tiu
    ∧ (crossPoints s).ct = s.ct
    ∧ (crossPoints s).tgr = s.tgr
    ∧ (crossPoints s).usm = s.usm
    ∧ (crossPoints s).rha = s.rha
    ∧ (crossPoints s).asc = s.asc
    ∧ (crossPoints s).spm = s.spm
    ∧ (crossPoints s).pending = s.pending
    ∧ (crossPoints s).lnu.address = s.lnu.address
    ∧ (crossPoints s).lnu.fast = s.lnu.fast
    ∧ (crossPoints s).lnu.answering = s.lnu.answering
    ∧ (crossPoints s).lnu.rx = s.lnu.rx
    ∧ (crossPoints s).lnu.tx = s.lnu.tx
    ∧ (crossPoints s).lnu.driver = s.lnu.driver
    ∧ (crossPoints s).lnu.errors = s.lnu.errors
    ∧ (crossPoints s).lnu.masks = s.lnu.masks
    ∧ (crossPoints s).lnu.caseLamp = s.lnu.caseLamp
    ∧ (crossPoints s).lnu.presenceLine = s.lnu.presenceLine := by
  unfold crossPoints; (repeat' split) <;> simp

/-- What `seeTime` leaves unchanged. -/
@[simp] theorem seeTime_frame (x f : Nat) (s : State) :
    (seeTime x f s).tb = s.tb
    ∧ (seeTime x f s).riu = s.riu
    ∧ (seeTime x f s).tiu = s.tiu
    ∧ (seeTime x f s).ct = s.ct
    ∧ (seeTime x f s).tgr = s.tgr
    ∧ (seeTime x f s).usm = s.usm
    ∧ (seeTime x f s).rha = s.rha
    ∧ (seeTime x f s).asc = s.asc
    ∧ (seeTime x f s).lnu = s.lnu
    ∧ (seeTime x f s).spm = s.spm
    ∧ (seeTime x f s).pending = s.pending := by
  simp [seeTime]

/-- What `takeTimeOfDay` leaves unchanged. -/
@[simp] theorem takeTimeOfDay_frame (s : State) :
    (takeTimeOfDay s).tb = s.tb
    ∧ (takeTimeOfDay s).riu = s.riu
    ∧ (takeTimeOfDay s).tiu = s.tiu
    ∧ (takeTimeOfDay s).ct = s.ct
    ∧ (takeTimeOfDay s).tgr = s.tgr
    ∧ (takeTimeOfDay s).usm = s.usm
    ∧ (takeTimeOfDay s).rha = s.rha
    ∧ (takeTimeOfDay s).asc = s.asc
    ∧ (takeTimeOfDay s).spm = s.spm
    ∧ (takeTimeOfDay s).pending = s.pending
    ∧ (takeTimeOfDay s).lnu.address = s.lnu.address
    ∧ (takeTimeOfDay s).lnu.fast = s.lnu.fast
    ∧ (takeTimeOfDay s).lnu.answering = s.lnu.answering
    ∧ (takeTimeOfDay s).lnu.rx = s.lnu.rx
    ∧ (takeTimeOfDay s).lnu.tx = s.lnu.tx
    ∧ (takeTimeOfDay s).lnu.driver = s.lnu.driver
    ∧ (takeTimeOfDay s).lnu.errors = s.lnu.errors
    ∧ (takeTimeOfDay s).lnu.masks = s.lnu.masks
    ∧ (takeTimeOfDay s).lnu.caseLamp = s.lnu.caseLamp
    ∧ (takeTimeOfDay s).lnu.presenceLine = s.lnu.presenceLine := by
  simp [takeTimeOfDay]

/-- What `restartPresence` leaves unchanged. -/
@[simp] theorem restartPresence_frame (s : State) :
    (restartPresence s).tb = s.tb
    ∧ (restartPresence s).riu = s.riu
    ∧ (restartPresence s).tiu = s.tiu
    ∧ (restartPresence s).ct = s.ct
    ∧ (restartPresence s).tgr = s.tgr
    ∧ (restartPresence s).usm = s.usm
    ∧ (restartPresence s).rha = s.rha
    ∧ (restartPresence s).asc = s.asc
    ∧ (restartPresence s).spm = s.spm
    ∧ (restartPresence s).pending = s.pending
    ∧ (restartPresence s).lnu.address = s.lnu.address
    ∧ (restartPresence s).lnu.fast = s.lnu.fast
    ∧ (restartPresence s).lnu.answering = s.lnu.answering
    ∧ (restartPresence s).lnu.rx = s.lnu.rx
    ∧ (restartPresence s).lnu.tx = s.lnu.tx
    ∧ (restartPresence s).lnu.driver = s.lnu.driver
    ∧ (restartPresence s).lnu.errors = s.lnu.errors
    ∧ (restartPresence s).lnu.masks = s.lnu.masks
    ∧ (restartPresence s).lnu.caseLamp = s.lnu.caseLamp
    ∧ (restartPresence s).lnu.handoverLamp = s.lnu.handoverLamp := by
  simp [restartPresence]

/-- What `showPresence` leaves unchanged. -/
@[simp] theorem showPresence_frame (b : Nat) (s : State) :
    (showPresence b s).tb = s.tb
    ∧ (showPresence b s).riu = s.riu
    ∧ (showPresence b s).tiu = s.tiu
    ∧ (showPresence b s).ct = s.ct
    ∧ (showPresence b s).tgr = s.tgr
    ∧ (showPresence b s).usm = s.usm
    ∧ (showPresence b s).rha = s.rha
    ∧ (showPresence b s).asc = s.asc
    ∧ (showPresence b s).spm = s.spm
    ∧ (showPresence b s).pending = s.pending
    ∧ (showPresence b s).lnu.address = s.lnu.address
    ∧ (showPresence b s).lnu.fast = s.lnu.fast
    ∧ (showPresence b s).lnu.answering = s.lnu.answering
    ∧ (showPresence b s).lnu.rx = s.lnu.rx
    ∧ (showPresence b s).lnu.tx = s.lnu.tx
    ∧ (showPresence b s).lnu.driver = s.lnu.driver
    ∧ (showPresence b s).lnu.errors = s.lnu.errors
    ∧ (showPresence b s).lnu.masks = s.lnu.masks
    ∧ (showPresence b s).lnu.caseLamp = s.lnu.caseLamp
    ∧ (showPresence b s).lnu.handoverLamp = s.lnu.handoverLamp := by
  unfold showPresence; (repeat' split) <;> simp

/-- What `bumpVersion` leaves unchanged. -/
@[simp] theorem bumpVersion_frame (s : State) :
    (bumpVersion s).tb = s.tb
    ∧ (bumpVersion s).riu = s.riu
    ∧ (bumpVersion s).tiu = s.tiu
    ∧ (bumpVersion s).ct = s.ct
    ∧ (bumpVersion s).tgr = s.tgr
    ∧ (bumpVersion s).usm = s.usm
    ∧ (bumpVersion s).rha = s.rha
    ∧ (bumpVersion s).asc = s.asc
    ∧ (bumpVersion s).lnu = s.lnu
    ∧ (bumpVersion s).spm = s.spm
    ∧ (bumpVersion s).pending = s.pending := by
  simp [bumpVersion]

/-- What `setTripped` leaves unchanged. -/
@[simp] theorem setTripped_frame (u : UnitId) (s : State) :
    (setTripped u s).tb = s.tb
    ∧ (setTripped u s).riu = s.riu
    ∧ (setTripped u s).tiu = s.tiu
    ∧ (setTripped u s).ct = s.ct
    ∧ (setTripped u s).tgr = s.tgr
    ∧ (setTripped u s).rha = s.rha
    ∧ (setTripped u s).asc = s.asc
    ∧ (setTripped u s).shc = s.shc
    ∧ (setTripped u s).lnu = s.lnu
    ∧ (setTripped u s).spm = s.spm
    ∧ (setTripped u s).pending = s.pending := by
  simp [setTripped]

/-- What `State.setCaseSet` leaves unchanged. -/
@[simp] theorem State.setCaseSet_frame (u : UnitId) (c : CaseSet) (s : State) :
    (s.setCaseSet u c).tb = s.tb
    ∧ (s.setCaseSet u c).riu = s.riu
    ∧ (s.setCaseSet u c).tiu = s.tiu
    ∧ (s.setCaseSet u c).tgr = s.tgr
    ∧ (s.setCaseSet u c).usm = s.usm
    ∧ (s.setCaseSet u c).rha = s.rha
    ∧ (s.setCaseSet u c).asc = s.asc
    ∧ (s.setCaseSet u c).shc = s.shc
    ∧ (s.setCaseSet u c).lnu = s.lnu
    ∧ (s.setCaseSet u c).spm = s.spm
    ∧ (s.setCaseSet u c).pending = s.pending := by
  simp [State.setCaseSet]

/-- What `State.setSlot` leaves unchanged. -/
@[simp] theorem State.setSlot_frame (u : UnitId) (i : SlotId) (c : Option Case) (s : State) :
    (s.setSlot u i c).tb = s.tb
    ∧ (s.setSlot u i c).riu = s.riu
    ∧ (s.setSlot u i c).tiu = s.tiu
    ∧ (s.setSlot u i c).tgr = s.tgr
    ∧ (s.setSlot u i c).usm = s.usm
    ∧ (s.setSlot u i c).rha = s.rha
    ∧ (s.setSlot u i c).asc = s.asc
    ∧ (s.setSlot u i c).shc = s.shc
    ∧ (s.setSlot u i c).lnu = s.lnu
    ∧ (s.setSlot u i c).spm = s.spm
    ∧ (s.setSlot u i c).pending = s.pending := by
  simp [State.setSlot]

/-- What `touchSlot` leaves unchanged. -/
@[simp] theorem touchSlot_frame (u : UnitId) (i : SlotId) (s : State) :
    (touchSlot u i s).tb = s.tb
    ∧ (touchSlot u i s).riu = s.riu
    ∧ (touchSlot u i s).tiu = s.tiu
    ∧ (touchSlot u i s).tgr = s.tgr
    ∧ (touchSlot u i s).usm = s.usm
    ∧ (touchSlot u i s).rha = s.rha
    ∧ (touchSlot u i s).asc = s.asc
    ∧ (touchSlot u i s).shc = s.shc
    ∧ (touchSlot u i s).lnu = s.lnu
    ∧ (touchSlot u i s).spm = s.spm
    ∧ (touchSlot u i s).pending = s.pending := by
  simp [touchSlot]

/-- What `reportUnit` leaves unchanged. -/
@[simp] theorem reportUnit_frame (u : UnitId) (s : State) :
    (reportUnit s u).tb = s.tb
    ∧ (reportUnit s u).riu = s.riu
    ∧ (reportUnit s u).tiu = s.tiu
    ∧ (reportUnit s u).ct = s.ct
    ∧ (reportUnit s u).tgr = s.tgr
    ∧ (reportUnit s u).rha = s.rha
    ∧ (reportUnit s u).asc = s.asc
    ∧ (reportUnit s u).shc = s.shc
    ∧ (reportUnit s u).lnu = s.lnu
    ∧ (reportUnit s u).spm = s.spm
    ∧ (reportUnit s u).pending = s.pending := by
  simp [reportUnit]

/-- What `foldl_reportUnit` leaves unchanged. -/
@[simp] theorem foldl_reportUnit_frame (l : List UnitId) (s : State) :
    (l.foldl reportUnit s).tb = s.tb
    ∧ (l.foldl reportUnit s).riu = s.riu
    ∧ (l.foldl reportUnit s).tiu = s.tiu
    ∧ (l.foldl reportUnit s).ct = s.ct
    ∧ (l.foldl reportUnit s).tgr = s.tgr
    ∧ (l.foldl reportUnit s).rha = s.rha
    ∧ (l.foldl reportUnit s).asc = s.asc
    ∧ (l.foldl reportUnit s).shc = s.shc
    ∧ (l.foldl reportUnit s).lnu = s.lnu
    ∧ (l.foldl reportUnit s).spm = s.spm
    ∧ (l.foldl reportUnit s).pending = s.pending := by
  induction l generalizing s with
  | nil => simp
  | cons x l ih => simp [ih]

/-- What `report` leaves unchanged. -/
@[simp] theorem report_frame (l : List UnitId) (s : State) :
    (report l s).tb = s.tb
    ∧ (report l s).riu = s.riu
    ∧ (report l s).tiu = s.tiu
    ∧ (report l s).ct = s.ct
    ∧ (report l s).tgr = s.tgr
    ∧ (report l s).rha = s.rha
    ∧ (report l s).asc = s.asc
    ∧ (report l s).lnu = s.lnu
    ∧ (report l s).spm = s.spm
    ∧ (report l s).pending = s.pending := by
  simp [report]

/-- What `openCase` leaves unchanged. -/
@[simp] theorem openCase_frame (a : Assertion) (i : SlotId) (s : State) :
    (openCase a i s).tb = s.tb
    ∧ (openCase a i s).riu = s.riu
    ∧ (openCase a i s).tiu = s.tiu
    ∧ (openCase a i s).tgr = s.tgr
    ∧ (openCase a i s).usm = s.usm
    ∧ (openCase a i s).rha = s.rha
    ∧ (openCase a i s).asc = s.asc
    ∧ (openCase a i s).shc = s.shc
    ∧ (openCase a i s).spm = s.spm
    ∧ (openCase a i s).pending = s.pending
    ∧ (openCase a i s).lnu.address = s.lnu.address
    ∧ (openCase a i s).lnu.fast = s.lnu.fast
    ∧ (openCase a i s).lnu.answering = s.lnu.answering
    ∧ (openCase a i s).lnu.rx = s.lnu.rx
    ∧ (openCase a i s).lnu.tx = s.lnu.tx
    ∧ (openCase a i s).lnu.driver = s.lnu.driver
    ∧ (openCase a i s).lnu.errors = s.lnu.errors
    ∧ (openCase a i s).lnu.masks = s.lnu.masks
    ∧ (openCase a i s).lnu.caseLamp = s.lnu.caseLamp
    ∧ (openCase a i s).lnu.handoverLamp = s.lnu.handoverLamp
    ∧ (openCase a i s).lnu.presenceLine = s.lnu.presenceLine := by
  simp [openCase]

/-- What `retripCase` leaves unchanged. -/
@[simp] theorem retripCase_frame (a : Assertion) (i : SlotId) (c : Case) (s : State) :
    (retripCase a i c s).tb = s.tb
    ∧ (retripCase a i c s).riu = s.riu
    ∧ (retripCase a i c s).tiu = s.tiu
    ∧ (retripCase a i c s).tgr = s.tgr
    ∧ (retripCase a i c s).usm = s.usm
    ∧ (retripCase a i c s).rha = s.rha
    ∧ (retripCase a i c s).asc = s.asc
    ∧ (retripCase a i c s).shc = s.shc
    ∧ (retripCase a i c s).spm = s.spm
    ∧ (retripCase a i c s).pending = s.pending
    ∧ (retripCase a i c s).lnu.address = s.lnu.address
    ∧ (retripCase a i c s).lnu.fast = s.lnu.fast
    ∧ (retripCase a i c s).lnu.answering = s.lnu.answering
    ∧ (retripCase a i c s).lnu.rx = s.lnu.rx
    ∧ (retripCase a i c s).lnu.tx = s.lnu.tx
    ∧ (retripCase a i c s).lnu.driver = s.lnu.driver
    ∧ (retripCase a i c s).lnu.errors = s.lnu.errors
    ∧ (retripCase a i c s).lnu.masks = s.lnu.masks
    ∧ (retripCase a i c s).lnu.caseLamp = s.lnu.caseLamp
    ∧ (retripCase a i c s).lnu.handoverLamp = s.lnu.handoverLamp
    ∧ (retripCase a i c s).lnu.presenceLine = s.lnu.presenceLine := by
  simp [retripCase]

/-- What `overflowAssertion` leaves unchanged. -/
@[simp] theorem overflowAssertion_frame (a : Assertion) (s : State) :
    (overflowAssertion a s).tb = s.tb
    ∧ (overflowAssertion a s).riu = s.riu
    ∧ (overflowAssertion a s).tiu = s.tiu
    ∧ (overflowAssertion a s).tgr = s.tgr
    ∧ (overflowAssertion a s).rha = s.rha
    ∧ (overflowAssertion a s).asc = s.asc
    ∧ (overflowAssertion a s).shc = s.shc
    ∧ (overflowAssertion a s).spm = s.spm
    ∧ (overflowAssertion a s).pending = s.pending
    ∧ (overflowAssertion a s).lnu.address = s.lnu.address
    ∧ (overflowAssertion a s).lnu.fast = s.lnu.fast
    ∧ (overflowAssertion a s).lnu.answering = s.lnu.answering
    ∧ (overflowAssertion a s).lnu.rx = s.lnu.rx
    ∧ (overflowAssertion a s).lnu.tx = s.lnu.tx
    ∧ (overflowAssertion a s).lnu.driver = s.lnu.driver
    ∧ (overflowAssertion a s).lnu.errors = s.lnu.errors
    ∧ (overflowAssertion a s).lnu.masks = s.lnu.masks
    ∧ (overflowAssertion a s).lnu.caseLamp = s.lnu.caseLamp
    ∧ (overflowAssertion a s).lnu.handoverLamp = s.lnu.handoverLamp
    ∧ (overflowAssertion a s).lnu.presenceLine = s.lnu.presenceLine := by
  simp only [overflowAssertion]; split <;> simp

/-- What `updateCase` leaves unchanged. -/
@[simp] theorem updateCase_frame (u : UnitId) (n : Nat) (f : Case → Case) (s : State) :
    (updateCase u n f s).tb = s.tb
    ∧ (updateCase u n f s).riu = s.riu
    ∧ (updateCase u n f s).tiu = s.tiu
    ∧ (updateCase u n f s).tgr = s.tgr
    ∧ (updateCase u n f s).usm = s.usm
    ∧ (updateCase u n f s).rha = s.rha
    ∧ (updateCase u n f s).asc = s.asc
    ∧ (updateCase u n f s).shc = s.shc
    ∧ (updateCase u n f s).lnu = s.lnu
    ∧ (updateCase u n f s).spm = s.spm
    ∧ (updateCase u n f s).pending = s.pending := by
  simp [updateCase]

/-- What `setGroup` leaves unchanged. -/
@[simp] theorem setGroup_frame (u : UnitId) (g : Option OpenGroup) (s : State) :
    (setGroup u g s).tb = s.tb
    ∧ (setGroup u g s).riu = s.riu
    ∧ (setGroup u g s).tiu = s.tiu
    ∧ (setGroup u g s).ct = s.ct
    ∧ (setGroup u g s).usm = s.usm
    ∧ (setGroup u g s).rha = s.rha
    ∧ (setGroup u g s).asc = s.asc
    ∧ (setGroup u g s).shc = s.shc
    ∧ (setGroup u g s).lnu = s.lnu
    ∧ (setGroup u g s).spm = s.spm
    ∧ (setGroup u g s).pending = s.pending := by
  simp [setGroup]

/-- What `closeGroup` leaves unchanged. -/
@[simp] theorem closeGroup_frame (u : UnitId) (r : CloseReason) (s : State) :
    (closeGroup u r s).tb = s.tb
    ∧ (closeGroup u r s).riu = s.riu
    ∧ (closeGroup u r s).tiu = s.tiu
    ∧ (closeGroup u r s).usm = s.usm
    ∧ (closeGroup u r s).rha = s.rha
    ∧ (closeGroup u r s).asc = s.asc
    ∧ (closeGroup u r s).shc = s.shc
    ∧ (closeGroup u r s).spm = s.spm
    ∧ (closeGroup u r s).pending = s.pending
    ∧ (closeGroup u r s).lnu.address = s.lnu.address
    ∧ (closeGroup u r s).lnu.fast = s.lnu.fast
    ∧ (closeGroup u r s).lnu.answering = s.lnu.answering
    ∧ (closeGroup u r s).lnu.rx = s.lnu.rx
    ∧ (closeGroup u r s).lnu.tx = s.lnu.tx
    ∧ (closeGroup u r s).lnu.driver = s.lnu.driver
    ∧ (closeGroup u r s).lnu.errors = s.lnu.errors
    ∧ (closeGroup u r s).lnu.masks = s.lnu.masks
    ∧ (closeGroup u r s).lnu.caseLamp = s.lnu.caseLamp
    ∧ (closeGroup u r s).lnu.handoverLamp = s.lnu.handoverLamp
    ∧ (closeGroup u r s).lnu.presenceLine = s.lnu.presenceLine := by
  unfold closeGroup; (repeat' split) <;> simp

/-- What `openGroup` leaves unchanged. -/
@[simp] theorem openGroup_frame (a : Assertion) (n : Nat) (s : State) :
    (openGroup a n s).tb = s.tb
    ∧ (openGroup a n s).riu = s.riu
    ∧ (openGroup a n s).tiu = s.tiu
    ∧ (openGroup a n s).usm = s.usm
    ∧ (openGroup a n s).rha = s.rha
    ∧ (openGroup a n s).asc = s.asc
    ∧ (openGroup a n s).shc = s.shc
    ∧ (openGroup a n s).lnu = s.lnu
    ∧ (openGroup a n s).spm = s.spm
    ∧ (openGroup a n s).pending = s.pending := by
  simp [openGroup]

/-- What `joinGroup` leaves unchanged. -/
@[simp] theorem joinGroup_frame (a : Assertion) (n : Nat) (g : OpenGroup) (s : State) :
    (joinGroup a n g s).tb = s.tb
    ∧ (joinGroup a n g s).riu = s.riu
    ∧ (joinGroup a n g s).tiu = s.tiu
    ∧ (joinGroup a n g s).usm = s.usm
    ∧ (joinGroup a n g s).rha = s.rha
    ∧ (joinGroup a n g s).asc = s.asc
    ∧ (joinGroup a n g s).shc = s.shc
    ∧ (joinGroup a n g s).lnu = s.lnu
    ∧ (joinGroup a n g s).spm = s.spm
    ∧ (joinGroup a n g s).pending = s.pending := by
  simp only [joinGroup]; split <;> simp

/-- What `tripIfStops` leaves unchanged. -/
@[simp] theorem tripIfStops_frame (a : Assertion) (s : State) :
    (tripIfStops a s).tb = s.tb
    ∧ (tripIfStops a s).riu = s.riu
    ∧ (tripIfStops a s).tiu = s.tiu
    ∧ (tripIfStops a s).ct = s.ct
    ∧ (tripIfStops a s).tgr = s.tgr
    ∧ (tripIfStops a s).rha = s.rha
    ∧ (tripIfStops a s).asc = s.asc
    ∧ (tripIfStops a s).shc = s.shc
    ∧ (tripIfStops a s).lnu = s.lnu
    ∧ (tripIfStops a s).spm = s.spm
    ∧ (tripIfStops a s).pending = s.pending := by
  unfold tripIfStops; (repeat' split) <;> simp

/-- What `placeByOpening` leaves unchanged. -/
@[simp] theorem placeByOpening_frame (a : Assertion) (n : Nat) (s : State) :
    (placeByOpening a n s).tb = s.tb
    ∧ (placeByOpening a n s).riu = s.riu
    ∧ (placeByOpening a n s).tiu = s.tiu
    ∧ (placeByOpening a n s).shc = s.shc
    ∧ (placeByOpening a n s).spm = s.spm
    ∧ (placeByOpening a n s).pending = s.pending
    ∧ (placeByOpening a n s).lnu.address = s.lnu.address
    ∧ (placeByOpening a n s).lnu.fast = s.lnu.fast
    ∧ (placeByOpening a n s).lnu.answering = s.lnu.answering
    ∧ (placeByOpening a n s).lnu.rx = s.lnu.rx
    ∧ (placeByOpening a n s).lnu.tx = s.lnu.tx
    ∧ (placeByOpening a n s).lnu.driver = s.lnu.driver
    ∧ (placeByOpening a n s).lnu.errors = s.lnu.errors
    ∧ (placeByOpening a n s).lnu.masks = s.lnu.masks
    ∧ (placeByOpening a n s).lnu.caseLamp = s.lnu.caseLamp
    ∧ (placeByOpening a n s).lnu.handoverLamp = s.lnu.handoverLamp
    ∧ (placeByOpening a n s).lnu.presenceLine = s.lnu.presenceLine := by
  simp [placeByOpening]

/-- What `closeIfDue` leaves unchanged. -/
@[simp] theorem closeIfDue_frame (u : UnitId) (s : State) :
    (closeIfDue u s).tb = s.tb
    ∧ (closeIfDue u s).riu = s.riu
    ∧ (closeIfDue u s).tiu = s.tiu
    ∧ (closeIfDue u s).usm = s.usm
    ∧ (closeIfDue u s).rha = s.rha
    ∧ (closeIfDue u s).asc = s.asc
    ∧ (closeIfDue u s).shc = s.shc
    ∧ (closeIfDue u s).spm = s.spm
    ∧ (closeIfDue u s).pending = s.pending
    ∧ (closeIfDue u s).lnu.address = s.lnu.address
    ∧ (closeIfDue u s).lnu.fast = s.lnu.fast
    ∧ (closeIfDue u s).lnu.answering = s.lnu.answering
    ∧ (closeIfDue u s).lnu.rx = s.lnu.rx
    ∧ (closeIfDue u s).lnu.tx = s.lnu.tx
    ∧ (closeIfDue u s).lnu.driver = s.lnu.driver
    ∧ (closeIfDue u s).lnu.errors = s.lnu.errors
    ∧ (closeIfDue u s).lnu.masks = s.lnu.masks
    ∧ (closeIfDue u s).lnu.caseLamp = s.lnu.caseLamp
    ∧ (closeIfDue u s).lnu.handoverLamp = s.lnu.handoverLamp
    ∧ (closeIfDue u s).lnu.presenceLine = s.lnu.presenceLine := by
  unfold closeIfDue; (repeat' split) <;> simp

/-- What `placeCase` leaves unchanged. -/
@[simp] theorem placeCase_frame (a : Assertion) (n h : Nat) (s : State) :
    (placeCase a n h s).tb = s.tb
    ∧ (placeCase a n h s).riu = s.riu
    ∧ (placeCase a n h s).tiu = s.tiu
    ∧ (placeCase a n h s).shc = s.shc
    ∧ (placeCase a n h s).spm = s.spm
    ∧ (placeCase a n h s).pending = s.pending
    ∧ (placeCase a n h s).lnu.address = s.lnu.address
    ∧ (placeCase a n h s).lnu.fast = s.lnu.fast
    ∧ (placeCase a n h s).lnu.answering = s.lnu.answering
    ∧ (placeCase a n h s).lnu.rx = s.lnu.rx
    ∧ (placeCase a n h s).lnu.tx = s.lnu.tx
    ∧ (placeCase a n h s).lnu.driver = s.lnu.driver
    ∧ (placeCase a n h s).lnu.errors = s.lnu.errors
    ∧ (placeCase a n h s).lnu.masks = s.lnu.masks
    ∧ (placeCase a n h s).lnu.caseLamp = s.lnu.caseLamp
    ∧ (placeCase a n h s).lnu.handoverLamp = s.lnu.handoverLamp
    ∧ (placeCase a n h s).lnu.presenceLine = s.lnu.presenceLine := by
  unfold placeCase; (repeat' split) <;> simp

/-- What `assertionResult` leaves unchanged. -/
@[simp] theorem assertionResult_frame (a : Assertion) (s : State) :
    (assertionResult a s).tb = s.tb
    ∧ (assertionResult a s).riu = s.riu
    ∧ (assertionResult a s).tiu = s.tiu
    ∧ (assertionResult a s).shc = s.shc
    ∧ (assertionResult a s).spm = s.spm
    ∧ (assertionResult a s).pending = s.pending
    ∧ (assertionResult a s).lnu.address = s.lnu.address
    ∧ (assertionResult a s).lnu.fast = s.lnu.fast
    ∧ (assertionResult a s).lnu.answering = s.lnu.answering
    ∧ (assertionResult a s).lnu.rx = s.lnu.rx
    ∧ (assertionResult a s).lnu.tx = s.lnu.tx
    ∧ (assertionResult a s).lnu.driver = s.lnu.driver
    ∧ (assertionResult a s).lnu.errors = s.lnu.errors
    ∧ (assertionResult a s).lnu.masks = s.lnu.masks
    ∧ (assertionResult a s).lnu.caseLamp = s.lnu.caseLamp
    ∧ (assertionResult a s).lnu.handoverLamp = s.lnu.handoverLamp
    ∧ (assertionResult a s).lnu.presenceLine = s.lnu.presenceLine := by
  simp only [assertionResult]; (repeat' split) <;> simp

/-- What `takeAssertion` leaves unchanged. -/
@[simp] theorem takeAssertion_frame (a : Assertion) (s : State) :
    (takeAssertion a s).tb = s.tb
    ∧ (takeAssertion a s).riu = s.riu
    ∧ (takeAssertion a s).tiu = s.tiu
    ∧ (takeAssertion a s).spm = s.spm
    ∧ (takeAssertion a s).pending = s.pending
    ∧ (takeAssertion a s).lnu.address = s.lnu.address
    ∧ (takeAssertion a s).lnu.fast = s.lnu.fast
    ∧ (takeAssertion a s).lnu.answering = s.lnu.answering
    ∧ (takeAssertion a s).lnu.rx = s.lnu.rx
    ∧ (takeAssertion a s).lnu.tx = s.lnu.tx
    ∧ (takeAssertion a s).lnu.driver = s.lnu.driver
    ∧ (takeAssertion a s).lnu.errors = s.lnu.errors
    ∧ (takeAssertion a s).lnu.masks = s.lnu.masks
    ∧ (takeAssertion a s).lnu.handoverLamp = s.lnu.handoverLamp
    ∧ (takeAssertion a s).lnu.presenceLine = s.lnu.presenceLine := by
  simp [takeAssertion]

/-- What `takeRelease` leaves unchanged. -/
@[simp] theorem takeRelease_frame (u : UnitId) (i : InputId) (t : Option Stamp) (s : State) :
    (takeRelease u i t s).tb = s.tb
    ∧ (takeRelease u i t s).riu = s.riu
    ∧ (takeRelease u i t s).tiu = s.tiu
    ∧ (takeRelease u i t s).tgr = s.tgr
    ∧ (takeRelease u i t s).rha = s.rha
    ∧ (takeRelease u i t s).asc = s.asc
    ∧ (takeRelease u i t s).spm = s.spm
    ∧ (takeRelease u i t s).pending = s.pending
    ∧ (takeRelease u i t s).lnu.address = s.lnu.address
    ∧ (takeRelease u i t s).lnu.fast = s.lnu.fast
    ∧ (takeRelease u i t s).lnu.answering = s.lnu.answering
    ∧ (takeRelease u i t s).lnu.rx = s.lnu.rx
    ∧ (takeRelease u i t s).lnu.tx = s.lnu.tx
    ∧ (takeRelease u i t s).lnu.driver = s.lnu.driver
    ∧ (takeRelease u i t s).lnu.errors = s.lnu.errors
    ∧ (takeRelease u i t s).lnu.masks = s.lnu.masks
    ∧ (takeRelease u i t s).lnu.handoverLamp = s.lnu.handoverLamp
    ∧ (takeRelease u i t s).lnu.presenceLine = s.lnu.presenceLine := by
  unfold takeRelease; (repeat' split) <;> simp

/-- What `selectionChanged` leaves unchanged. -/
@[simp] theorem selectionChanged_frame (o n : Option SourceId) (s : State) :
    (selectionChanged o n s).riu = s.riu
    ∧ (selectionChanged o n s).tiu = s.tiu
    ∧ (selectionChanged o n s).ct = s.ct
    ∧ (selectionChanged o n s).tgr = s.tgr
    ∧ (selectionChanged o n s).usm = s.usm
    ∧ (selectionChanged o n s).rha = s.rha
    ∧ (selectionChanged o n s).asc = s.asc
    ∧ (selectionChanged o n s).shc = s.shc
    ∧ (selectionChanged o n s).spm = s.spm
    ∧ (selectionChanged o n s).pending = s.pending
    ∧ (selectionChanged o n s).lnu.address = s.lnu.address
    ∧ (selectionChanged o n s).lnu.fast = s.lnu.fast
    ∧ (selectionChanged o n s).lnu.answering = s.lnu.answering
    ∧ (selectionChanged o n s).lnu.rx = s.lnu.rx
    ∧ (selectionChanged o n s).lnu.tx = s.lnu.tx
    ∧ (selectionChanged o n s).lnu.driver = s.lnu.driver
    ∧ (selectionChanged o n s).lnu.errors = s.lnu.errors
    ∧ (selectionChanged o n s).lnu.masks = s.lnu.masks
    ∧ (selectionChanged o n s).lnu.caseLamp = s.lnu.caseLamp
    ∧ (selectionChanged o n s).lnu.handoverLamp = s.lnu.handoverLamp
    ∧ (selectionChanged o n s).lnu.presenceLine = s.lnu.presenceLine := by
  simp only [selectionChanged]; (repeat' split) <;> simp

/-- What `evalSelection` leaves unchanged. -/
@[simp] theorem evalSelection_frame (s : State) :
    (evalSelection s).tiu = s.tiu
    ∧ (evalSelection s).ct = s.ct
    ∧ (evalSelection s).tgr = s.tgr
    ∧ (evalSelection s).usm = s.usm
    ∧ (evalSelection s).rha = s.rha
    ∧ (evalSelection s).asc = s.asc
    ∧ (evalSelection s).shc = s.shc
    ∧ (evalSelection s).spm = s.spm
    ∧ (evalSelection s).pending = s.pending
    ∧ (evalSelection s).lnu.address = s.lnu.address
    ∧ (evalSelection s).lnu.fast = s.lnu.fast
    ∧ (evalSelection s).lnu.answering = s.lnu.answering
    ∧ (evalSelection s).lnu.rx = s.lnu.rx
    ∧ (evalSelection s).lnu.tx = s.lnu.tx
    ∧ (evalSelection s).lnu.driver = s.lnu.driver
    ∧ (evalSelection s).lnu.errors = s.lnu.errors
    ∧ (evalSelection s).lnu.masks = s.lnu.masks
    ∧ (evalSelection s).lnu.caseLamp = s.lnu.caseLamp
    ∧ (evalSelection s).lnu.handoverLamp = s.lnu.handoverLamp
    ∧ (evalSelection s).lnu.presenceLine = s.lnu.presenceLine := by
  simp only [evalSelection]; split <;> simp

/-- What `stepPhase` leaves unchanged. -/
@[simp] theorem stepPhase_frame (e : Int) (s : State) :
    (stepPhase e s).riu = s.riu
    ∧ (stepPhase e s).tiu = s.tiu
    ∧ (stepPhase e s).ct = s.ct
    ∧ (stepPhase e s).tgr = s.tgr
    ∧ (stepPhase e s).usm = s.usm
    ∧ (stepPhase e s).rha = s.rha
    ∧ (stepPhase e s).asc = s.asc
    ∧ (stepPhase e s).spm = s.spm
    ∧ (stepPhase e s).pending = s.pending
    ∧ (stepPhase e s).lnu.address = s.lnu.address
    ∧ (stepPhase e s).lnu.fast = s.lnu.fast
    ∧ (stepPhase e s).lnu.answering = s.lnu.answering
    ∧ (stepPhase e s).lnu.rx = s.lnu.rx
    ∧ (stepPhase e s).lnu.tx = s.lnu.tx
    ∧ (stepPhase e s).lnu.driver = s.lnu.driver
    ∧ (stepPhase e s).lnu.errors = s.lnu.errors
    ∧ (stepPhase e s).lnu.masks = s.lnu.masks
    ∧ (stepPhase e s).lnu.caseLamp = s.lnu.caseLamp
    ∧ (stepPhase e s).lnu.presenceLine = s.lnu.presenceLine := by
  simp [stepPhase]

/-- What `lockedUncertainty` leaves unchanged. -/
@[simp] theorem lockedUncertainty_frame (e : Int) (s : State) :
    (lockedUncertainty e s).riu = s.riu
    ∧ (lockedUncertainty e s).tiu = s.tiu
    ∧ (lockedUncertainty e s).ct = s.ct
    ∧ (lockedUncertainty e s).tgr = s.tgr
    ∧ (lockedUncertainty e s).usm = s.usm
    ∧ (lockedUncertainty e s).rha = s.rha
    ∧ (lockedUncertainty e s).asc = s.asc
    ∧ (lockedUncertainty e s).shc = s.shc
    ∧ (lockedUncertainty e s).spm = s.spm
    ∧ (lockedUncertainty e s).pending = s.pending
    ∧ (lockedUncertainty e s).lnu.address = s.lnu.address
    ∧ (lockedUncertainty e s).lnu.fast = s.lnu.fast
    ∧ (lockedUncertainty e s).lnu.answering = s.lnu.answering
    ∧ (lockedUncertainty e s).lnu.rx = s.lnu.rx
    ∧ (lockedUncertainty e s).lnu.tx = s.lnu.tx
    ∧ (lockedUncertainty e s).lnu.driver = s.lnu.driver
    ∧ (lockedUncertainty e s).lnu.errors = s.lnu.errors
    ∧ (lockedUncertainty e s).lnu.masks = s.lnu.masks
    ∧ (lockedUncertainty e s).lnu.caseLamp = s.lnu.caseLamp
    ∧ (lockedUncertainty e s).lnu.handoverLamp = s.lnu.handoverLamp
    ∧ (lockedUncertainty e s).lnu.presenceLine = s.lnu.presenceLine := by
  unfold lockedUncertainty; (repeat' split) <;> simp

/-- What `takeOutlier` leaves unchanged. -/
@[simp] theorem takeOutlier_frame (e : Int) (s : State) :
    (takeOutlier e s).riu = s.riu
    ∧ (takeOutlier e s).tiu = s.tiu
    ∧ (takeOutlier e s).ct = s.ct
    ∧ (takeOutlier e s).tgr = s.tgr
    ∧ (takeOutlier e s).usm = s.usm
    ∧ (takeOutlier e s).rha = s.rha
    ∧ (takeOutlier e s).asc = s.asc
    ∧ (takeOutlier e s).spm = s.spm
    ∧ (takeOutlier e s).pending = s.pending
    ∧ (takeOutlier e s).lnu.address = s.lnu.address
    ∧ (takeOutlier e s).lnu.fast = s.lnu.fast
    ∧ (takeOutlier e s).lnu.answering = s.lnu.answering
    ∧ (takeOutlier e s).lnu.rx = s.lnu.rx
    ∧ (takeOutlier e s).lnu.tx = s.lnu.tx
    ∧ (takeOutlier e s).lnu.driver = s.lnu.driver
    ∧ (takeOutlier e s).lnu.errors = s.lnu.errors
    ∧ (takeOutlier e s).lnu.masks = s.lnu.masks
    ∧ (takeOutlier e s).lnu.caseLamp = s.lnu.caseLamp
    ∧ (takeOutlier e s).lnu.presenceLine = s.lnu.presenceLine := by
  simp only [takeOutlier]; split <;> simp

/-- What `countLock` leaves unchanged. -/
@[simp] theorem countLock_frame (e : Int) (s : State) :
    (countLock e s).riu = s.riu
    ∧ (countLock e s).tiu = s.tiu
    ∧ (countLock e s).ct = s.ct
    ∧ (countLock e s).tgr = s.tgr
    ∧ (countLock e s).usm = s.usm
    ∧ (countLock e s).rha = s.rha
    ∧ (countLock e s).asc = s.asc
    ∧ (countLock e s).shc = s.shc
    ∧ (countLock e s).spm = s.spm
    ∧ (countLock e s).pending = s.pending
    ∧ (countLock e s).lnu.address = s.lnu.address
    ∧ (countLock e s).lnu.fast = s.lnu.fast
    ∧ (countLock e s).lnu.answering = s.lnu.answering
    ∧ (countLock e s).lnu.rx = s.lnu.rx
    ∧ (countLock e s).lnu.tx = s.lnu.tx
    ∧ (countLock e s).lnu.driver = s.lnu.driver
    ∧ (countLock e s).lnu.errors = s.lnu.errors
    ∧ (countLock e s).lnu.masks = s.lnu.masks
    ∧ (countLock e s).lnu.caseLamp = s.lnu.caseLamp
    ∧ (countLock e s).lnu.handoverLamp = s.lnu.handoverLamp
    ∧ (countLock e s).lnu.presenceLine = s.lnu.presenceLine := by
  unfold countLock; (repeat' split) <;> simp

/-- What `takeInlier` leaves unchanged. -/
@[simp] theorem takeInlier_frame (e : Int) (s : State) :
    (takeInlier e s).riu = s.riu
    ∧ (takeInlier e s).tiu = s.tiu
    ∧ (takeInlier e s).ct = s.ct
    ∧ (takeInlier e s).tgr = s.tgr
    ∧ (takeInlier e s).usm = s.usm
    ∧ (takeInlier e s).rha = s.rha
    ∧ (takeInlier e s).asc = s.asc
    ∧ (takeInlier e s).shc = s.shc
    ∧ (takeInlier e s).spm = s.spm
    ∧ (takeInlier e s).pending = s.pending
    ∧ (takeInlier e s).lnu.address = s.lnu.address
    ∧ (takeInlier e s).lnu.fast = s.lnu.fast
    ∧ (takeInlier e s).lnu.answering = s.lnu.answering
    ∧ (takeInlier e s).lnu.rx = s.lnu.rx
    ∧ (takeInlier e s).lnu.tx = s.lnu.tx
    ∧ (takeInlier e s).lnu.driver = s.lnu.driver
    ∧ (takeInlier e s).lnu.errors = s.lnu.errors
    ∧ (takeInlier e s).lnu.masks = s.lnu.masks
    ∧ (takeInlier e s).lnu.caseLamp = s.lnu.caseLamp
    ∧ (takeInlier e s).lnu.handoverLamp = s.lnu.handoverLamp
    ∧ (takeInlier e s).lnu.presenceLine = s.lnu.presenceLine := by
  simp [takeInlier]

/-- What `selectedPulse` leaves unchanged. -/
@[simp] theorem selectedPulse_frame (e : Int) (s : State) :
    (selectedPulse e s).riu = s.riu
    ∧ (selectedPulse e s).tiu = s.tiu
    ∧ (selectedPulse e s).ct = s.ct
    ∧ (selectedPulse e s).tgr = s.tgr
    ∧ (selectedPulse e s).usm = s.usm
    ∧ (selectedPulse e s).rha = s.rha
    ∧ (selectedPulse e s).asc = s.asc
    ∧ (selectedPulse e s).spm = s.spm
    ∧ (selectedPulse e s).pending = s.pending
    ∧ (selectedPulse e s).lnu.address = s.lnu.address
    ∧ (selectedPulse e s).lnu.fast = s.lnu.fast
    ∧ (selectedPulse e s).lnu.answering = s.lnu.answering
    ∧ (selectedPulse e s).lnu.rx = s.lnu.rx
    ∧ (selectedPulse e s).lnu.tx = s.lnu.tx
    ∧ (selectedPulse e s).lnu.driver = s.lnu.driver
    ∧ (selectedPulse e s).lnu.errors = s.lnu.errors
    ∧ (selectedPulse e s).lnu.masks = s.lnu.masks
    ∧ (selectedPulse e s).lnu.caseLamp = s.lnu.caseLamp
    ∧ (selectedPulse e s).lnu.presenceLine = s.lnu.presenceLine := by
  unfold selectedPulse; (repeat' split) <;> simp

/-- What `acceptPulse` leaves unchanged. -/
@[simp] theorem acceptPulse_frame (x : SourceId) (s : State) :
    (acceptPulse x s).tiu = s.tiu
    ∧ (acceptPulse x s).ct = s.ct
    ∧ (acceptPulse x s).tgr = s.tgr
    ∧ (acceptPulse x s).usm = s.usm
    ∧ (acceptPulse x s).rha = s.rha
    ∧ (acceptPulse x s).asc = s.asc
    ∧ (acceptPulse x s).spm = s.spm
    ∧ (acceptPulse x s).pending = s.pending
    ∧ (acceptPulse x s).lnu.address = s.lnu.address
    ∧ (acceptPulse x s).lnu.fast = s.lnu.fast
    ∧ (acceptPulse x s).lnu.answering = s.lnu.answering
    ∧ (acceptPulse x s).lnu.rx = s.lnu.rx
    ∧ (acceptPulse x s).lnu.tx = s.lnu.tx
    ∧ (acceptPulse x s).lnu.driver = s.lnu.driver
    ∧ (acceptPulse x s).lnu.errors = s.lnu.errors
    ∧ (acceptPulse x s).lnu.masks = s.lnu.masks
    ∧ (acceptPulse x s).lnu.caseLamp = s.lnu.caseLamp
    ∧ (acceptPulse x s).lnu.presenceLine = s.lnu.presenceLine := by
  simp only [acceptPulse]; split <;> simp

/-- What `boundaryPeriod` leaves unchanged. -/
@[simp] theorem boundaryPeriod_frame (s : State) :
    (boundaryPeriod s).riu = s.riu
    ∧ (boundaryPeriod s).tiu = s.tiu
    ∧ (boundaryPeriod s).ct = s.ct
    ∧ (boundaryPeriod s).tgr = s.tgr
    ∧ (boundaryPeriod s).usm = s.usm
    ∧ (boundaryPeriod s).rha = s.rha
    ∧ (boundaryPeriod s).asc = s.asc
    ∧ (boundaryPeriod s).spm = s.spm
    ∧ (boundaryPeriod s).pending = s.pending
    ∧ (boundaryPeriod s).lnu.address = s.lnu.address
    ∧ (boundaryPeriod s).lnu.fast = s.lnu.fast
    ∧ (boundaryPeriod s).lnu.answering = s.lnu.answering
    ∧ (boundaryPeriod s).lnu.rx = s.lnu.rx
    ∧ (boundaryPeriod s).lnu.tx = s.lnu.tx
    ∧ (boundaryPeriod s).lnu.driver = s.lnu.driver
    ∧ (boundaryPeriod s).lnu.errors = s.lnu.errors
    ∧ (boundaryPeriod s).lnu.masks = s.lnu.masks
    ∧ (boundaryPeriod s).lnu.caseLamp = s.lnu.caseLamp
    ∧ (boundaryPeriod s).lnu.presenceLine = s.lnu.presenceLine := by
  simp only [boundaryPeriod]; split <;> simp

/-- What `holdBackEndPeriod` leaves unchanged. -/
@[simp] theorem holdBackEndPeriod_frame (s : State) :
    (holdBackEndPeriod s).riu = s.riu
    ∧ (holdBackEndPeriod s).tiu = s.tiu
    ∧ (holdBackEndPeriod s).ct = s.ct
    ∧ (holdBackEndPeriod s).tgr = s.tgr
    ∧ (holdBackEndPeriod s).usm = s.usm
    ∧ (holdBackEndPeriod s).rha = s.rha
    ∧ (holdBackEndPeriod s).asc = s.asc
    ∧ (holdBackEndPeriod s).spm = s.spm
    ∧ (holdBackEndPeriod s).pending = s.pending
    ∧ (holdBackEndPeriod s).lnu.address = s.lnu.address
    ∧ (holdBackEndPeriod s).lnu.fast = s.lnu.fast
    ∧ (holdBackEndPeriod s).lnu.answering = s.lnu.answering
    ∧ (holdBackEndPeriod s).lnu.rx = s.lnu.rx
    ∧ (holdBackEndPeriod s).lnu.tx = s.lnu.tx
    ∧ (holdBackEndPeriod s).lnu.driver = s.lnu.driver
    ∧ (holdBackEndPeriod s).lnu.errors = s.lnu.errors
    ∧ (holdBackEndPeriod s).lnu.masks = s.lnu.masks
    ∧ (holdBackEndPeriod s).lnu.caseLamp = s.lnu.caseLamp
    ∧ (holdBackEndPeriod s).lnu.presenceLine = s.lnu.presenceLine := by
  simp [holdBackEndPeriod]

/-- What `watchStep` leaves unchanged. -/
@[simp] theorem watchStep_frame (s : State) :
    (watchStep s).riu = s.riu
    ∧ (watchStep s).tiu = s.tiu
    ∧ (watchStep s).ct = s.ct
    ∧ (watchStep s).tgr = s.tgr
    ∧ (watchStep s).usm = s.usm
    ∧ (watchStep s).rha = s.rha
    ∧ (watchStep s).asc = s.asc
    ∧ (watchStep s).shc = s.shc
    ∧ (watchStep s).lnu = s.lnu
    ∧ (watchStep s).spm = s.spm
    ∧ (watchStep s).pending = s.pending := by
  unfold watchStep; (repeat' split) <;> simp

/-- What `warmTimebase` leaves unchanged. -/
@[simp] theorem warmTimebase_frame (d : Nat) (s : State) :
    (warmTimebase d s).tiu = s.tiu
    ∧ (warmTimebase d s).ct = s.ct
    ∧ (warmTimebase d s).tgr = s.tgr
    ∧ (warmTimebase d s).usm = s.usm
    ∧ (warmTimebase d s).rha = s.rha
    ∧ (warmTimebase d s).asc = s.asc
    ∧ (warmTimebase d s).shc = s.shc
    ∧ (warmTimebase d s).spm = s.spm
    ∧ (warmTimebase d s).pending = s.pending
    ∧ (warmTimebase d s).lnu.address = s.lnu.address
    ∧ (warmTimebase d s).lnu.fast = s.lnu.fast
    ∧ (warmTimebase d s).lnu.answering = s.lnu.answering
    ∧ (warmTimebase d s).lnu.rx = s.lnu.rx
    ∧ (warmTimebase d s).lnu.tx = s.lnu.tx
    ∧ (warmTimebase d s).lnu.driver = s.lnu.driver
    ∧ (warmTimebase d s).lnu.errors = s.lnu.errors
    ∧ (warmTimebase d s).lnu.masks = s.lnu.masks
    ∧ (warmTimebase d s).lnu.caseLamp = s.lnu.caseLamp
    ∧ (warmTimebase d s).lnu.handoverLamp = s.lnu.handoverLamp
    ∧ (warmTimebase d s).lnu.presenceLine = s.lnu.presenceLine := by
  simp only [warmTimebase]; split <;> simp

/-- What `resetT` leaves unchanged. -/
@[simp] theorem resetT_frame (s : State) :
    (resetT s).tiu = s.tiu
    ∧ (resetT s).ct = s.ct
    ∧ (resetT s).tgr = s.tgr
    ∧ (resetT s).usm = s.usm
    ∧ (resetT s).rha = s.rha
    ∧ (resetT s).asc = s.asc
    ∧ (resetT s).shc = s.shc
    ∧ (resetT s).spm = s.spm
    ∧ (resetT s).pending = s.pending
    ∧ (resetT s).lnu.address = s.lnu.address
    ∧ (resetT s).lnu.fast = s.lnu.fast
    ∧ (resetT s).lnu.answering = s.lnu.answering
    ∧ (resetT s).lnu.rx = s.lnu.rx
    ∧ (resetT s).lnu.tx = s.lnu.tx
    ∧ (resetT s).lnu.driver = s.lnu.driver
    ∧ (resetT s).lnu.errors = s.lnu.errors
    ∧ (resetT s).lnu.masks = s.lnu.masks
    ∧ (resetT s).lnu.caseLamp = s.lnu.caseLamp
    ∧ (resetT s).lnu.handoverLamp = s.lnu.handoverLamp
    ∧ (resetT s).lnu.presenceLine = s.lnu.presenceLine := by
  simp only [resetT]; split <;> simp

/-- What `handOnRestart` leaves unchanged. -/
@[simp] theorem handOnRestart_frame (t : Stamp) (x : UnitId × InputId) (s : State) :
    (handOnRestart t s x).tb = s.tb
    ∧ (handOnRestart t s x).riu = s.riu
    ∧ (handOnRestart t s x).tiu = s.tiu
    ∧ (handOnRestart t s x).spm = s.spm
    ∧ (handOnRestart t s x).pending = s.pending
    ∧ (handOnRestart t s x).lnu.address = s.lnu.address
    ∧ (handOnRestart t s x).lnu.fast = s.lnu.fast
    ∧ (handOnRestart t s x).lnu.answering = s.lnu.answering
    ∧ (handOnRestart t s x).lnu.rx = s.lnu.rx
    ∧ (handOnRestart t s x).lnu.tx = s.lnu.tx
    ∧ (handOnRestart t s x).lnu.driver = s.lnu.driver
    ∧ (handOnRestart t s x).lnu.errors = s.lnu.errors
    ∧ (handOnRestart t s x).lnu.masks = s.lnu.masks
    ∧ (handOnRestart t s x).lnu.handoverLamp = s.lnu.handoverLamp
    ∧ (handOnRestart t s x).lnu.presenceLine = s.lnu.presenceLine := by
  simp only [handOnRestart]; (repeat' split) <;> simp

/-- What `foldl_handOnRestart` leaves unchanged. -/
@[simp] theorem foldl_handOnRestart_frame (t : Stamp) (l : List (UnitId × InputId)) (s : State) :
    (l.foldl (handOnRestart t) s).tb = s.tb
    ∧ (l.foldl (handOnRestart t) s).riu = s.riu
    ∧ (l.foldl (handOnRestart t) s).tiu = s.tiu
    ∧ (l.foldl (handOnRestart t) s).spm = s.spm
    ∧ (l.foldl (handOnRestart t) s).pending = s.pending
    ∧ (l.foldl (handOnRestart t) s).lnu.address = s.lnu.address
    ∧ (l.foldl (handOnRestart t) s).lnu.fast = s.lnu.fast
    ∧ (l.foldl (handOnRestart t) s).lnu.answering = s.lnu.answering
    ∧ (l.foldl (handOnRestart t) s).lnu.rx = s.lnu.rx
    ∧ (l.foldl (handOnRestart t) s).lnu.tx = s.lnu.tx
    ∧ (l.foldl (handOnRestart t) s).lnu.driver = s.lnu.driver
    ∧ (l.foldl (handOnRestart t) s).lnu.errors = s.lnu.errors
    ∧ (l.foldl (handOnRestart t) s).lnu.masks = s.lnu.masks
    ∧ (l.foldl (handOnRestart t) s).lnu.handoverLamp = s.lnu.handoverLamp
    ∧ (l.foldl (handOnRestart t) s).lnu.presenceLine = s.lnu.presenceLine := by
  induction l generalizing s with
  | nil => simp
  | cons x l ih => simp [ih]

/-- What `restartInputs` leaves unchanged. -/
@[simp] theorem restartInputs_frame (s : State) :
    (restartInputs s).tb = s.tb
    ∧ (restartInputs s).riu = s.riu
    ∧ (restartInputs s).spm = s.spm
    ∧ (restartInputs s).pending = s.pending
    ∧ (restartInputs s).lnu.address = s.lnu.address
    ∧ (restartInputs s).lnu.fast = s.lnu.fast
    ∧ (restartInputs s).lnu.answering = s.lnu.answering
    ∧ (restartInputs s).lnu.rx = s.lnu.rx
    ∧ (restartInputs s).lnu.tx = s.lnu.tx
    ∧ (restartInputs s).lnu.driver = s.lnu.driver
    ∧ (restartInputs s).lnu.errors = s.lnu.errors
    ∧ (restartInputs s).lnu.masks = s.lnu.masks
    ∧ (restartInputs s).lnu.handoverLamp = s.lnu.handoverLamp
    ∧ (restartInputs s).lnu.presenceLine = s.lnu.presenceLine := by
  simp [restartInputs]

/-- What `resetC` leaves unchanged. -/
@[simp] theorem resetC_frame (s : State) :
    (resetC s).tb = s.tb
    ∧ (resetC s).riu = s.riu
    ∧ (resetC s).tiu = s.tiu
    ∧ (resetC s).rha = s.rha
    ∧ (resetC s).asc = s.asc
    ∧ (resetC s).spm = s.spm
    ∧ (resetC s).pending = s.pending
    ∧ (resetC s).lnu.address = s.lnu.address
    ∧ (resetC s).lnu.fast = s.lnu.fast
    ∧ (resetC s).lnu.answering = s.lnu.answering
    ∧ (resetC s).lnu.rx = s.lnu.rx
    ∧ (resetC s).lnu.tx = s.lnu.tx
    ∧ (resetC s).lnu.driver = s.lnu.driver
    ∧ (resetC s).lnu.errors = s.lnu.errors
    ∧ (resetC s).lnu.masks = s.lnu.masks
    ∧ (resetC s).lnu.handoverLamp = s.lnu.handoverLamp
    ∧ (resetC s).lnu.presenceLine = s.lnu.presenceLine := by
  simp [resetC]

/-- What `changeCase` leaves unchanged. -/
@[simp] theorem changeCase_frame (u : UnitId) (i : SlotId) (c : Case) (s : State) :
    (changeCase u i c s).tb = s.tb
    ∧ (changeCase u i c s).riu = s.riu
    ∧ (changeCase u i c s).tiu = s.tiu
    ∧ (changeCase u i c s).tgr = s.tgr
    ∧ (changeCase u i c s).rha = s.rha
    ∧ (changeCase u i c s).asc = s.asc
    ∧ (changeCase u i c s).spm = s.spm
    ∧ (changeCase u i c s).pending = s.pending
    ∧ (changeCase u i c s).lnu.address = s.lnu.address
    ∧ (changeCase u i c s).lnu.fast = s.lnu.fast
    ∧ (changeCase u i c s).lnu.answering = s.lnu.answering
    ∧ (changeCase u i c s).lnu.rx = s.lnu.rx
    ∧ (changeCase u i c s).lnu.tx = s.lnu.tx
    ∧ (changeCase u i c s).lnu.driver = s.lnu.driver
    ∧ (changeCase u i c s).lnu.errors = s.lnu.errors
    ∧ (changeCase u i c s).lnu.masks = s.lnu.masks
    ∧ (changeCase u i c s).lnu.handoverLamp = s.lnu.handoverLamp
    ∧ (changeCase u i c s).lnu.presenceLine = s.lnu.presenceLine := by
  simp [changeCase]

/-- What `enterHoldup` leaves unchanged. -/
@[simp] theorem enterHoldup_frame (s : State) :
    (enterHoldup s).tb = s.tb
    ∧ (enterHoldup s).riu = s.riu
    ∧ (enterHoldup s).tiu = s.tiu
    ∧ (enterHoldup s).ct = s.ct
    ∧ (enterHoldup s).tgr = s.tgr
    ∧ (enterHoldup s).usm = s.usm
    ∧ (enterHoldup s).shc = s.shc
    ∧ (enterHoldup s).pending = s.pending
    ∧ (enterHoldup s).lnu.address = s.lnu.address
    ∧ (enterHoldup s).lnu.fast = s.lnu.fast
    ∧ (enterHoldup s).lnu.answering = s.lnu.answering
    ∧ (enterHoldup s).lnu.rx = s.lnu.rx
    ∧ (enterHoldup s).lnu.tx = s.lnu.tx
    ∧ (enterHoldup s).lnu.driver = s.lnu.driver
    ∧ (enterHoldup s).lnu.errors = s.lnu.errors
    ∧ (enterHoldup s).lnu.masks = s.lnu.masks
    ∧ (enterHoldup s).lnu.caseLamp = s.lnu.caseLamp
    ∧ (enterHoldup s).lnu.handoverLamp = s.lnu.handoverLamp
    ∧ (enterHoldup s).lnu.presenceLine = s.lnu.presenceLine := by
  simp [enterHoldup]

/-- What `takeReading` leaves unchanged. -/
@[simp] theorem takeReading_frame (v : Nat) (s : State) :
    (takeReading v s).tb = s.tb
    ∧ (takeReading v s).riu = s.riu
    ∧ (takeReading v s).tiu = s.tiu
    ∧ (takeReading v s).ct = s.ct
    ∧ (takeReading v s).tgr = s.tgr
    ∧ (takeReading v s).usm = s.usm
    ∧ (takeReading v s).shc = s.shc
    ∧ (takeReading v s).pending = s.pending
    ∧ (takeReading v s).lnu.address = s.lnu.address
    ∧ (takeReading v s).lnu.fast = s.lnu.fast
    ∧ (takeReading v s).lnu.answering = s.lnu.answering
    ∧ (takeReading v s).lnu.rx = s.lnu.rx
    ∧ (takeReading v s).lnu.tx = s.lnu.tx
    ∧ (takeReading v s).lnu.driver = s.lnu.driver
    ∧ (takeReading v s).lnu.errors = s.lnu.errors
    ∧ (takeReading v s).lnu.masks = s.lnu.masks
    ∧ (takeReading v s).lnu.caseLamp = s.lnu.caseLamp
    ∧ (takeReading v s).lnu.handoverLamp = s.lnu.handoverLamp
    ∧ (takeReading v s).lnu.presenceLine = s.lnu.presenceLine := by
  unfold takeReading startRestore stopRestore; (repeat' split) <;> simp

/-- What `takePfi` leaves unchanged. -/
@[simp] theorem takePfi_frame (s : State) :
    (takePfi s).tb = s.tb
    ∧ (takePfi s).riu = s.riu
    ∧ (takePfi s).tiu = s.tiu
    ∧ (takePfi s).ct = s.ct
    ∧ (takePfi s).tgr = s.tgr
    ∧ (takePfi s).usm = s.usm
    ∧ (takePfi s).shc = s.shc
    ∧ (takePfi s).pending = s.pending
    ∧ (takePfi s).lnu.address = s.lnu.address
    ∧ (takePfi s).lnu.fast = s.lnu.fast
    ∧ (takePfi s).lnu.answering = s.lnu.answering
    ∧ (takePfi s).lnu.rx = s.lnu.rx
    ∧ (takePfi s).lnu.tx = s.lnu.tx
    ∧ (takePfi s).lnu.driver = s.lnu.driver
    ∧ (takePfi s).lnu.errors = s.lnu.errors
    ∧ (takePfi s).lnu.masks = s.lnu.masks
    ∧ (takePfi s).lnu.caseLamp = s.lnu.caseLamp
    ∧ (takePfi s).lnu.handoverLamp = s.lnu.handoverLamp
    ∧ (takePfi s).lnu.presenceLine = s.lnu.presenceLine := by
  unfold takePfi startRestore stopRestore; (repeat' split) <;> simp

/-- What `settleSpeed` leaves unchanged. -/
@[simp] theorem settleSpeed_frame (u : UnitId) (h : SpeedState) (r : UnitRecord) (s : State) :
    (settleSpeed u h r s).tb = s.tb
    ∧ (settleSpeed u h r s).riu = s.riu
    ∧ (settleSpeed u h r s).tiu = s.tiu
    ∧ (settleSpeed u h r s).ct = s.ct
    ∧ (settleSpeed u h r s).tgr = s.tgr
    ∧ (settleSpeed u h r s).shc = s.shc
    ∧ (settleSpeed u h r s).spm = s.spm
    ∧ (settleSpeed u h r s).pending = s.pending
    ∧ (settleSpeed u h r s).lnu.address = s.lnu.address
    ∧ (settleSpeed u h r s).lnu.fast = s.lnu.fast
    ∧ (settleSpeed u h r s).lnu.answering = s.lnu.answering
    ∧ (settleSpeed u h r s).lnu.rx = s.lnu.rx
    ∧ (settleSpeed u h r s).lnu.tx = s.lnu.tx
    ∧ (settleSpeed u h r s).lnu.driver = s.lnu.driver
    ∧ (settleSpeed u h r s).lnu.errors = s.lnu.errors
    ∧ (settleSpeed u h r s).lnu.masks = s.lnu.masks
    ∧ (settleSpeed u h r s).lnu.caseLamp = s.lnu.caseLamp
    ∧ (settleSpeed u h r s).lnu.handoverLamp = s.lnu.handoverLamp
    ∧ (settleSpeed u h r s).lnu.presenceLine = s.lnu.presenceLine := by
  simp only [settleSpeed]; split <;> simp

/-- What `evalSpeed` leaves unchanged. -/
@[simp] theorem evalSpeed_frame (u : UnitId) (r : UnitRecord) (v : Nat) (s : State) :
    (evalSpeed u r v s).tb = s.tb
    ∧ (evalSpeed u r v s).riu = s.riu
    ∧ (evalSpeed u r v s).tiu = s.tiu
    ∧ (evalSpeed u r v s).ct = s.ct
    ∧ (evalSpeed u r v s).tgr = s.tgr
    ∧ (evalSpeed u r v s).shc = s.shc
    ∧ (evalSpeed u r v s).spm = s.spm
    ∧ (evalSpeed u r v s).pending = s.pending
    ∧ (evalSpeed u r v s).lnu.address = s.lnu.address
    ∧ (evalSpeed u r v s).lnu.fast = s.lnu.fast
    ∧ (evalSpeed u r v s).lnu.answering = s.lnu.answering
    ∧ (evalSpeed u r v s).lnu.rx = s.lnu.rx
    ∧ (evalSpeed u r v s).lnu.tx = s.lnu.tx
    ∧ (evalSpeed u r v s).lnu.driver = s.lnu.driver
    ∧ (evalSpeed u r v s).lnu.errors = s.lnu.errors
    ∧ (evalSpeed u r v s).lnu.masks = s.lnu.masks
    ∧ (evalSpeed u r v s).lnu.caseLamp = s.lnu.caseLamp
    ∧ (evalSpeed u r v s).lnu.handoverLamp = s.lnu.handoverLamp
    ∧ (evalSpeed u r v s).lnu.presenceLine = s.lnu.presenceLine := by
  simp only [evalSpeed]; split <;> simp

/-- What `recoverSpeed` leaves unchanged. -/
@[simp] theorem recoverSpeed_frame (u : UnitId) (r : UnitRecord) (v : Nat) (s : State) :
    (recoverSpeed u r v s).tb = s.tb
    ∧ (recoverSpeed u r v s).riu = s.riu
    ∧ (recoverSpeed u r v s).tiu = s.tiu
    ∧ (recoverSpeed u r v s).ct = s.ct
    ∧ (recoverSpeed u r v s).tgr = s.tgr
    ∧ (recoverSpeed u r v s).shc = s.shc
    ∧ (recoverSpeed u r v s).spm = s.spm
    ∧ (recoverSpeed u r v s).pending = s.pending
    ∧ (recoverSpeed u r v s).lnu.address = s.lnu.address
    ∧ (recoverSpeed u r v s).lnu.fast = s.lnu.fast
    ∧ (recoverSpeed u r v s).lnu.answering = s.lnu.answering
    ∧ (recoverSpeed u r v s).lnu.rx = s.lnu.rx
    ∧ (recoverSpeed u r v s).lnu.tx = s.lnu.tx
    ∧ (recoverSpeed u r v s).lnu.driver = s.lnu.driver
    ∧ (recoverSpeed u r v s).lnu.errors = s.lnu.errors
    ∧ (recoverSpeed u r v s).lnu.masks = s.lnu.masks
    ∧ (recoverSpeed u r v s).lnu.caseLamp = s.lnu.caseLamp
    ∧ (recoverSpeed u r v s).lnu.handoverLamp = s.lnu.handoverLamp
    ∧ (recoverSpeed u r v s).lnu.presenceLine = s.lnu.presenceLine := by
  simp [recoverSpeed]

/-- What `speedSample` leaves unchanged. -/
@[simp] theorem speedSample_frame (u : UnitId) (raw : Nat) (s : State) :
    (speedSample u raw s).tb = s.tb
    ∧ (speedSample u raw s).riu = s.riu
    ∧ (speedSample u raw s).tiu = s.tiu
    ∧ (speedSample u raw s).ct = s.ct
    ∧ (speedSample u raw s).tgr = s.tgr
    ∧ (speedSample u raw s).shc = s.shc
    ∧ (speedSample u raw s).spm = s.spm
    ∧ (speedSample u raw s).pending = s.pending
    ∧ (speedSample u raw s).lnu.address = s.lnu.address
    ∧ (speedSample u raw s).lnu.fast = s.lnu.fast
    ∧ (speedSample u raw s).lnu.answering = s.lnu.answering
    ∧ (speedSample u raw s).lnu.rx = s.lnu.rx
    ∧ (speedSample u raw s).lnu.tx = s.lnu.tx
    ∧ (speedSample u raw s).lnu.driver = s.lnu.driver
    ∧ (speedSample u raw s).lnu.errors = s.lnu.errors
    ∧ (speedSample u raw s).lnu.masks = s.lnu.masks
    ∧ (speedSample u raw s).lnu.caseLamp = s.lnu.caseLamp
    ∧ (speedSample u raw s).lnu.handoverLamp = s.lnu.handoverLamp
    ∧ (speedSample u raw s).lnu.presenceLine = s.lnu.presenceLine := by
  simp only [speedSample]; (repeat' split) <;> simp

/-- What `supplySample` leaves unchanged. -/
@[simp] theorem supplySample_frame (raw : Nat) (s : State) :
    (supplySample raw s).tb = s.tb
    ∧ (supplySample raw s).riu = s.riu
    ∧ (supplySample raw s).tiu = s.tiu
    ∧ (supplySample raw s).ct = s.ct
    ∧ (supplySample raw s).tgr = s.tgr
    ∧ (supplySample raw s).shc = s.shc
    ∧ (supplySample raw s).pending = s.pending
    ∧ (supplySample raw s).lnu.address = s.lnu.address
    ∧ (supplySample raw s).lnu.fast = s.lnu.fast
    ∧ (supplySample raw s).lnu.answering = s.lnu.answering
    ∧ (supplySample raw s).lnu.rx = s.lnu.rx
    ∧ (supplySample raw s).lnu.tx = s.lnu.tx
    ∧ (supplySample raw s).lnu.driver = s.lnu.driver
    ∧ (supplySample raw s).lnu.errors = s.lnu.errors
    ∧ (supplySample raw s).lnu.masks = s.lnu.masks
    ∧ (supplySample raw s).lnu.caseLamp = s.lnu.caseLamp
    ∧ (supplySample raw s).lnu.handoverLamp = s.lnu.handoverLamp
    ∧ (supplySample raw s).lnu.presenceLine = s.lnu.presenceLine := by
  simp [supplySample]

/-- What `foldl_increment` leaves unchanged. -/
@[simp] theorem foldl_increment_frame (u : UnitId) (l : List Kind) (s : State) :
    (l.foldl (fun s k => increment u k s) s).tb = s.tb
    ∧ (l.foldl (fun s k => increment u k s) s).riu = s.riu
    ∧ (l.foldl (fun s k => increment u k s) s).tiu = s.tiu
    ∧ (l.foldl (fun s k => increment u k s) s).ct = s.ct
    ∧ (l.foldl (fun s k => increment u k s) s).tgr = s.tgr
    ∧ (l.foldl (fun s k => increment u k s) s).usm = s.usm
    ∧ (l.foldl (fun s k => increment u k s) s).shc = s.shc
    ∧ (l.foldl (fun s k => increment u k s) s).spm = s.spm
    ∧ (l.foldl (fun s k => increment u k s) s).pending = s.pending
    ∧ (l.foldl (fun s k => increment u k s) s).lnu.address = s.lnu.address
    ∧ (l.foldl (fun s k => increment u k s) s).lnu.fast = s.lnu.fast
    ∧ (l.foldl (fun s k => increment u k s) s).lnu.answering = s.lnu.answering
    ∧ (l.foldl (fun s k => increment u k s) s).lnu.rx = s.lnu.rx
    ∧ (l.foldl (fun s k => increment u k s) s).lnu.tx = s.lnu.tx
    ∧ (l.foldl (fun s k => increment u k s) s).lnu.driver = s.lnu.driver
    ∧ (l.foldl (fun s k => increment u k s) s).lnu.errors = s.lnu.errors
    ∧ (l.foldl (fun s k => increment u k s) s).lnu.masks = s.lnu.masks
    ∧ (l.foldl (fun s k => increment u k s) s).lnu.caseLamp = s.lnu.caseLamp
    ∧ (l.foldl (fun s k => increment u k s) s).lnu.handoverLamp = s.lnu.handoverLamp
    ∧ (l.foldl (fun s k => increment u k s) s).lnu.presenceLine = s.lnu.presenceLine := by
  induction l generalizing s with
  | nil => simp
  | cons x l ih => simp [ih]

/-- What `tallyUnit` leaves unchanged. -/
@[simp] theorem tallyUnit_frame (u : UnitId) (s : State) :
    (tallyUnit s u).tb = s.tb
    ∧ (tallyUnit s u).riu = s.riu
    ∧ (tallyUnit s u).tiu = s.tiu
    ∧ (tallyUnit s u).ct = s.ct
    ∧ (tallyUnit s u).tgr = s.tgr
    ∧ (tallyUnit s u).usm = s.usm
    ∧ (tallyUnit s u).shc = s.shc
    ∧ (tallyUnit s u).spm = s.spm
    ∧ (tallyUnit s u).pending = s.pending
    ∧ (tallyUnit s u).lnu.address = s.lnu.address
    ∧ (tallyUnit s u).lnu.fast = s.lnu.fast
    ∧ (tallyUnit s u).lnu.answering = s.lnu.answering
    ∧ (tallyUnit s u).lnu.rx = s.lnu.rx
    ∧ (tallyUnit s u).lnu.tx = s.lnu.tx
    ∧ (tallyUnit s u).lnu.driver = s.lnu.driver
    ∧ (tallyUnit s u).lnu.errors = s.lnu.errors
    ∧ (tallyUnit s u).lnu.masks = s.lnu.masks
    ∧ (tallyUnit s u).lnu.caseLamp = s.lnu.caseLamp
    ∧ (tallyUnit s u).lnu.handoverLamp = s.lnu.handoverLamp
    ∧ (tallyUnit s u).lnu.presenceLine = s.lnu.presenceLine := by
  simp [tallyUnit]

/-- What `foldl_tallyUnit` leaves unchanged. -/
@[simp] theorem foldl_tallyUnit_frame (l : List UnitId) (s : State) :
    (l.foldl tallyUnit s).tb = s.tb
    ∧ (l.foldl tallyUnit s).riu = s.riu
    ∧ (l.foldl tallyUnit s).tiu = s.tiu
    ∧ (l.foldl tallyUnit s).ct = s.ct
    ∧ (l.foldl tallyUnit s).tgr = s.tgr
    ∧ (l.foldl tallyUnit s).usm = s.usm
    ∧ (l.foldl tallyUnit s).shc = s.shc
    ∧ (l.foldl tallyUnit s).spm = s.spm
    ∧ (l.foldl tallyUnit s).pending = s.pending
    ∧ (l.foldl tallyUnit s).lnu.address = s.lnu.address
    ∧ (l.foldl tallyUnit s).lnu.fast = s.lnu.fast
    ∧ (l.foldl tallyUnit s).lnu.answering = s.lnu.answering
    ∧ (l.foldl tallyUnit s).lnu.rx = s.lnu.rx
    ∧ (l.foldl tallyUnit s).lnu.tx = s.lnu.tx
    ∧ (l.foldl tallyUnit s).lnu.driver = s.lnu.driver
    ∧ (l.foldl tallyUnit s).lnu.errors = s.lnu.errors
    ∧ (l.foldl tallyUnit s).lnu.masks = s.lnu.masks
    ∧ (l.foldl tallyUnit s).lnu.caseLamp = s.lnu.caseLamp
    ∧ (l.foldl tallyUnit s).lnu.handoverLamp = s.lnu.handoverLamp
    ∧ (l.foldl tallyUnit s).lnu.presenceLine = s.lnu.presenceLine := by
  induction l generalizing s with
  | nil => simp
  | cons x l ih => simp [ih]

/-- What `tallySecond` leaves unchanged. -/
@[simp] theorem tallySecond_frame (s : State) :
    (tallySecond s).tb = s.tb
    ∧ (tallySecond s).riu = s.riu
    ∧ (tallySecond s).tiu = s.tiu
    ∧ (tallySecond s).ct = s.ct
    ∧ (tallySecond s).tgr = s.tgr
    ∧ (tallySecond s).usm = s.usm
    ∧ (tallySecond s).shc = s.shc
    ∧ (tallySecond s).spm = s.spm
    ∧ (tallySecond s).pending = s.pending
    ∧ (tallySecond s).lnu.address = s.lnu.address
    ∧ (tallySecond s).lnu.fast = s.lnu.fast
    ∧ (tallySecond s).lnu.answering = s.lnu.answering
    ∧ (tallySecond s).lnu.rx = s.lnu.rx
    ∧ (tallySecond s).lnu.tx = s.lnu.tx
    ∧ (tallySecond s).lnu.driver = s.lnu.driver
    ∧ (tallySecond s).lnu.errors = s.lnu.errors
    ∧ (tallySecond s).lnu.masks = s.lnu.masks
    ∧ (tallySecond s).lnu.caseLamp = s.lnu.caseLamp
    ∧ (tallySecond s).lnu.handoverLamp = s.lnu.handoverLamp
    ∧ (tallySecond s).lnu.presenceLine = s.lnu.presenceLine := by
  simp [tallySecond]

/-- What `commandChange` leaves unchanged. -/
@[simp] theorem commandChange_frame (u : UnitId) (k : Kind) (a : Account) (s : State) :
    (commandChange u k a s).tb = s.tb
    ∧ (commandChange u k a s).riu = s.riu
    ∧ (commandChange u k a s).tiu = s.tiu
    ∧ (commandChange u k a s).ct = s.ct
    ∧ (commandChange u k a s).tgr = s.tgr
    ∧ (commandChange u k a s).usm = s.usm
    ∧ (commandChange u k a s).shc = s.shc
    ∧ (commandChange u k a s).spm = s.spm
    ∧ (commandChange u k a s).pending = s.pending
    ∧ (commandChange u k a s).lnu.address = s.lnu.address
    ∧ (commandChange u k a s).lnu.fast = s.lnu.fast
    ∧ (commandChange u k a s).lnu.answering = s.lnu.answering
    ∧ (commandChange u k a s).lnu.rx = s.lnu.rx
    ∧ (commandChange u k a s).lnu.tx = s.lnu.tx
    ∧ (commandChange u k a s).lnu.driver = s.lnu.driver
    ∧ (commandChange u k a s).lnu.errors = s.lnu.errors
    ∧ (commandChange u k a s).lnu.masks = s.lnu.masks
    ∧ (commandChange u k a s).lnu.caseLamp = s.lnu.caseLamp
    ∧ (commandChange u k a s).lnu.handoverLamp = s.lnu.handoverLamp
    ∧ (commandChange u k a s).lnu.presenceLine = s.lnu.presenceLine := by
  simp [commandChange]

/-- What `warmAccount` leaves unchanged. -/
@[simp] theorem warmAccount_frame (x : UnitId × Kind) (s : State) :
    (warmAccount s x).tb = s.tb
    ∧ (warmAccount s x).riu = s.riu
    ∧ (warmAccount s x).tiu = s.tiu
    ∧ (warmAccount s x).ct = s.ct
    ∧ (warmAccount s x).tgr = s.tgr
    ∧ (warmAccount s x).usm = s.usm
    ∧ (warmAccount s x).shc = s.shc
    ∧ (warmAccount s x).spm = s.spm
    ∧ (warmAccount s x).pending = s.pending
    ∧ (warmAccount s x).lnu.address = s.lnu.address
    ∧ (warmAccount s x).lnu.fast = s.lnu.fast
    ∧ (warmAccount s x).lnu.answering = s.lnu.answering
    ∧ (warmAccount s x).lnu.rx = s.lnu.rx
    ∧ (warmAccount s x).lnu.tx = s.lnu.tx
    ∧ (warmAccount s x).lnu.driver = s.lnu.driver
    ∧ (warmAccount s x).lnu.errors = s.lnu.errors
    ∧ (warmAccount s x).lnu.masks = s.lnu.masks
    ∧ (warmAccount s x).lnu.caseLamp = s.lnu.caseLamp
    ∧ (warmAccount s x).lnu.handoverLamp = s.lnu.handoverLamp
    ∧ (warmAccount s x).lnu.presenceLine = s.lnu.presenceLine := by
  simp only [warmAccount]; (repeat' split) <;> simp

/-- What `foldl_warmAccount` leaves unchanged. -/
@[simp] theorem foldl_warmAccount_frame (l : List (UnitId × Kind)) (s : State) :
    (l.foldl warmAccount s).tb = s.tb
    ∧ (l.foldl warmAccount s).riu = s.riu
    ∧ (l.foldl warmAccount s).tiu = s.tiu
    ∧ (l.foldl warmAccount s).ct = s.ct
    ∧ (l.foldl warmAccount s).tgr = s.tgr
    ∧ (l.foldl warmAccount s).usm = s.usm
    ∧ (l.foldl warmAccount s).shc = s.shc
    ∧ (l.foldl warmAccount s).spm = s.spm
    ∧ (l.foldl warmAccount s).pending = s.pending
    ∧ (l.foldl warmAccount s).lnu.address = s.lnu.address
    ∧ (l.foldl warmAccount s).lnu.fast = s.lnu.fast
    ∧ (l.foldl warmAccount s).lnu.answering = s.lnu.answering
    ∧ (l.foldl warmAccount s).lnu.rx = s.lnu.rx
    ∧ (l.foldl warmAccount s).lnu.tx = s.lnu.tx
    ∧ (l.foldl warmAccount s).lnu.driver = s.lnu.driver
    ∧ (l.foldl warmAccount s).lnu.errors = s.lnu.errors
    ∧ (l.foldl warmAccount s).lnu.masks = s.lnu.masks
    ∧ (l.foldl warmAccount s).lnu.caseLamp = s.lnu.caseLamp
    ∧ (l.foldl warmAccount s).lnu.handoverLamp = s.lnu.handoverLamp
    ∧ (l.foldl warmAccount s).lnu.presenceLine = s.lnu.presenceLine := by
  induction l generalizing s with
  | nil => simp
  | cons x l ih => simp [ih]

/-- What `warmAccounts` leaves unchanged. -/
@[simp] theorem warmAccounts_frame (s : State) :
    (warmAccounts s).tb = s.tb
    ∧ (warmAccounts s).riu = s.riu
    ∧ (warmAccounts s).tiu = s.tiu
    ∧ (warmAccounts s).ct = s.ct
    ∧ (warmAccounts s).tgr = s.tgr
    ∧ (warmAccounts s).usm = s.usm
    ∧ (warmAccounts s).shc = s.shc
    ∧ (warmAccounts s).spm = s.spm
    ∧ (warmAccounts s).pending = s.pending
    ∧ (warmAccounts s).lnu.address = s.lnu.address
    ∧ (warmAccounts s).lnu.fast = s.lnu.fast
    ∧ (warmAccounts s).lnu.answering = s.lnu.answering
    ∧ (warmAccounts s).lnu.rx = s.lnu.rx
    ∧ (warmAccounts s).lnu.tx = s.lnu.tx
    ∧ (warmAccounts s).lnu.driver = s.lnu.driver
    ∧ (warmAccounts s).lnu.errors = s.lnu.errors
    ∧ (warmAccounts s).lnu.masks = s.lnu.masks
    ∧ (warmAccounts s).lnu.caseLamp = s.lnu.caseLamp
    ∧ (warmAccounts s).lnu.handoverLamp = s.lnu.handoverLamp
    ∧ (warmAccounts s).lnu.presenceLine = s.lnu.presenceLine := by
  simp [warmAccounts]

/-- What `setFlight` leaves unchanged. -/
@[simp] theorem setFlight_frame (t : Transaction) (s : State) :
    (setFlight t s).tb = s.tb
    ∧ (setFlight t s).riu = s.riu
    ∧ (setFlight t s).tiu = s.tiu
    ∧ (setFlight t s).ct = s.ct
    ∧ (setFlight t s).tgr = s.tgr
    ∧ (setFlight t s).usm = s.usm
    ∧ (setFlight t s).rha = s.rha
    ∧ (setFlight t s).shc = s.shc
    ∧ (setFlight t s).lnu = s.lnu
    ∧ (setFlight t s).spm = s.spm
    ∧ (setFlight t s).pending = s.pending := by
  simp [setFlight]

/-- What `restartPeriod` leaves unchanged. -/
@[simp] theorem restartPeriod_frame (s : State) :
    (restartPeriod s).tb = s.tb
    ∧ (restartPeriod s).riu = s.riu
    ∧ (restartPeriod s).tiu = s.tiu
    ∧ (restartPeriod s).ct = s.ct
    ∧ (restartPeriod s).tgr = s.tgr
    ∧ (restartPeriod s).usm = s.usm
    ∧ (restartPeriod s).rha = s.rha
    ∧ (restartPeriod s).shc = s.shc
    ∧ (restartPeriod s).lnu = s.lnu
    ∧ (restartPeriod s).spm = s.spm
    ∧ (restartPeriod s).pending = s.pending := by
  simp [restartPeriod]

/-- What `orderFrozen` leaves unchanged. -/
@[simp] theorem orderFrozen_frame (s : State) :
    (orderFrozen s).tb = s.tb
    ∧ (orderFrozen s).riu = s.riu
    ∧ (orderFrozen s).tiu = s.tiu
    ∧ (orderFrozen s).ct = s.ct
    ∧ (orderFrozen s).tgr = s.tgr
    ∧ (orderFrozen s).usm = s.usm
    ∧ (orderFrozen s).rha = s.rha
    ∧ (orderFrozen s).shc = s.shc
    ∧ (orderFrozen s).lnu = s.lnu
    ∧ (orderFrozen s).spm = s.spm
    ∧ (orderFrozen s).pending = s.pending := by
  unfold orderFrozen; (repeat' split) <;> simp

/-- What `orderNormal` leaves unchanged. -/
@[simp] theorem orderNormal_frame (s : State) :
    (orderNormal s).tb = s.tb
    ∧ (orderNormal s).riu = s.riu
    ∧ (orderNormal s).tiu = s.tiu
    ∧ (orderNormal s).ct = s.ct
    ∧ (orderNormal s).tgr = s.tgr
    ∧ (orderNormal s).usm = s.usm
    ∧ (orderNormal s).shc = s.shc
    ∧ (orderNormal s).spm = s.spm
    ∧ (orderNormal s).pending = s.pending
    ∧ (orderNormal s).lnu.address = s.lnu.address
    ∧ (orderNormal s).lnu.fast = s.lnu.fast
    ∧ (orderNormal s).lnu.answering = s.lnu.answering
    ∧ (orderNormal s).lnu.rx = s.lnu.rx
    ∧ (orderNormal s).lnu.tx = s.lnu.tx
    ∧ (orderNormal s).lnu.driver = s.lnu.driver
    ∧ (orderNormal s).lnu.errors = s.lnu.errors
    ∧ (orderNormal s).lnu.masks = s.lnu.masks
    ∧ (orderNormal s).lnu.caseLamp = s.lnu.caseLamp
    ∧ (orderNormal s).lnu.handoverLamp = s.lnu.handoverLamp
    ∧ (orderNormal s).lnu.presenceLine = s.lnu.presenceLine := by
  unfold orderNormal; (repeat' split) <;> simp

/-- What `resetA` leaves unchanged. -/
@[simp] theorem resetA_frame (s : State) :
    (resetA s).tb = s.tb
    ∧ (resetA s).riu = s.riu
    ∧ (resetA s).tiu = s.tiu
    ∧ (resetA s).ct = s.ct
    ∧ (resetA s).tgr = s.tgr
    ∧ (resetA s).usm = s.usm
    ∧ (resetA s).shc = s.shc
    ∧ (resetA s).spm = s.spm
    ∧ (resetA s).pending = s.pending
    ∧ (resetA s).lnu.address = s.lnu.address
    ∧ (resetA s).lnu.fast = s.lnu.fast
    ∧ (resetA s).lnu.answering = s.lnu.answering
    ∧ (resetA s).lnu.rx = s.lnu.rx
    ∧ (resetA s).lnu.tx = s.lnu.tx
    ∧ (resetA s).lnu.driver = s.lnu.driver
    ∧ (resetA s).lnu.errors = s.lnu.errors
    ∧ (resetA s).lnu.masks = s.lnu.masks
    ∧ (resetA s).lnu.caseLamp = s.lnu.caseLamp
    ∧ (resetA s).lnu.handoverLamp = s.lnu.handoverLamp
    ∧ (resetA s).lnu.presenceLine = s.lnu.presenceLine := by
  simp only [resetA]; split <;> simp

/-- What `resumeLoad` leaves unchanged. -/
@[simp] theorem resumeLoad_frame (s : State) :
    (resumeLoad s).tb = s.tb
    ∧ (resumeLoad s).riu = s.riu
    ∧ (resumeLoad s).tiu = s.tiu
    ∧ (resumeLoad s).ct = s.ct
    ∧ (resumeLoad s).tgr = s.tgr
    ∧ (resumeLoad s).usm = s.usm
    ∧ (resumeLoad s).shc = s.shc
    ∧ (resumeLoad s).spm = s.spm
    ∧ (resumeLoad s).pending = s.pending
    ∧ (resumeLoad s).lnu.address = s.lnu.address
    ∧ (resumeLoad s).lnu.fast = s.lnu.fast
    ∧ (resumeLoad s).lnu.answering = s.lnu.answering
    ∧ (resumeLoad s).lnu.rx = s.lnu.rx
    ∧ (resumeLoad s).lnu.tx = s.lnu.tx
    ∧ (resumeLoad s).lnu.driver = s.lnu.driver
    ∧ (resumeLoad s).lnu.errors = s.lnu.errors
    ∧ (resumeLoad s).lnu.masks = s.lnu.masks
    ∧ (resumeLoad s).lnu.caseLamp = s.lnu.caseLamp
    ∧ (resumeLoad s).lnu.handoverLamp = s.lnu.handoverLamp
    ∧ (resumeLoad s).lnu.presenceLine = s.lnu.presenceLine := by
  unfold resumeLoad; (repeat' split) <;> simp

/-- What `warmStore` leaves unchanged. -/
@[simp] theorem warmStore_frame (s : State) :
    (warmStore s).tb = s.tb
    ∧ (warmStore s).riu = s.riu
    ∧ (warmStore s).tiu = s.tiu
    ∧ (warmStore s).ct = s.ct
    ∧ (warmStore s).tgr = s.tgr
    ∧ (warmStore s).usm = s.usm
    ∧ (warmStore s).shc = s.shc
    ∧ (warmStore s).spm = s.spm
    ∧ (warmStore s).pending = s.pending
    ∧ (warmStore s).lnu.address = s.lnu.address
    ∧ (warmStore s).lnu.fast = s.lnu.fast
    ∧ (warmStore s).lnu.answering = s.lnu.answering
    ∧ (warmStore s).lnu.rx = s.lnu.rx
    ∧ (warmStore s).lnu.tx = s.lnu.tx
    ∧ (warmStore s).lnu.driver = s.lnu.driver
    ∧ (warmStore s).lnu.errors = s.lnu.errors
    ∧ (warmStore s).lnu.masks = s.lnu.masks
    ∧ (warmStore s).lnu.caseLamp = s.lnu.caseLamp
    ∧ (warmStore s).lnu.handoverLamp = s.lnu.handoverLamp
    ∧ (warmStore s).lnu.presenceLine = s.lnu.presenceLine := by
  simp [warmStore]

/-- What `incrementShift` leaves unchanged. -/
@[simp] theorem incrementShift_frame (b : Bool) (d t : Nat) (k : Option Nat) (s : State) :
    (incrementShift b d t k s).tb = s.tb
    ∧ (incrementShift b d t k s).riu = s.riu
    ∧ (incrementShift b d t k s).tiu = s.tiu
    ∧ (incrementShift b d t k s).tgr = s.tgr
    ∧ (incrementShift b d t k s).usm = s.usm
    ∧ (incrementShift b d t k s).spm = s.spm
    ∧ (incrementShift b d t k s).pending = s.pending
    ∧ (incrementShift b d t k s).lnu.address = s.lnu.address
    ∧ (incrementShift b d t k s).lnu.fast = s.lnu.fast
    ∧ (incrementShift b d t k s).lnu.answering = s.lnu.answering
    ∧ (incrementShift b d t k s).lnu.rx = s.lnu.rx
    ∧ (incrementShift b d t k s).lnu.tx = s.lnu.tx
    ∧ (incrementShift b d t k s).lnu.driver = s.lnu.driver
    ∧ (incrementShift b d t k s).lnu.errors = s.lnu.errors
    ∧ (incrementShift b d t k s).lnu.masks = s.lnu.masks := by
  simp [incrementShift]

/-- What `presenceLapse` leaves unchanged. -/
@[simp] theorem presenceLapse_frame (s : State) :
    (presenceLapse s).tb = s.tb
    ∧ (presenceLapse s).riu = s.riu
    ∧ (presenceLapse s).tiu = s.tiu
    ∧ (presenceLapse s).ct = s.ct
    ∧ (presenceLapse s).tgr = s.tgr
    ∧ (presenceLapse s).usm = s.usm
    ∧ (presenceLapse s).rha = s.rha
    ∧ (presenceLapse s).asc = s.asc
    ∧ (presenceLapse s).spm = s.spm
    ∧ (presenceLapse s).pending = s.pending
    ∧ (presenceLapse s).lnu.address = s.lnu.address
    ∧ (presenceLapse s).lnu.fast = s.lnu.fast
    ∧ (presenceLapse s).lnu.answering = s.lnu.answering
    ∧ (presenceLapse s).lnu.rx = s.lnu.rx
    ∧ (presenceLapse s).lnu.tx = s.lnu.tx
    ∧ (presenceLapse s).lnu.driver = s.lnu.driver
    ∧ (presenceLapse s).lnu.errors = s.lnu.errors
    ∧ (presenceLapse s).lnu.masks = s.lnu.masks
    ∧ (presenceLapse s).lnu.caseLamp = s.lnu.caseLamp
    ∧ (presenceLapse s).lnu.handoverLamp = s.lnu.handoverLamp := by
  simp [presenceLapse]

/-- What `resetS` leaves unchanged. -/
@[simp] theorem resetS_frame (s : State) :
    (resetS s).tb = s.tb
    ∧ (resetS s).riu = s.riu
    ∧ (resetS s).tiu = s.tiu
    ∧ (resetS s).ct = s.ct
    ∧ (resetS s).tgr = s.tgr
    ∧ (resetS s).usm = s.usm
    ∧ (resetS s).rha = s.rha
    ∧ (resetS s).asc = s.asc
    ∧ (resetS s).spm = s.spm
    ∧ (resetS s).pending = s.pending
    ∧ (resetS s).lnu.address = s.lnu.address
    ∧ (resetS s).lnu.fast = s.lnu.fast
    ∧ (resetS s).lnu.answering = s.lnu.answering
    ∧ (resetS s).lnu.rx = s.lnu.rx
    ∧ (resetS s).lnu.tx = s.lnu.tx
    ∧ (resetS s).lnu.driver = s.lnu.driver
    ∧ (resetS s).lnu.errors = s.lnu.errors
    ∧ (resetS s).lnu.masks = s.lnu.masks
    ∧ (resetS s).lnu.caseLamp = s.lnu.caseLamp
    ∧ (resetS s).lnu.presenceLine = s.lnu.presenceLine := by
  simp [resetS]

/-- What `warmShift` leaves unchanged. -/
@[simp] theorem warmShift_frame (s : State) :
    (warmShift s).tb = s.tb
    ∧ (warmShift s).riu = s.riu
    ∧ (warmShift s).tiu = s.tiu
    ∧ (warmShift s).ct = s.ct
    ∧ (warmShift s).tgr = s.tgr
    ∧ (warmShift s).usm = s.usm
    ∧ (warmShift s).rha = s.rha
    ∧ (warmShift s).asc = s.asc
    ∧ (warmShift s).spm = s.spm
    ∧ (warmShift s).pending = s.pending
    ∧ (warmShift s).lnu.address = s.lnu.address
    ∧ (warmShift s).lnu.fast = s.lnu.fast
    ∧ (warmShift s).lnu.answering = s.lnu.answering
    ∧ (warmShift s).lnu.rx = s.lnu.rx
    ∧ (warmShift s).lnu.tx = s.lnu.tx
    ∧ (warmShift s).lnu.driver = s.lnu.driver
    ∧ (warmShift s).lnu.errors = s.lnu.errors
    ∧ (warmShift s).lnu.masks = s.lnu.masks
    ∧ (warmShift s).lnu.caseLamp = s.lnu.caseLamp := by
  simp only [warmShift]; split <;> simp

/-- What `holdupIfAsserted` leaves unchanged. -/
@[simp] theorem holdupIfAsserted_frame (s : State) :
    (holdupIfAsserted s).tb = s.tb
    ∧ (holdupIfAsserted s).riu = s.riu
    ∧ (holdupIfAsserted s).tiu = s.tiu
    ∧ (holdupIfAsserted s).ct = s.ct
    ∧ (holdupIfAsserted s).tgr = s.tgr
    ∧ (holdupIfAsserted s).usm = s.usm
    ∧ (holdupIfAsserted s).shc = s.shc
    ∧ (holdupIfAsserted s).pending = s.pending
    ∧ (holdupIfAsserted s).lnu.address = s.lnu.address
    ∧ (holdupIfAsserted s).lnu.fast = s.lnu.fast
    ∧ (holdupIfAsserted s).lnu.answering = s.lnu.answering
    ∧ (holdupIfAsserted s).lnu.rx = s.lnu.rx
    ∧ (holdupIfAsserted s).lnu.tx = s.lnu.tx
    ∧ (holdupIfAsserted s).lnu.driver = s.lnu.driver
    ∧ (holdupIfAsserted s).lnu.errors = s.lnu.errors
    ∧ (holdupIfAsserted s).lnu.masks = s.lnu.masks
    ∧ (holdupIfAsserted s).lnu.caseLamp = s.lnu.caseLamp
    ∧ (holdupIfAsserted s).lnu.handoverLamp = s.lnu.handoverLamp
    ∧ (holdupIfAsserted s).lnu.presenceLine = s.lnu.presenceLine := by
  unfold holdupIfAsserted; (repeat' split) <;> simp

/-- What `foldl_closeGroup` leaves unchanged. -/
@[simp] theorem foldl_closeGroup_frame (r : CloseReason) (l : List UnitId) (s : State) :
    (l.foldl (fun s u => closeGroup u r s) s).tb = s.tb
    ∧ (l.foldl (fun s u => closeGroup u r s) s).riu = s.riu
    ∧ (l.foldl (fun s u => closeGroup u r s) s).tiu = s.tiu
    ∧ (l.foldl (fun s u => closeGroup u r s) s).usm = s.usm
    ∧ (l.foldl (fun s u => closeGroup u r s) s).rha = s.rha
    ∧ (l.foldl (fun s u => closeGroup u r s) s).asc = s.asc
    ∧ (l.foldl (fun s u => closeGroup u r s) s).shc = s.shc
    ∧ (l.foldl (fun s u => closeGroup u r s) s).spm = s.spm
    ∧ (l.foldl (fun s u => closeGroup u r s) s).pending = s.pending
    ∧ (l.foldl (fun s u => closeGroup u r s) s).lnu.address = s.lnu.address
    ∧ (l.foldl (fun s u => closeGroup u r s) s).lnu.fast = s.lnu.fast
    ∧ (l.foldl (fun s u => closeGroup u r s) s).lnu.answering = s.lnu.answering
    ∧ (l.foldl (fun s u => closeGroup u r s) s).lnu.rx = s.lnu.rx
    ∧ (l.foldl (fun s u => closeGroup u r s) s).lnu.tx = s.lnu.tx
    ∧ (l.foldl (fun s u => closeGroup u r s) s).lnu.driver = s.lnu.driver
    ∧ (l.foldl (fun s u => closeGroup u r s) s).lnu.errors = s.lnu.errors
    ∧ (l.foldl (fun s u => closeGroup u r s) s).lnu.masks = s.lnu.masks
    ∧ (l.foldl (fun s u => closeGroup u r s) s).lnu.caseLamp = s.lnu.caseLamp
    ∧ (l.foldl (fun s u => closeGroup u r s) s).lnu.handoverLamp = s.lnu.handoverLamp
    ∧ (l.foldl (fun s u => closeGroup u r s) s).lnu.presenceLine = s.lnu.presenceLine := by
  induction l generalizing s with
  | nil => simp
  | cons x l ih => simp [ih]

/-- What `warmGroups` leaves unchanged. -/
@[simp] theorem warmGroups_frame (s : State) :
    (warmGroups s).tb = s.tb
    ∧ (warmGroups s).riu = s.riu
    ∧ (warmGroups s).tiu = s.tiu
    ∧ (warmGroups s).rha = s.rha
    ∧ (warmGroups s).asc = s.asc
    ∧ (warmGroups s).spm = s.spm
    ∧ (warmGroups s).pending = s.pending
    ∧ (warmGroups s).lnu.address = s.lnu.address
    ∧ (warmGroups s).lnu.fast = s.lnu.fast
    ∧ (warmGroups s).lnu.answering = s.lnu.answering
    ∧ (warmGroups s).lnu.rx = s.lnu.rx
    ∧ (warmGroups s).lnu.tx = s.lnu.tx
    ∧ (warmGroups s).lnu.driver = s.lnu.driver
    ∧ (warmGroups s).lnu.errors = s.lnu.errors
    ∧ (warmGroups s).lnu.masks = s.lnu.masks
    ∧ (warmGroups s).lnu.caseLamp = s.lnu.caseLamp
    ∧ (warmGroups s).lnu.handoverLamp = s.lnu.handoverLamp
    ∧ (warmGroups s).lnu.presenceLine = s.lnu.presenceLine := by
  simp only [warmGroups]; split <;> simp

/-- What `driveOutputs` leaves unchanged. -/
@[simp] theorem driveOutputs_frame (s : State) :
    (driveOutputs s).tb = s.tb
    ∧ (driveOutputs s).riu = s.riu
    ∧ (driveOutputs s).tiu = s.tiu
    ∧ (driveOutputs s).ct = s.ct
    ∧ (driveOutputs s).tgr = s.tgr
    ∧ (driveOutputs s).usm = s.usm
    ∧ (driveOutputs s).rha = s.rha
    ∧ (driveOutputs s).asc = s.asc
    ∧ (driveOutputs s).shc = s.shc
    ∧ (driveOutputs s).spm = s.spm
    ∧ (driveOutputs s).pending = s.pending
    ∧ (driveOutputs s).lnu.address = s.lnu.address
    ∧ (driveOutputs s).lnu.fast = s.lnu.fast
    ∧ (driveOutputs s).lnu.answering = s.lnu.answering
    ∧ (driveOutputs s).lnu.rx = s.lnu.rx
    ∧ (driveOutputs s).lnu.tx = s.lnu.tx
    ∧ (driveOutputs s).lnu.driver = s.lnu.driver
    ∧ (driveOutputs s).lnu.errors = s.lnu.errors
    ∧ (driveOutputs s).lnu.masks = s.lnu.masks := by
  simp [driveOutputs]

/-- What `setRx` leaves unchanged. -/
@[simp] theorem setRx_frame (r : Rx) (s : State) :
    (setRx r s).tb = s.tb
    ∧ (setRx r s).riu = s.riu
    ∧ (setRx r s).tiu = s.tiu
    ∧ (setRx r s).ct = s.ct
    ∧ (setRx r s).tgr = s.tgr
    ∧ (setRx r s).usm = s.usm
    ∧ (setRx r s).rha = s.rha
    ∧ (setRx r s).asc = s.asc
    ∧ (setRx r s).shc = s.shc
    ∧ (setRx r s).spm = s.spm
    ∧ (setRx r s).pending = s.pending
    ∧ (setRx r s).lnu.address = s.lnu.address
    ∧ (setRx r s).lnu.fast = s.lnu.fast
    ∧ (setRx r s).lnu.errors = s.lnu.errors
    ∧ (setRx r s).lnu.unitSets = s.lnu.unitSets
    ∧ (setRx r s).lnu.attention = s.lnu.attention
    ∧ (setRx r s).lnu.caseLamp = s.lnu.caseLamp
    ∧ (setRx r s).lnu.handoverLamp = s.lnu.handoverLamp
    ∧ (setRx r s).lnu.presenceLine = s.lnu.presenceLine
    ∧ (setRx r s).lnu.answering = s.lnu.answering
    ∧ (setRx r s).lnu.tx = s.lnu.tx
    ∧ (setRx r s).lnu.driver = s.lnu.driver
    ∧ (setRx r s).lnu.masks = s.lnu.masks
    ∧ (setRx r s).lnu.flags = s.lnu.flags := by
  simp [setRx]

/-- What `countError` leaves unchanged. -/
@[simp] theorem countError_frame (s : State) :
    (countError s).tb = s.tb
    ∧ (countError s).riu = s.riu
    ∧ (countError s).tiu = s.tiu
    ∧ (countError s).ct = s.ct
    ∧ (countError s).tgr = s.tgr
    ∧ (countError s).usm = s.usm
    ∧ (countError s).rha = s.rha
    ∧ (countError s).asc = s.asc
    ∧ (countError s).shc = s.shc
    ∧ (countError s).spm = s.spm
    ∧ (countError s).pending = s.pending
    ∧ (countError s).lnu.fast = s.lnu.fast
    ∧ (countError s).lnu.tx = s.lnu.tx
    ∧ (countError s).lnu.driver = s.lnu.driver
    ∧ (countError s).lnu.unitSets = s.lnu.unitSets
    ∧ (countError s).lnu.attention = s.lnu.attention
    ∧ (countError s).lnu.caseLamp = s.lnu.caseLamp
    ∧ (countError s).lnu.handoverLamp = s.lnu.handoverLamp
    ∧ (countError s).lnu.presenceLine = s.lnu.presenceLine
    ∧ (countError s).lnu.address = s.lnu.address
    ∧ (countError s).lnu.answering = s.lnu.answering
    ∧ (countError s).lnu.rx = s.lnu.rx
    ∧ (countError s).lnu.masks = s.lnu.masks
    ∧ (countError s).lnu.flags = s.lnu.flags := by
  simp [countError]

/-- What `sendReply` leaves unchanged. -/
@[simp] theorem sendReply_frame (c : Nat) (a : Answer) (s : State) :
    (sendReply c a s).tb = s.tb
    ∧ (sendReply c a s).riu = s.riu
    ∧ (sendReply c a s).tiu = s.tiu
    ∧ (sendReply c a s).ct = s.ct
    ∧ (sendReply c a s).tgr = s.tgr
    ∧ (sendReply c a s).usm = s.usm
    ∧ (sendReply c a s).rha = s.rha
    ∧ (sendReply c a s).asc = s.asc
    ∧ (sendReply c a s).shc = s.shc
    ∧ (sendReply c a s).spm = s.spm
    ∧ (sendReply c a s).pending = s.pending
    ∧ (sendReply c a s).lnu.address = s.lnu.address
    ∧ (sendReply c a s).lnu.fast = s.lnu.fast
    ∧ (sendReply c a s).lnu.errors = s.lnu.errors
    ∧ (sendReply c a s).lnu.masks = s.lnu.masks
    ∧ (sendReply c a s).lnu.flags = s.lnu.flags
    ∧ (sendReply c a s).lnu.unitSets = s.lnu.unitSets
    ∧ (sendReply c a s).lnu.attention = s.lnu.attention
    ∧ (sendReply c a s).lnu.caseLamp = s.lnu.caseLamp
    ∧ (sendReply c a s).lnu.handoverLamp = s.lnu.handoverLamp
    ∧ (sendReply c a s).lnu.presenceLine = s.lnu.presenceLine := by
  simp [sendReply]

/-- What `broadcastSetTime` leaves unchanged. -/
@[simp] theorem broadcastSetTime_frame (x f n : Nat) (s : State) :
    (broadcastSetTime x f n s).riu = s.riu
    ∧ (broadcastSetTime x f n s).tiu = s.tiu
    ∧ (broadcastSetTime x f n s).ct = s.ct
    ∧ (broadcastSetTime x f n s).tgr = s.tgr
    ∧ (broadcastSetTime x f n s).usm = s.usm
    ∧ (broadcastSetTime x f n s).rha = s.rha
    ∧ (broadcastSetTime x f n s).asc = s.asc
    ∧ (broadcastSetTime x f n s).spm = s.spm
    ∧ (broadcastSetTime x f n s).pending = s.pending
    ∧ (broadcastSetTime x f n s).lnu.address = s.lnu.address
    ∧ (broadcastSetTime x f n s).lnu.fast = s.lnu.fast
    ∧ (broadcastSetTime x f n s).lnu.answering = s.lnu.answering
    ∧ (broadcastSetTime x f n s).lnu.rx = s.lnu.rx
    ∧ (broadcastSetTime x f n s).lnu.tx = s.lnu.tx
    ∧ (broadcastSetTime x f n s).lnu.driver = s.lnu.driver
    ∧ (broadcastSetTime x f n s).lnu.errors = s.lnu.errors
    ∧ (broadcastSetTime x f n s).lnu.masks = s.lnu.masks
    ∧ (broadcastSetTime x f n s).lnu.caseLamp = s.lnu.caseLamp
    ∧ (broadcastSetTime x f n s).lnu.presenceLine = s.lnu.presenceLine := by
  unfold broadcastSetTime askSetTime; (repeat' split) <;> simp

/-- What `warmStart` leaves unchanged. -/
@[simp] theorem warmStart_frame (a : BitVec 5) (f : Bool) (d : Nat) (s : State) :
    (warmStart a f d s).pending = s.pending
    ∧ (warmStart a f d s).lnu.masks = s.lnu.masks := by
  simp [warmStart, Lnu.restarted, Lnu.evalAttention]

/-- What `coldStart` leaves unchanged. -/
@[simp] theorem coldStart_frame (a : BitVec 5) (f : Bool) (s : State) :
    (coldStart a f s).pending = s.pending := by
  simp [coldStart, coldBlocks]

/-! ### The scan (R96) -/

/-- Nine channels on, the scan stands where it stood. -/
theorem nextChannel_nine (c : Channel) : nextChannel^[9] c = c := by
  rcases c with u | _
  · cases u <;> rfl
  · rfl

/-- A sample does not move the scan: the event that takes it does. -/
@[simp] theorem takeSample_scan (c : Channel) (raw : Nat) (s : State) :
    (takeSample c raw s).usm.scan = s.usm.scan := by
  cases c with
  | speed u =>
    simp only [takeSample, speedSample, recoverSpeed, evalSpeed, settleSpeed]
    (repeat' split) <;> simp
  | supply => simp [takeSample, supplySample]

/-- A sample event takes the channel the scan has come to and moves the scan on, or changes nothing. -/
theorem execSampleEvent_cases {c : Channel} {raw : BitVec 10} {s t : State}
    (h : execSampleEvent c raw s = .next t) :
    (s.powered = true ∧ s.usm.scan = c ∧ t.usm.scan = nextChannel c
        ∧ t = takeSample c raw.toNat { s with usm := { s.usm with scan := nextChannel c } })
      ∨ ((s.powered = false ∨ s.usm.scan ≠ c) ∧ t = s) := by
  obtain rfl := Host.Outcome.next.inj h
  split
  · rename_i g
    exact .inl ⟨g.1, g.2, by simp, rfl⟩
  · rename_i g
    exact .inr ⟨by simpa [Decidable.imp_iff_not_or] using g, rfl⟩

end Sys2Proof.Machine
end

