-- ==== Sys2Proof/Laws/Tables.lean ====
section
/-! SUPPORT. Reading a table after a write, a fill or a map. -/

namespace Sys2Proof.Machine

variable {α β : Type}

@[simp] theorem PerUnit.get_set (p : PerUnit α) (u v : UnitId) (a : α) :
    (p.set u a).get v = if v = u then a else p.get v := by cases u <;> cases v <;> rfl

@[simp] theorem PerUnit.get_fill (a : α) (u : UnitId) : (PerUnit.fill a).get u = a := by cases u <;> rfl

@[simp] theorem PerUnit.get_map (p : PerUnit α) (f : α → β) (u : UnitId) :
    (p.map f).get u = f (p.get u) := by cases u <;> rfl

/-- An entry of the list is the entry of some unit. -/
theorem PerUnit.mem_toList (p : PerUnit α) (a : α) : a ∈ p.toList ↔ ∃ u, p.get u = a := by
  constructor
  · intro h
    simp only [PerUnit.toList, List.mem_cons, List.not_mem_nil, or_false] at h
    rcases h with h | h | h | h | h | h | h | h
    exacts [⟨.u1, h.symm⟩, ⟨.u2, h.symm⟩, ⟨.u3, h.symm⟩, ⟨.u4, h.symm⟩, ⟨.u5, h.symm⟩, ⟨.u6, h.symm⟩,
      ⟨.u7, h.symm⟩, ⟨.u8, h.symm⟩]
  · rintro ⟨u, rfl⟩
    cases u <;> simp [PerUnit.toList, PerUnit.get]

/-- Two tables with the same entries are equal. -/
theorem PerUnit.ext_get (p q : PerUnit α) (h : ∀ u, p.get u = q.get u) : p = q :=
  PerUnit.ext (h .u1) (h .u2) (h .u3) (h .u4) (h .u5) (h .u6) (h .u7) (h .u8)

@[simp] theorem PerInput.get_set (p : PerInput α) (i j : InputId) (a : α) :
    (p.set i a).get j = if j = i then a else p.get j := by cases i <;> cases j <;> rfl

@[simp] theorem PerInput.get_fill (a : α) (i : InputId) : (PerInput.fill a).get i = a := by cases i <;> rfl

@[simp] theorem PerInput.get_map (p : PerInput α) (f : α → β) (i : InputId) :
    (p.map f).get i = f (p.get i) := by cases i <;> rfl

/-- Two tables with the same entries are equal. -/
theorem PerInput.ext_get (p q : PerInput α) (h : ∀ i, p.get i = q.get i) : p = q :=
  PerInput.ext (h .i1) (h .i2) (h .i3) (h .i4)

@[simp] theorem PerKind.get_set (p : PerKind α) (k l : Kind) (a : α) :
    (p.set k a).get l = if l = k then a else p.get l := by cases k <;> cases l <;> rfl

@[simp] theorem PerKind.get_fill (a : α) (k : Kind) : (PerKind.fill a).get k = a := by cases k <;> rfl

@[simp] theorem PerKind.get_map (p : PerKind α) (f : α → β) (k : Kind) :
    (p.map f).get k = f (p.get k) := by cases k <;> rfl

@[simp] theorem PerSlot.get_set (p : PerSlot α) (i j : SlotId) (a : α) :
    (p.set i a).get j = if j = i then a else p.get j := by cases i <;> cases j <;> rfl

@[simp] theorem PerSlot.get_fill (a : α) (i : SlotId) : (PerSlot.fill a).get i = a := by cases i <;> rfl

@[simp] theorem PerSlot.get_map (p : PerSlot α) (f : α → β) (i : SlotId) :
    (p.map f).get i = f (p.get i) := by cases i <;> rfl

@[simp] theorem PerNotice.get_set (p : PerNotice α) (n m : Notice) (a : α) :
    (p.set n a).get m = if m = n then a else p.get m := by cases n <;> cases m <;> rfl

@[simp] theorem PerNotice.get_fill (a : α) (n : Notice) : (PerNotice.fill a).get n = a := by cases n <;> rfl

/-- Every unit stands in the order of the units. -/
@[simp] theorem mem_allUnits (u : UnitId) : u ∈ allUnits := by cases u <;> decide

/-- Every account stands in walk order. -/
@[simp] theorem mem_walkOrder (u : UnitId) (k : Kind) : (u, k) ∈ walkOrder := by
  cases u <;> cases k <;> decide

/-- Every input stands in input order. -/
@[simp] theorem mem_inputOrder (u : UnitId) (i : InputId) : (u, i) ∈ inputOrder := by
  cases u <;> cases i <;> decide

/-- A key names the unit whose number it is. -/
theorem unitOf?_eq_some (n : Nat) (u : UnitId) : unitOf? n = some u ↔ n = unitNumber u := by
  constructor
  · intro h
    unfold unitOf? at h
    split at h <;> simp_all [unitNumber] <;> subst h <;> rfl
  · rintro rfl
    cases u <;> rfl

end Sys2Proof.Machine
end

