-- ==== Sys2Proof/Laws/State.lean ====
section
/-! SUPPORT. Reading the state after an update: one lemma for each accessor and each update. -/

namespace Sys2Proof.Machine

/-! ### Units -/

@[simp] theorem State.unit_setUnit (s : State) (u v : UnitId) (r : UnitRecord) :
    (s.setUnit u r).unit v = if v = u then r else s.unit v := by simp [State.unit, State.setUnit]

/-- Units are read from the Unit State Monitor alone. -/
theorem State.unit_congr {s t : State} (h : s.usm = t.usm) (u : UnitId) : s.unit u = t.unit u := by
  simp [State.unit, h]

/-! ### Accounts and tallies -/

@[simp] theorem State.account_setAccount (s : State) (u v : UnitId) (k l : Kind) (a : Account) :
    (s.setAccount u k a).account v l = if v = u ∧ l = k then a else s.account v l := by
  simp only [State.account, State.setAccount, PerUnit.get_set]
  by_cases h : v = u
  · subst h; by_cases h' : l = k <;> simp [h']
  · simp [h]

@[simp] theorem State.account_setTally (s : State) (u v : UnitId) (k l : Kind) (n : Nat) :
    (s.setTally u k n).account v l = s.account v l := by simp [State.account, State.setTally]

@[simp] theorem State.tally_setAccount (s : State) (u v : UnitId) (k l : Kind) (a : Account) :
    (s.setAccount u k a).tally v l = s.tally v l := by simp [State.tally, State.setAccount]

@[simp] theorem State.tally_setTally (s : State) (u v : UnitId) (k l : Kind) (n : Nat) :
    (s.setTally u k n).tally v l = if v = u ∧ l = k then n else s.tally v l := by
  simp only [State.tally, State.setTally, PerUnit.get_set]
  by_cases h : v = u
  · subst h; by_cases h' : l = k <;> simp [h']
  · simp [h]

@[simp] theorem State.tally_setStatus (s : State) (u v : UnitId) (k l : Kind) (p : Persistence) :
    (s.setStatus u k p).tally v l = s.tally v l := by simp [State.setStatus]

@[simp] theorem State.account_setStatus (s : State) (u v : UnitId) (k l : Kind) (p : Persistence) :
    (s.setStatus u k p).account v l =
      if v = u ∧ l = k then { s.account u k with status := p } else s.account v l := by
  simp [State.setStatus]

/-- Accounts are read from the Run-Hour Accounts alone. -/
theorem State.account_congr {s t : State} (h : s.rha = t.rha) (u : UnitId) (k : Kind) :
    s.account u k = t.account u k := by simp [State.account, h]

/-- Tallies are read from the Run-Hour Accounts alone. -/
theorem State.tally_congr {s t : State} (h : s.rha = t.rha) (u : UnitId) (k : Kind) :
    s.tally u k = t.tally u k := by simp [State.tally, h]

/-! ### Inputs -/

@[simp] theorem State.input_setInput (s : State) (u v : UnitId) (i j : InputId) (t : TripInput) :
    (s.setInput u i t).input v j = if v = u ∧ j = i then t else s.input v j := by
  simp only [State.input, State.setInput, PerUnit.get_set]
  by_cases h : v = u
  · subst h; by_cases h' : j = i <;> simp [h']
  · simp [h]

/-- Inputs are read from the Trip Input Unit alone. -/
theorem State.input_congr {s t : State} (h : s.tiu = t.tiu) (u : UnitId) (i : InputId) :
    s.input u i = t.input u i := by simp [State.input, h]

/-! ### Case sets and slots -/

@[simp] theorem State.caseSet_setCaseSet (s : State) (u v : UnitId) (c : CaseSet) :
    (s.setCaseSet u c).caseSet v = if v = u then c else s.caseSet v := by
  simp [State.caseSet, State.setCaseSet]

@[simp] theorem State.slot_setSlot (s : State) (u v : UnitId) (i j : SlotId) (c : Option Case) :
    (s.setSlot u i c).slot v j = if v = u ∧ j = i then c else s.slot v j := by
  simp only [State.slot, State.setSlot, State.caseSet_setCaseSet]
  by_cases h : v = u
  · subst h; by_cases h' : j = i <;> simp [h']
  · simp [h]

/-- Case sets are read from the Case Table alone. -/
theorem State.caseSet_congr {s t : State} (h : s.ct = t.ct) (u : UnitId) : s.caseSet u = t.caseSet u := by
  simp [State.caseSet, h]

/-- Slots are read from the Case Table alone. -/
theorem State.slot_congr {s t : State} (h : s.ct = t.ct) (u : UnitId) (i : SlotId) :
    s.slot u i = t.slot u i := by simp [State.slot, State.caseSet_congr h]

/-! ### Sources -/

@[simp] theorem Riu.source_setSource (r : Riu) (x y : SourceId) (v : Source) :
    (r.setSource x v).source y = if y = x then v else r.source y := by
  cases x <;> cases y <;> rfl

@[simp] theorem Riu.selection_setSource (r : Riu) (x : SourceId) (v : Source) :
    (r.setSource x v).selection = r.selection := by cases x <;> rfl

end Sys2Proof.Machine
end

