-- ==== Sys2Proof/Laws/Cases.lean ====
section
/-! SUPPORT. What the shared operations of the Case Table do: finding a case, reporting a change, and the change of
one case by a command. -/

namespace Sys2Proof.Machine

/-- A case found by its number stands in the slot found. -/
theorem findCase_slot {s : State} {n : Nat} {u : UnitId} {j : SlotId} {c : Case}
    (h : s.findCase n = some (u, j, c)) : s.slot u j = some c := by
  unfold State.findCase at h
  obtain ⟨x, -, hx⟩ := List.exists_of_findSome?_eq_some h
  split at hx
  · split at hx
    · simp at hx
      obtain ⟨rfl, rfl, rfl⟩ := hx
      assumption
    · cases hx
  · cases hx

/-- The case-held indicator of a case set says that it holds an asserted case that is not a TEST case (R73). -/
theorem holdsCase_iff (x : CaseSet) :
    holdsCase x = true ↔
      ∃ j c, x.slots.get j = some c ∧ (c.state = .active ∨ c.state = .activeAck) ∧ c.test = false := by
  have trip (o : Option Case) :
      holdsTrip o = true ↔ ∃ c, o = some c ∧ (c.state = .active ∨ c.state = .activeAck) ∧ c.test = false := by
    cases o <;> simp [holdsTrip, Case.asserted]
  simp only [holdsCase, PerSlot.toList, List.any_cons, List.any_nil, Bool.or_false, Bool.or_eq_true, trip]
  constructor
  · rintro (⟨c, h⟩ | ⟨c, h⟩ | ⟨c, h⟩ | ⟨c, h⟩)
    exacts [⟨.s0, c, h⟩, ⟨.s1, c, h⟩, ⟨.s2, c, h⟩, ⟨.s3, c, h⟩]
  · rintro ⟨j, c, h⟩
    cases j
    exacts [.inl ⟨c, h⟩, .inr (.inl ⟨c, h⟩), .inr (.inr (.inl ⟨c, h⟩)), .inr (.inr (.inr ⟨c, h⟩))]

/-- The mode a unit's record derives is the one its four items give (R104). -/
theorem derivedMode_eq (r : UnitRecord) :
    r.derivedMode = Safety.modeOf r.tripped r.breaker.stable r.pumpMode.stable r.speed := by
  unfold UnitRecord.derivedMode Safety.modeOf UnitRecord.rotating
  cases r.tripped <;> cases r.breaker.stable <;> cases r.pumpMode.stable <;> cases r.speed <;> simp

/-- What the TRIPPED clearing check does: it clears a set flag, with the mode evaluated, in STANDSTILL with no
case held (R105). -/
theorem checkTripped_eq (r : UnitRecord) :
    let clears := r.tripped && r.speed == .standstill && !r.caseHeld
    r.checkTripped = { r with
      tripped := r.tripped && !clears
      mode := if clears then Safety.modeOf false r.breaker.stable r.pumpMode.stable r.speed else r.mode } := by
  unfold UnitRecord.checkTripped
  split <;> rename_i h <;> simp only [UnitRecord.mayClear, ← Bool.and_assoc] at h
  · simp [h, UnitRecord.evaluated, derivedMode_eq]
  · simp [Bool.eq_false_iff.mpr h]

/-- The report of a change of one unit's cases changes that unit's record alone (R73). -/
theorem report_one (u : UnitId) (s : State) : Safety.OnlyReported u s (report [u] s) := by
  refine ⟨rfl, rfl, fun v hv => ?_, ?_, ?_⟩
  · simp [report, reportUnit, hv]; rfl
  · simp only [report, List.foldl, reportUnit, State.unit_setUnit, if_true, checkTripped_eq]
    exact holdsCase_iff _
  · simp only [report, List.foldl, reportUnit, State.unit_setUnit, if_true, checkTripped_eq]
    rfl

/-- Showing presence changes the presence timer and the alarm alone of the shift context (R165). -/
theorem showPresence_fields (n : Nat) (s : State) :
    (showPresence n s).shc = { s.shc with
        presenceBy := (showPresence n s).shc.presenceBy, alarm := (showPresence n s).shc.alarm }
      ∧ (showPresence n s).lnu.flags = s.lnu.flags := by
  unfold showPresence; split <;> simp [restartPresence, setAlarm]

/-- The slots after the change of one case by a command (R66, R67). -/
theorem slot_changeCase (u v : UnitId) (j k : SlotId) (c : Case) (s : State) :
    (changeCase u j c s).slot v k = if v = u ∧ k = j then some c else s.slot v k := by
  have h : (changeCase u j c s).ct = (touchSlot u j (s.setSlot u j (some c))).ct := by simp [changeCase]
  have e : (touchSlot u j (s.setSlot u j (some c))).slot v k = (s.setSlot u j (some c)).slot v k := by
    unfold State.slot touchSlot
    simp only [State.caseSet_setCaseSet]
    split
    · rename_i h; subst h; cases j <;> rfl
    · rfl
  rw [State.slot_congr h, e, State.slot_setSlot]

/-- The case set after the change of one case by a command: the slot is accessed (R70). -/
theorem caseSet_changeCase (u : UnitId) (j : SlotId) (c : Case) (s : State) :
    (changeCase u j c s).caseSet u
      = { (s.caseSet u).touch j with slots := ((changeCase u j c s).caseSet u).slots } := by
  have h : (changeCase u j c s).ct = (touchSlot u j (s.setSlot u j (some c))).ct := by simp [changeCase]
  rw [State.caseSet_congr h]
  simp [touchSlot, State.setSlot]
  cases j <;> rfl

end Sys2Proof.Machine
end

