-- ==== Sys2Proof/Laws/Requests.lean ====
section
/-! SUPPORT. What serving a request comes to, and the one list of what a block can be asked to do: a proof about
every request is a proof about each entry of the list. -/

namespace Sys2Proof.Machine

/-! ### Serving a request (R175 to R178) -/

/-- In RUN a request that is heard is answered by its block. -/
theorem serve_run {code : Nat} {d : Bool} {act : State → State × Answer} {s : State}
    (h : s.listening = true) (h' : s.spm.supply = .run) :
    serve code d act s = sendReply code (act s).2 (act s).1 := by
  unfold serve; rw [if_pos h, if_neg]; simp [h']

/-- A request that hold-up does not turn away is answered by its block in RUN and in HOLDUP. -/
theorem serve_always {code : Nat} {act : State → State × Answer} {s : State} (h : s.listening = true) :
    serve code true act s = sendReply code (act s).2 (act s).1 := by
  unfold serve; rw [if_pos h, if_neg]; simp

/-- In HOLDUP any other request is answered HOLDUP and changes nothing. -/
theorem serve_holdup {code : Nat} {act : State → State × Answer} {s : State} (h : s.listening = true)
    (h' : s.spm.supply = .holdup) : serve code false act s = sendReply code (refuse .holdup) s := by
  unfold serve; rw [if_pos h, if_pos]; simp [h']

/-- A request that is not heard has no effect. -/
theorem serve_unheard {code : Nat} {d : Bool} {act : State → State × Answer} {s : State}
    (h : s.listening = false) : serve code d act s = s := by
  unfold serve; rw [if_neg]; simp [h]

/-- What serving a request can come to. -/
theorem serve_cases (code : Nat) (d : Bool) (act : State → State × Answer) (s : State) :
    (s.listening = false ∧ serve code d act s = s)
      ∨ (s.listening = true ∧ s.spm.supply = .holdup ∧ d = false
          ∧ serve code d act s = sendReply code (refuse .holdup) s)
      ∨ (s.listening = true ∧ (s.spm.supply = .run ∨ d = true)
          ∧ serve code d act s = sendReply code (act s).2 (act s).1) := by
  cases h : s.listening
  · exact .inl ⟨rfl, serve_unheard h⟩
  · cases d
    · have hp : s.spm.supply ≠ .backup := by
        simp [State.listening, State.powered] at h; exact h.1.1
      cases h' : s.spm.supply
      · exact .inr (.inr ⟨rfl, .inl rfl, serve_run h h'⟩)
      · exact .inr (.inl ⟨rfl, rfl, rfl, serve_holdup h h'⟩)
      · exact absurd h' hp
    · exact .inr (.inr ⟨rfl, .inr rfl, serve_always h⟩)

/-- Serving a request keeps what its block and the sending of a reply keep. -/
theorem serve_keeps {P : State → Prop} {code : Nat} {d : Bool} {act : State → State × Answer} {s : State}
    (reply : ∀ a t, P t → P (sendReply code a t)) (block : s.listening = true → P s → P (act s).1) (h : P s) :
    P (serve code d act s) := by
  rcases serve_cases code d act s with ⟨-, e⟩ | ⟨-, -, -, e⟩ | ⟨l, -, e⟩
  · rw [e]; exact h
  · rw [e]; exact reply _ _ h
  · rw [e]; exact reply _ _ (block l h)

/-! ### Everything a block can be asked to do (R176, R190) -/

/-- The requests of the part: one entry for each command, and the three refusals a frame can bring. -/
inductive BlockAct : (State → State × Answer) → Prop where
  | badLength : BlockAct fun s => (s, refuse .badLength)
  | badLetter : BlockAct fun s => (s, refuse .outOfRange)
  | readTime : BlockAct askReadTime
  | setTime (a b c : Nat) (ha : a < 2 ^ 32) (hb : b < 2 ^ 32) (hc : c < 2 ^ 32) :
    BlockAct (askSetTime a b c)
  | readTimebase : BlockAct askReadTimebase
  | setReference (a b c d : Nat) (ha : a < 2 ^ 8) (hb : b < 2 ^ 8) (hc : c < 2 ^ 8) (hd : d < 2 ^ 16) :
    BlockAct (askSetReference a b c d)
  | setLoop (a b c : Nat) (ha : a < 2 ^ 8) (hb : b < 2 ^ 32) (hc : c < 2 ^ 16) :
    BlockAct (askSetLoop a b c)
  | setInput (a b c d e f g : Nat) (ha : a < 2 ^ 8) (hb : b < 2 ^ 8) (hc : c < 2 ^ 8) (hd : d < 2 ^ 8) (he : e < 2 ^ 8) (hf : f < 2 ^ 8) (hg : g < 2 ^ 8) :
    BlockAct (askSetInput a b c d e f g)
  | readInput (a b c : Nat) (ha : a < 2 ^ 8) (hb : b < 2 ^ 8) (hc : c < 2 ^ 8) :
    BlockAct (askReadInput a b c)
  | setTestMode (a b : Nat) (ha : a < 2 ^ 8) (hb : b < 2 ^ 8) :
    BlockAct (askSetTestMode a b)
  | readCase (a : Nat) (ha : a < 2 ^ 16) :
    BlockAct (askReadCase a)
  | listCases (a b : Nat) (ha : a < 2 ^ 8) (hb : b < 2 ^ 16) :
    BlockAct (askListCases a b)
  | ackCase (a b : Nat) (ha : a < 2 ^ 16) (hb : b < 2 ^ 16) :
    BlockAct (askAckCase a b)
  | clearCase (a b : Nat) (ha : a < 2 ^ 16) (hb : b < 2 ^ 16) :
    BlockAct (askClearCase a b)
  | retireCase (a : Nat) (ha : a < 2 ^ 16) :
    BlockAct (askRetireCase a)
  | readOverflow (a : Nat) (ha : a < 2 ^ 8) :
    BlockAct (askReadOverflow a)
  | clearOverflow (a : Nat) (ha : a < 2 ^ 8) :
    BlockAct (askClearOverflow a)
  | readGroup (a : Nat) (ha : a < 2 ^ 8) :
    BlockAct (askReadGroup a)
  | setGroupWindow (a : Nat) (ha : a < 2 ^ 8) :
    BlockAct (askSetGroupWindow a)
  | readUnit (a : Nat) (ha : a < 2 ^ 8) :
    BlockAct (askReadUnit a)
  | setSpeedBands (a b c d e : Nat) (ha : a < 2 ^ 8) (hb : b < 2 ^ 16) (hc : c < 2 ^ 16) (hd : d < 2 ^ 16) (he : e < 2 ^ 16) :
    BlockAct (askSetSpeedBands a b c d e)
  | setSpeedCal (a b c : Nat) (ha : a < 2 ^ 8) (hb : b < 2 ^ 8) (hc : c < 2 ^ 8) :
    BlockAct (askSetSpeedCal a b c)
  | readAccount (a b : Nat) (ha : a < 2 ^ 8) (hb : b < 2 ^ 8) :
    BlockAct (askReadAccount a b)
  | presetAccount (a b c d : Nat) (ha : a < 2 ^ 8) (hb : b < 2 ^ 8) (hc : c < 2 ^ 32) (hd : d < 2 ^ 32) :
    BlockAct (askPresetAccount a b c d)
  | retireAccount (a b : Nat) (ha : a < 2 ^ 8) (hb : b < 2 ^ 8) :
    BlockAct (askRetireAccount a b)
  | reinstateAccount (a b : Nat) (ha : a < 2 ^ 8) (hb : b < 2 ^ 8) :
    BlockAct (askReinstateAccount a b)
  | commit : BlockAct askCommit
  | setStore (a b : Nat) (ha : a < 2 ^ 8) (hb : b < 2 ^ 8) :
    BlockAct (askSetStore a b)
  | readStoreStatus : BlockAct askReadStoreStatus
  | setRoster (l : List Nat) (h : ∀ m ∈ l, m < 2 ^ 16) : BlockAct (askSetRoster l)
  | signOn (a b : Nat) (ha : a < 2 ^ 16) (hb : b < 2 ^ 8) :
    BlockAct (askSignOn a b)
  | presence (a : Nat) (ha : a < 2 ^ 16) :
    BlockAct (askPresence a)
  | offer (a : Nat) (ha : a < 2 ^ 16) :
    BlockAct (askOffer a)
  | readHandover (a : Nat) (ha : a < 2 ^ 8) :
    BlockAct (askReadHandover a)
  | accept (a b c : Nat) (ha : a < 2 ^ 16) (hb : b < 2 ^ 16) (hc : c < 2 ^ 8) :
    BlockAct (askAccept a b c)
  | withdraw (a : Nat) (ha : a < 2 ^ 16) :
    BlockAct (askWithdraw a)
  | readShift : BlockAct askReadShift
  | readPreviousShift : BlockAct askReadPreviousShift
  | setShiftTiming (a b c d : Nat) (ha : a < 2 ^ 8) (hb : b < 2 ^ 8) (hc : c < 2 ^ 8) (hd : d < 2 ^ 8) :
    BlockAct (askSetShiftTiming a b c d)
  | readNotices : BlockAct askReadNotices
  | setNoticeMask (a b c d e f : Nat) (ha : a < 2 ^ 8) (hb : b < 2 ^ 8) (hc : c < 2 ^ 8) (hd : d < 2 ^ 8) (he : e < 2 ^ 8) (hf : f < 2 ^ 8) :
    BlockAct (askSetNoticeMask a b c d e f)
  | resetGroupT : BlockAct askResetT
  | resetGroupC : BlockAct askResetC
  | resetGroupA : BlockAct askResetA
  | resetGroupS : BlockAct askResetS
  | identify : BlockAct askIdentify
  | unknownCommand : BlockAct askUnknown

/-- A list of bytes holds a number below 256 to the power of its length. -/
theorem fromBytes_lt (l : List Byte) : fromBytes l < 256 ^ l.length := by
  have key : ∀ (l : List Byte) (n k : Nat), n < 256 ^ k →
      l.foldl (fun n b => n * 256 + b.toNat) n < 256 ^ (k + l.length) := by
    intro l
    induction l with
    | nil => intro n k h; simpa using h
    | cons b l ih =>
      intro n k h
      have hb : b.toNat < 256 := b.isLt
      have := ih (n * 256 + b.toNat) (k + 1) (by rw [Nat.pow_succ]; omega)
      simpa [Nat.add_assoc, Nat.add_comm 1] using this
  simpa [fromBytes] using key l 0 0 (by simp)

/-- A field is below 256 to the power of its width. -/
theorem field_lt (b : List Byte) (pos width : Nat) : field b pos width < 256 ^ width :=
  Nat.lt_of_lt_of_le (fromBytes_lt _) (Nat.pow_le_pow_right (by decide) (List.length_take_le _ _))

/-- A one-byte field. -/
theorem field_lt_8 (b : List Byte) (pos : Nat) : field b pos 1 < 2 ^ 8 := field_lt b pos 1

/-- A two-byte field. -/
theorem field_lt_16 (b : List Byte) (pos : Nat) : field b pos 2 < 2 ^ 16 := field_lt b pos 2

/-- A four-byte field. -/
theorem field_lt_32 (b : List Byte) (pos : Nat) : field b pos 4 < 2 ^ 32 := field_lt b pos 4

/-- The minutes of a roster body are two-byte numbers. -/
theorem bodyMinutes_lt (b : List Byte) : ∀ m ∈ bodyMinutes b, m < 2 ^ 16 := by
  induction b using bodyMinutes.induct with
  | case1 a b rest ih =>
    intro m hm
    simp only [bodyMinutes, List.mem_cons] at hm
    rcases hm with rfl | hm
    · have := fromBytes_lt [a, b]
      simpa using this
    · exact ih m hm
  | case2 l h =>
    intro m hm
    unfold bodyMinutes at hm
    split at hm
    · exact absurd rfl (h _ _ _)
    · simp at hm

/-- A sized request is its block's act or BAD_LENGTH. -/
theorem BlockAct.sized {n : Nat} {d : Bool} {b : List Byte} {act : State → State × Answer}
    (h : BlockAct act) : BlockAct (Request.sized n d b act).act := by
  simp only [Request.sized]; split
  · exact h
  · exact .badLength

/-- The letter of a group reset names an entry of the list. -/
theorem askResetGroup_blockAct (n : Nat) : BlockAct (askResetGroup n) := by
  unfold askResetGroup; split <;> with_reducible constructor

/-- A request of the time, input and case commands is an entry of the list. -/
theorem requestLow_blockAct {code : Nat} {b : List Byte} {r : Request} (h : requestLow code b = some r) :
    BlockAct r.act := by
  unfold requestLow at h
  split at h <;> first
    | (cases h; done)
    | (obtain rfl := Option.some.inj h; exact BlockAct.sized
        (by with_reducible constructor <;> first | exact field_lt_8 _ _ | exact field_lt_16 _ _ | exact field_lt_32 _ _))

/-- A request of the unit, account and store commands is an entry of the list. -/
theorem requestMid_blockAct {code : Nat} {b : List Byte} {r : Request} (h : requestMid code b = some r) :
    BlockAct r.act := by
  unfold requestMid at h
  split at h <;> first
    | (cases h; done)
    | (obtain rfl := Option.some.inj h; exact BlockAct.sized
        (by with_reducible constructor <;> first | exact field_lt_8 _ _ | exact field_lt_16 _ _ | exact field_lt_32 _ _))

/-- A request of the shift and link commands is an entry of the list. -/
theorem requestHigh_blockAct {code : Nat} {b : List Byte} {r : Request} (h : requestHigh code b = some r) :
    BlockAct r.act := by
  unfold requestHigh at h
  split at h <;> first
    | (cases h; done)
    | (obtain rfl := Option.some.inj h; exact BlockAct.sized (askResetGroup_blockAct _))
    | (obtain rfl := Option.some.inj h
       exact BlockAct.sized (.setRoster _ (bodyMinutes_lt _)))
    | (obtain rfl := Option.some.inj h; exact BlockAct.sized
        (by with_reducible constructor <;> first | exact field_lt_8 _ _ | exact field_lt_16 _ _))

/-- The request of any command code and body is an entry of the list. -/
theorem requestOf_blockAct (code : Nat) (b : List Byte) : BlockAct (requestOf code b).act := by
  unfold requestOf
  cases h : requestLow code b with
  | some r => exact requestLow_blockAct h
  | none =>
    cases h' : requestMid code b with
    | some r => exact requestMid_blockAct h'
    | none =>
      cases h'' : requestHigh code b with
      | some r => exact requestHigh_blockAct h''
      | none => exact .unknownCommand

/-! ### What every command and every frame keeps -/

/-- A good frame keeps what the blocks, a reply and a broadcast keep. -/
theorem takeFrame_keeps {P : State → Prop} {bytes : List Byte} {s : State}
    (reply : ∀ code a t, P t → P (sendReply code a t))
    (block : ∀ act t, BlockAct act → t.listening = true → P t → P (act t).1)
    (broadcast : ∀ x f n t, x < 2 ^ 32 → f < 2 ^ 32 → n < 2 ^ 32 → P t → P (broadcastSetTime x f n t)) (h : P s) : P (takeFrame bytes s) := by
  simp only [takeFrame]
  split
  · simp only [takeBroadcast]; split
    · exact broadcast _ _ _ _ (field_lt_32 _ _) (field_lt_32 _ _) (field_lt_32 _ _) h
    · exact h
  · split
    · exact serve_keeps (reply _) (fun l => block _ _ (requestOf_blockAct _ _) l) h
    · exact h

/-- The end of a frame keeps what the blocks, a reply, a broadcast, the receiver and the error count keep. -/
theorem frameEnd_keeps {P : State → Prop} {s t : State}
    (reply : ∀ code a t, P t → P (sendReply code a t))
    (block : ∀ act t, BlockAct act → t.listening = true → P t → P (act t).1)
    (broadcast : ∀ x f n t, x < 2 ^ 32 → f < 2 ^ 32 → n < 2 ^ 32 → P t → P (broadcastSetTime x f n t))
    (receiver : ∀ r t, P t → P (setRx r t)) (count : ∀ t, P t → P (countError t)) (h : P s)
    (e : execFrameEnd s = .next t) : P t := by
  simp only [execFrameEnd, Host.Outcome.next.injEq] at e
  subst e
  split
  · split
    · exact h
    · exact receiver _ _ h
    · split
      · exact takeFrame_keeps reply block broadcast (receiver _ _ h)
      · exact count _ (receiver _ _ h)
  · exact h

/-- A command of the station controller keeps what its block, a reply and a broadcast keep. -/
theorem command_keeps {P : State → Prop} {i : Instr} {s t : State}
    (reply : ∀ code a t, P t → P (sendReply code a t))
    (block : ∀ act t, BlockAct act → t.listening = true → P t → P (act t).1)
    (broadcast : ∀ x f n t, x < 2 ^ 32 → f < 2 ^ 32 → n < 2 ^ 32 → P t → P (broadcastSetTime x f n t)) (h : P s)
    (c : (Safety.requestBytes i).isSome = true) (e : exec i s = .next t) : P t := by
  cases i <;> first
    | (exfalso; revert c; simp [Safety.requestBytes]; done)
    | (simp only [exec, execSetTime, Host.Outcome.next.injEq] at e
       subst e
       split
       · exact broadcast _ _ _ _ (BitVec.isLt _) (BitVec.isLt _) (BitVec.isLt _) h
       · exact serve_keeps (reply _) (fun l => block _ _ (.setTime _ _ _ (BitVec.isLt _) (BitVec.isLt _) (BitVec.isLt _)) l) h)
    | (simp only [exec, execUnknownCommand, Host.Outcome.next.injEq] at e
       subst e
       split
       · exact h
       · exact serve_keeps (reply _) (fun l => block _ _ .unknownCommand l) h)
    | (obtain rfl := Host.Outcome.next.inj e
       exact serve_keeps (reply _) (fun l => block _ _
         (by with_reducible constructor <;> first
            | exact BitVec.isLt _
            | exact List.forall_mem_map.2 fun _ _ => BitVec.isLt _) l) h)

end Sys2Proof.Machine
end

