-- ==== Sys2Proof/Laws/Rows.lean ====
section
/-! SUPPORT. What each command's block and each event leaves unchanged, one lemma for each. -/

namespace Sys2Proof.Machine

/-! ### Commands -/

@[simp] theorem askReadTime_state (s : State) : (askReadTime s).1 = s := by
  rfl

@[simp] theorem askReadTimebase_state (s : State) : (askReadTimebase s).1 = s := by
  rfl

@[simp] theorem askReadCase_state (n : Nat) (s : State) : (askReadCase n s).1 = s := by
  unfold askReadCase; (repeat' split) <;> rfl

@[simp] theorem askListCases_state (x n : Nat) (s : State) : (askListCases x n s).1 = s := by
  unfold askListCases; (repeat' split) <;> rfl

@[simp] theorem askReadOverflow_state (n : Nat) (s : State) : (askReadOverflow n s).1 = s := by
  unfold askReadOverflow; (repeat' split) <;> rfl

@[simp] theorem askReadGroup_state (n : Nat) (s : State) : (askReadGroup n s).1 = s := by
  unfold askReadGroup; (repeat' split) <;> rfl

@[simp] theorem askReadUnit_state (n : Nat) (s : State) : (askReadUnit n s).1 = s := by
  unfold askReadUnit; (repeat' split) <;> rfl

@[simp] theorem askReadAccount_state (u k : Nat) (s : State) : (askReadAccount u k s).1 = s := by
  unfold askReadAccount; (repeat' split) <;> rfl

@[simp] theorem askReadStoreStatus_state (s : State) : (askReadStoreStatus s).1 = s := by
  rfl

@[simp] theorem askReadHandover_state (p : Nat) (s : State) : (askReadHandover p s).1 = s := by
  unfold askReadHandover; (repeat' split) <;> rfl

@[simp] theorem askReadShift_state (s : State) : (askReadShift s).1 = s := by
  rfl

@[simp] theorem askReadPreviousShift_state (s : State) : (askReadPreviousShift s).1 = s := by
  unfold askReadPreviousShift; (repeat' split) <;> rfl

@[simp] theorem askIdentify_state (s : State) : (askIdentify s).1 = s := by
  rfl

@[simp] theorem askUnknown_state (s : State) : (askUnknown s).1 = s := by
  rfl

/-- What `askSetTime` leaves unchanged. -/
@[simp] theorem askSetTime_frame (x f n : Nat) (s : State) :
    (askSetTime x f n s).1.riu = s.riu
    ∧ (askSetTime x f n s).1.tiu = s.tiu
    ∧ (askSetTime x f n s).1.ct = s.ct
    ∧ (askSetTime x f n s).1.tgr = s.tgr
    ∧ (askSetTime x f n s).1.usm = s.usm
    ∧ (askSetTime x f n s).1.rha = s.rha
    ∧ (askSetTime x f n s).1.asc = s.asc
    ∧ (askSetTime x f n s).1.spm = s.spm
    ∧ (askSetTime x f n s).1.pending = s.pending
    ∧ (askSetTime x f n s).1.lnu.address = s.lnu.address
    ∧ (askSetTime x f n s).1.lnu.fast = s.lnu.fast
    ∧ (askSetTime x f n s).1.lnu.answering = s.lnu.answering
    ∧ (askSetTime x f n s).1.lnu.rx = s.lnu.rx
    ∧ (askSetTime x f n s).1.lnu.tx = s.lnu.tx
    ∧ (askSetTime x f n s).1.lnu.driver = s.lnu.driver
    ∧ (askSetTime x f n s).1.lnu.errors = s.lnu.errors
    ∧ (askSetTime x f n s).1.lnu.masks = s.lnu.masks
    ∧ (askSetTime x f n s).1.lnu.caseLamp = s.lnu.caseLamp
    ∧ (askSetTime x f n s).1.lnu.presenceLine = s.lnu.presenceLine := by
  simp only [askSetTime]; (repeat' split) <;> simp

/-- What `askSetReference` leaves unchanged. -/
@[simp] theorem askSetReference_frame (x e p d : Nat) (s : State) :
    (askSetReference x e p d s).1.tiu = s.tiu
    ∧ (askSetReference x e p d s).1.ct = s.ct
    ∧ (askSetReference x e p d s).1.tgr = s.tgr
    ∧ (askSetReference x e p d s).1.usm = s.usm
    ∧ (askSetReference x e p d s).1.rha = s.rha
    ∧ (askSetReference x e p d s).1.asc = s.asc
    ∧ (askSetReference x e p d s).1.shc = s.shc
    ∧ (askSetReference x e p d s).1.spm = s.spm
    ∧ (askSetReference x e p d s).1.pending = s.pending
    ∧ (askSetReference x e p d s).1.lnu.address = s.lnu.address
    ∧ (askSetReference x e p d s).1.lnu.fast = s.lnu.fast
    ∧ (askSetReference x e p d s).1.lnu.answering = s.lnu.answering
    ∧ (askSetReference x e p d s).1.lnu.rx = s.lnu.rx
    ∧ (askSetReference x e p d s).1.lnu.tx = s.lnu.tx
    ∧ (askSetReference x e p d s).1.lnu.driver = s.lnu.driver
    ∧ (askSetReference x e p d s).1.lnu.errors = s.lnu.errors
    ∧ (askSetReference x e p d s).1.lnu.masks = s.lnu.masks
    ∧ (askSetReference x e p d s).1.lnu.caseLamp = s.lnu.caseLamp
    ∧ (askSetReference x e p d s).1.lnu.handoverLamp = s.lnu.handoverLamp
    ∧ (askSetReference x e p d s).1.lnu.presenceLine = s.lnu.presenceLine := by
  simp only [askSetReference]; (repeat' split) <;> simp

/-- What `askSetLoop` leaves unchanged. -/
@[simp] theorem askSetLoop_frame (k t r : Nat) (s : State) :
    (askSetLoop k t r s).1.riu = s.riu
    ∧ (askSetLoop k t r s).1.tiu = s.tiu
    ∧ (askSetLoop k t r s).1.ct = s.ct
    ∧ (askSetLoop k t r s).1.tgr = s.tgr
    ∧ (askSetLoop k t r s).1.usm = s.usm
    ∧ (askSetLoop k t r s).1.rha = s.rha
    ∧ (askSetLoop k t r s).1.asc = s.asc
    ∧ (askSetLoop k t r s).1.shc = s.shc
    ∧ (askSetLoop k t r s).1.lnu = s.lnu
    ∧ (askSetLoop k t r s).1.spm = s.spm
    ∧ (askSetLoop k t r s).1.pending = s.pending := by
  simp [askSetLoop]

/-- What `askSetInput` leaves unchanged. -/
@[simp] theorem askSetInput_frame (u i e c x p n : Nat) (s : State) :
    (askSetInput u i e c x p n s).1.tb = s.tb
    ∧ (askSetInput u i e c x p n s).1.riu = s.riu
    ∧ (askSetInput u i e c x p n s).1.ct = s.ct
    ∧ (askSetInput u i e c x p n s).1.tgr = s.tgr
    ∧ (askSetInput u i e c x p n s).1.usm = s.usm
    ∧ (askSetInput u i e c x p n s).1.rha = s.rha
    ∧ (askSetInput u i e c x p n s).1.asc = s.asc
    ∧ (askSetInput u i e c x p n s).1.shc = s.shc
    ∧ (askSetInput u i e c x p n s).1.lnu = s.lnu
    ∧ (askSetInput u i e c x p n s).1.spm = s.spm
    ∧ (askSetInput u i e c x p n s).1.pending = s.pending := by
  simp only [askSetInput]; (repeat' split) <;> simp

/-- What `askReadInput` leaves unchanged. -/
@[simp] theorem askReadInput_frame (u i c : Nat) (s : State) :
    (askReadInput u i c s).1.tb = s.tb
    ∧ (askReadInput u i c s).1.riu = s.riu
    ∧ (askReadInput u i c s).1.ct = s.ct
    ∧ (askReadInput u i c s).1.tgr = s.tgr
    ∧ (askReadInput u i c s).1.usm = s.usm
    ∧ (askReadInput u i c s).1.rha = s.rha
    ∧ (askReadInput u i c s).1.asc = s.asc
    ∧ (askReadInput u i c s).1.shc = s.shc
    ∧ (askReadInput u i c s).1.lnu = s.lnu
    ∧ (askReadInput u i c s).1.spm = s.spm
    ∧ (askReadInput u i c s).1.pending = s.pending := by
  simp only [askReadInput]; (repeat' split) <;> simp

/-- What `askSetTestMode` leaves unchanged. -/
@[simp] theorem askSetTestMode_frame (u m : Nat) (s : State) :
    (askSetTestMode u m s).1.tb = s.tb
    ∧ (askSetTestMode u m s).1.riu = s.riu
    ∧ (askSetTestMode u m s).1.ct = s.ct
    ∧ (askSetTestMode u m s).1.tgr = s.tgr
    ∧ (askSetTestMode u m s).1.usm = s.usm
    ∧ (askSetTestMode u m s).1.rha = s.rha
    ∧ (askSetTestMode u m s).1.asc = s.asc
    ∧ (askSetTestMode u m s).1.shc = s.shc
    ∧ (askSetTestMode u m s).1.lnu = s.lnu
    ∧ (askSetTestMode u m s).1.spm = s.spm
    ∧ (askSetTestMode u m s).1.pending = s.pending := by
  simp only [askSetTestMode]; (repeat' split) <;> simp

/-- What `askAckCase` leaves unchanged. -/
@[simp] theorem askAckCase_frame (n b : Nat) (s : State) :
    (askAckCase n b s).1.tb = s.tb
    ∧ (askAckCase n b s).1.riu = s.riu
    ∧ (askAckCase n b s).1.tiu = s.tiu
    ∧ (askAckCase n b s).1.tgr = s.tgr
    ∧ (askAckCase n b s).1.rha = s.rha
    ∧ (askAckCase n b s).1.asc = s.asc
    ∧ (askAckCase n b s).1.spm = s.spm
    ∧ (askAckCase n b s).1.pending = s.pending
    ∧ (askAckCase n b s).1.lnu.address = s.lnu.address
    ∧ (askAckCase n b s).1.lnu.fast = s.lnu.fast
    ∧ (askAckCase n b s).1.lnu.answering = s.lnu.answering
    ∧ (askAckCase n b s).1.lnu.rx = s.lnu.rx
    ∧ (askAckCase n b s).1.lnu.tx = s.lnu.tx
    ∧ (askAckCase n b s).1.lnu.driver = s.lnu.driver
    ∧ (askAckCase n b s).1.lnu.errors = s.lnu.errors
    ∧ (askAckCase n b s).1.lnu.masks = s.lnu.masks
    ∧ (askAckCase n b s).1.lnu.handoverLamp = s.lnu.handoverLamp := by
  simp only [askAckCase]; (repeat' split) <;> simp

/-- What `askClearCase` leaves unchanged. -/
@[simp] theorem askClearCase_frame (n b : Nat) (s : State) :
    (askClearCase n b s).1.tb = s.tb
    ∧ (askClearCase n b s).1.riu = s.riu
    ∧ (askClearCase n b s).1.tiu = s.tiu
    ∧ (askClearCase n b s).1.tgr = s.tgr
    ∧ (askClearCase n b s).1.rha = s.rha
    ∧ (askClearCase n b s).1.asc = s.asc
    ∧ (askClearCase n b s).1.spm = s.spm
    ∧ (askClearCase n b s).1.pending = s.pending
    ∧ (askClearCase n b s).1.lnu.address = s.lnu.address
    ∧ (askClearCase n b s).1.lnu.fast = s.lnu.fast
    ∧ (askClearCase n b s).1.lnu.answering = s.lnu.answering
    ∧ (askClearCase n b s).1.lnu.rx = s.lnu.rx
    ∧ (askClearCase n b s).1.lnu.tx = s.lnu.tx
    ∧ (askClearCase n b s).1.lnu.driver = s.lnu.driver
    ∧ (askClearCase n b s).1.lnu.errors = s.lnu.errors
    ∧ (askClearCase n b s).1.lnu.masks = s.lnu.masks
    ∧ (askClearCase n b s).1.lnu.handoverLamp = s.lnu.handoverLamp := by
  simp only [askClearCase]; (repeat' split) <;> simp

/-- What `askRetireCase` leaves unchanged. -/
@[simp] theorem askRetireCase_frame (n : Nat) (s : State) :
    (askRetireCase n s).1.tb = s.tb
    ∧ (askRetireCase n s).1.riu = s.riu
    ∧ (askRetireCase n s).1.tiu = s.tiu
    ∧ (askRetireCase n s).1.tgr = s.tgr
    ∧ (askRetireCase n s).1.rha = s.rha
    ∧ (askRetireCase n s).1.asc = s.asc
    ∧ (askRetireCase n s).1.spm = s.spm
    ∧ (askRetireCase n s).1.pending = s.pending
    ∧ (askRetireCase n s).1.lnu.address = s.lnu.address
    ∧ (askRetireCase n s).1.lnu.fast = s.lnu.fast
    ∧ (askRetireCase n s).1.lnu.answering = s.lnu.answering
    ∧ (askRetireCase n s).1.lnu.rx = s.lnu.rx
    ∧ (askRetireCase n s).1.lnu.tx = s.lnu.tx
    ∧ (askRetireCase n s).1.lnu.driver = s.lnu.driver
    ∧ (askRetireCase n s).1.lnu.errors = s.lnu.errors
    ∧ (askRetireCase n s).1.lnu.masks = s.lnu.masks
    ∧ (askRetireCase n s).1.lnu.handoverLamp = s.lnu.handoverLamp
    ∧ (askRetireCase n s).1.lnu.presenceLine = s.lnu.presenceLine := by
  simp only [askRetireCase]; (repeat' split) <;> simp

/-- What `askClearOverflow` leaves unchanged. -/
@[simp] theorem askClearOverflow_frame (u : Nat) (s : State) :
    (askClearOverflow u s).1.tb = s.tb
    ∧ (askClearOverflow u s).1.riu = s.riu
    ∧ (askClearOverflow u s).1.tiu = s.tiu
    ∧ (askClearOverflow u s).1.tgr = s.tgr
    ∧ (askClearOverflow u s).1.rha = s.rha
    ∧ (askClearOverflow u s).1.asc = s.asc
    ∧ (askClearOverflow u s).1.lnu = s.lnu
    ∧ (askClearOverflow u s).1.spm = s.spm
    ∧ (askClearOverflow u s).1.pending = s.pending := by
  simp only [askClearOverflow]; (repeat' split) <;> simp

/-- What `askSetGroupWindow` leaves unchanged. -/
@[simp] theorem askSetGroupWindow_frame (n : Nat) (s : State) :
    (askSetGroupWindow n s).1.tb = s.tb
    ∧ (askSetGroupWindow n s).1.riu = s.riu
    ∧ (askSetGroupWindow n s).1.tiu = s.tiu
    ∧ (askSetGroupWindow n s).1.ct = s.ct
    ∧ (askSetGroupWindow n s).1.usm = s.usm
    ∧ (askSetGroupWindow n s).1.rha = s.rha
    ∧ (askSetGroupWindow n s).1.asc = s.asc
    ∧ (askSetGroupWindow n s).1.shc = s.shc
    ∧ (askSetGroupWindow n s).1.lnu = s.lnu
    ∧ (askSetGroupWindow n s).1.spm = s.spm
    ∧ (askSetGroupWindow n s).1.pending = s.pending := by
  simp [askSetGroupWindow]

/-- What `askSetSpeedBands` leaves unchanged. -/
@[simp] theorem askSetSpeedBands_frame (x a b c d : Nat) (s : State) :
    (askSetSpeedBands x a b c d s).1.tb = s.tb
    ∧ (askSetSpeedBands x a b c d s).1.riu = s.riu
    ∧ (askSetSpeedBands x a b c d s).1.tiu = s.tiu
    ∧ (askSetSpeedBands x a b c d s).1.ct = s.ct
    ∧ (askSetSpeedBands x a b c d s).1.tgr = s.tgr
    ∧ (askSetSpeedBands x a b c d s).1.rha = s.rha
    ∧ (askSetSpeedBands x a b c d s).1.asc = s.asc
    ∧ (askSetSpeedBands x a b c d s).1.shc = s.shc
    ∧ (askSetSpeedBands x a b c d s).1.lnu = s.lnu
    ∧ (askSetSpeedBands x a b c d s).1.spm = s.spm
    ∧ (askSetSpeedBands x a b c d s).1.pending = s.pending := by
  simp only [askSetSpeedBands]; (repeat' split) <;> simp

/-- What `askSetSpeedCal` leaves unchanged. -/
@[simp] theorem askSetSpeedCal_frame (u x m : Nat) (s : State) :
    (askSetSpeedCal u x m s).1.tb = s.tb
    ∧ (askSetSpeedCal u x m s).1.riu = s.riu
    ∧ (askSetSpeedCal u x m s).1.tiu = s.tiu
    ∧ (askSetSpeedCal u x m s).1.ct = s.ct
    ∧ (askSetSpeedCal u x m s).1.tgr = s.tgr
    ∧ (askSetSpeedCal u x m s).1.rha = s.rha
    ∧ (askSetSpeedCal u x m s).1.asc = s.asc
    ∧ (askSetSpeedCal u x m s).1.shc = s.shc
    ∧ (askSetSpeedCal u x m s).1.lnu = s.lnu
    ∧ (askSetSpeedCal u x m s).1.spm = s.spm
    ∧ (askSetSpeedCal u x m s).1.pending = s.pending := by
  simp only [askSetSpeedCal]; (repeat' split) <;> simp

/-- What `askPresetAccount` leaves unchanged. -/
@[simp] theorem askPresetAccount_frame (u k l i : Nat) (s : State) :
    (askPresetAccount u k l i s).1.tb = s.tb
    ∧ (askPresetAccount u k l i s).1.riu = s.riu
    ∧ (askPresetAccount u k l i s).1.tiu = s.tiu
    ∧ (askPresetAccount u k l i s).1.ct = s.ct
    ∧ (askPresetAccount u k l i s).1.tgr = s.tgr
    ∧ (askPresetAccount u k l i s).1.usm = s.usm
    ∧ (askPresetAccount u k l i s).1.shc = s.shc
    ∧ (askPresetAccount u k l i s).1.spm = s.spm
    ∧ (askPresetAccount u k l i s).1.pending = s.pending
    ∧ (askPresetAccount u k l i s).1.lnu.address = s.lnu.address
    ∧ (askPresetAccount u k l i s).1.lnu.fast = s.lnu.fast
    ∧ (askPresetAccount u k l i s).1.lnu.answering = s.lnu.answering
    ∧ (askPresetAccount u k l i s).1.lnu.rx = s.lnu.rx
    ∧ (askPresetAccount u k l i s).1.lnu.tx = s.lnu.tx
    ∧ (askPresetAccount u k l i s).1.lnu.driver = s.lnu.driver
    ∧ (askPresetAccount u k l i s).1.lnu.errors = s.lnu.errors
    ∧ (askPresetAccount u k l i s).1.lnu.masks = s.lnu.masks
    ∧ (askPresetAccount u k l i s).1.lnu.caseLamp = s.lnu.caseLamp
    ∧ (askPresetAccount u k l i s).1.lnu.handoverLamp = s.lnu.handoverLamp
    ∧ (askPresetAccount u k l i s).1.lnu.presenceLine = s.lnu.presenceLine := by
  simp only [askPresetAccount]; (repeat' split) <;> simp

/-- What `askRetireAccount` leaves unchanged. -/
@[simp] theorem askRetireAccount_frame (u k : Nat) (s : State) :
    (askRetireAccount u k s).1.tb = s.tb
    ∧ (askRetireAccount u k s).1.riu = s.riu
    ∧ (askRetireAccount u k s).1.tiu = s.tiu
    ∧ (askRetireAccount u k s).1.ct = s.ct
    ∧ (askRetireAccount u k s).1.tgr = s.tgr
    ∧ (askRetireAccount u k s).1.usm = s.usm
    ∧ (askRetireAccount u k s).1.shc = s.shc
    ∧ (askRetireAccount u k s).1.spm = s.spm
    ∧ (askRetireAccount u k s).1.pending = s.pending
    ∧ (askRetireAccount u k s).1.lnu.address = s.lnu.address
    ∧ (askRetireAccount u k s).1.lnu.fast = s.lnu.fast
    ∧ (askRetireAccount u k s).1.lnu.answering = s.lnu.answering
    ∧ (askRetireAccount u k s).1.lnu.rx = s.lnu.rx
    ∧ (askRetireAccount u k s).1.lnu.tx = s.lnu.tx
    ∧ (askRetireAccount u k s).1.lnu.driver = s.lnu.driver
    ∧ (askRetireAccount u k s).1.lnu.errors = s.lnu.errors
    ∧ (askRetireAccount u k s).1.lnu.masks = s.lnu.masks
    ∧ (askRetireAccount u k s).1.lnu.caseLamp = s.lnu.caseLamp
    ∧ (askRetireAccount u k s).1.lnu.handoverLamp = s.lnu.handoverLamp
    ∧ (askRetireAccount u k s).1.lnu.presenceLine = s.lnu.presenceLine := by
  simp only [askRetireAccount]; (repeat' split) <;> simp

/-- What `askReinstateAccount` leaves unchanged. -/
@[simp] theorem askReinstateAccount_frame (u k : Nat) (s : State) :
    (askReinstateAccount u k s).1.tb = s.tb
    ∧ (askReinstateAccount u k s).1.riu = s.riu
    ∧ (askReinstateAccount u k s).1.tiu = s.tiu
    ∧ (askReinstateAccount u k s).1.ct = s.ct
    ∧ (askReinstateAccount u k s).1.tgr = s.tgr
    ∧ (askReinstateAccount u k s).1.usm = s.usm
    ∧ (askReinstateAccount u k s).1.shc = s.shc
    ∧ (askReinstateAccount u k s).1.spm = s.spm
    ∧ (askReinstateAccount u k s).1.pending = s.pending
    ∧ (askReinstateAccount u k s).1.lnu.address = s.lnu.address
    ∧ (askReinstateAccount u k s).1.lnu.fast = s.lnu.fast
    ∧ (askReinstateAccount u k s).1.lnu.answering = s.lnu.answering
    ∧ (askReinstateAccount u k s).1.lnu.rx = s.lnu.rx
    ∧ (askReinstateAccount u k s).1.lnu.tx = s.lnu.tx
    ∧ (askReinstateAccount u k s).1.lnu.driver = s.lnu.driver
    ∧ (askReinstateAccount u k s).1.lnu.errors = s.lnu.errors
    ∧ (askReinstateAccount u k s).1.lnu.masks = s.lnu.masks
    ∧ (askReinstateAccount u k s).1.lnu.caseLamp = s.lnu.caseLamp
    ∧ (askReinstateAccount u k s).1.lnu.handoverLamp = s.lnu.handoverLamp
    ∧ (askReinstateAccount u k s).1.lnu.presenceLine = s.lnu.presenceLine := by
  simp only [askReinstateAccount]; (repeat' split) <;> simp

/-- What `askCommit` leaves unchanged. -/
@[simp] theorem askCommit_frame (s : State) :
    (askCommit s).1.tb = s.tb
    ∧ (askCommit s).1.riu = s.riu
    ∧ (askCommit s).1.tiu = s.tiu
    ∧ (askCommit s).1.ct = s.ct
    ∧ (askCommit s).1.tgr = s.tgr
    ∧ (askCommit s).1.usm = s.usm
    ∧ (askCommit s).1.shc = s.shc
    ∧ (askCommit s).1.spm = s.spm
    ∧ (askCommit s).1.pending = s.pending
    ∧ (askCommit s).1.lnu.address = s.lnu.address
    ∧ (askCommit s).1.lnu.fast = s.lnu.fast
    ∧ (askCommit s).1.lnu.answering = s.lnu.answering
    ∧ (askCommit s).1.lnu.rx = s.lnu.rx
    ∧ (askCommit s).1.lnu.tx = s.lnu.tx
    ∧ (askCommit s).1.lnu.driver = s.lnu.driver
    ∧ (askCommit s).1.lnu.errors = s.lnu.errors
    ∧ (askCommit s).1.lnu.masks = s.lnu.masks
    ∧ (askCommit s).1.lnu.caseLamp = s.lnu.caseLamp
    ∧ (askCommit s).1.lnu.handoverLamp = s.lnu.handoverLamp
    ∧ (askCommit s).1.lnu.presenceLine = s.lnu.presenceLine := by
  simp only [askCommit]; (repeat' split) <;> simp

/-- What `askSetStore` leaves unchanged. -/
@[simp] theorem askSetStore_frame (m n : Nat) (s : State) :
    (askSetStore m n s).1.tb = s.tb
    ∧ (askSetStore m n s).1.riu = s.riu
    ∧ (askSetStore m n s).1.tiu = s.tiu
    ∧ (askSetStore m n s).1.ct = s.ct
    ∧ (askSetStore m n s).1.tgr = s.tgr
    ∧ (askSetStore m n s).1.usm = s.usm
    ∧ (askSetStore m n s).1.shc = s.shc
    ∧ (askSetStore m n s).1.spm = s.spm
    ∧ (askSetStore m n s).1.pending = s.pending
    ∧ (askSetStore m n s).1.lnu.address = s.lnu.address
    ∧ (askSetStore m n s).1.lnu.fast = s.lnu.fast
    ∧ (askSetStore m n s).1.lnu.answering = s.lnu.answering
    ∧ (askSetStore m n s).1.lnu.rx = s.lnu.rx
    ∧ (askSetStore m n s).1.lnu.tx = s.lnu.tx
    ∧ (askSetStore m n s).1.lnu.driver = s.lnu.driver
    ∧ (askSetStore m n s).1.lnu.errors = s.lnu.errors
    ∧ (askSetStore m n s).1.lnu.masks = s.lnu.masks
    ∧ (askSetStore m n s).1.lnu.caseLamp = s.lnu.caseLamp
    ∧ (askSetStore m n s).1.lnu.handoverLamp = s.lnu.handoverLamp
    ∧ (askSetStore m n s).1.lnu.presenceLine = s.lnu.presenceLine := by
  simp only [askSetStore]; (repeat' split) <;> simp

/-- What `askSetRoster` leaves unchanged. -/
@[simp] theorem askSetRoster_frame (l : List Nat) (s : State) :
    (askSetRoster l s).1.tb = s.tb
    ∧ (askSetRoster l s).1.riu = s.riu
    ∧ (askSetRoster l s).1.tiu = s.tiu
    ∧ (askSetRoster l s).1.ct = s.ct
    ∧ (askSetRoster l s).1.tgr = s.tgr
    ∧ (askSetRoster l s).1.usm = s.usm
    ∧ (askSetRoster l s).1.rha = s.rha
    ∧ (askSetRoster l s).1.asc = s.asc
    ∧ (askSetRoster l s).1.lnu = s.lnu
    ∧ (askSetRoster l s).1.spm = s.spm
    ∧ (askSetRoster l s).1.pending = s.pending := by
  simp only [askSetRoster]; (repeat' split) <;> simp

/-- What `askSignOn` leaves unchanged. -/
@[simp] theorem askSignOn_frame (b t : Nat) (s : State) :
    (askSignOn b t s).1.tb = s.tb
    ∧ (askSignOn b t s).1.riu = s.riu
    ∧ (askSignOn b t s).1.tiu = s.tiu
    ∧ (askSignOn b t s).1.tgr = s.tgr
    ∧ (askSignOn b t s).1.usm = s.usm
    ∧ (askSignOn b t s).1.spm = s.spm
    ∧ (askSignOn b t s).1.pending = s.pending
    ∧ (askSignOn b t s).1.lnu.address = s.lnu.address
    ∧ (askSignOn b t s).1.lnu.fast = s.lnu.fast
    ∧ (askSignOn b t s).1.lnu.answering = s.lnu.answering
    ∧ (askSignOn b t s).1.lnu.rx = s.lnu.rx
    ∧ (askSignOn b t s).1.lnu.tx = s.lnu.tx
    ∧ (askSignOn b t s).1.lnu.driver = s.lnu.driver
    ∧ (askSignOn b t s).1.lnu.errors = s.lnu.errors
    ∧ (askSignOn b t s).1.lnu.masks = s.lnu.masks := by
  simp only [askSignOn]; (repeat' split) <;> simp

/-- What `askPresence` leaves unchanged. -/
@[simp] theorem askPresence_frame (b : Nat) (s : State) :
    (askPresence b s).1.tb = s.tb
    ∧ (askPresence b s).1.riu = s.riu
    ∧ (askPresence b s).1.tiu = s.tiu
    ∧ (askPresence b s).1.ct = s.ct
    ∧ (askPresence b s).1.tgr = s.tgr
    ∧ (askPresence b s).1.usm = s.usm
    ∧ (askPresence b s).1.rha = s.rha
    ∧ (askPresence b s).1.asc = s.asc
    ∧ (askPresence b s).1.spm = s.spm
    ∧ (askPresence b s).1.pending = s.pending
    ∧ (askPresence b s).1.lnu.address = s.lnu.address
    ∧ (askPresence b s).1.lnu.fast = s.lnu.fast
    ∧ (askPresence b s).1.lnu.answering = s.lnu.answering
    ∧ (askPresence b s).1.lnu.rx = s.lnu.rx
    ∧ (askPresence b s).1.lnu.tx = s.lnu.tx
    ∧ (askPresence b s).1.lnu.driver = s.lnu.driver
    ∧ (askPresence b s).1.lnu.errors = s.lnu.errors
    ∧ (askPresence b s).1.lnu.masks = s.lnu.masks
    ∧ (askPresence b s).1.lnu.caseLamp = s.lnu.caseLamp
    ∧ (askPresence b s).1.lnu.handoverLamp = s.lnu.handoverLamp := by
  simp only [askPresence]; (repeat' split) <;> simp

/-- What `askOffer` leaves unchanged. -/
@[simp] theorem askOffer_frame (b : Nat) (s : State) :
    (askOffer b s).1.tb = s.tb
    ∧ (askOffer b s).1.riu = s.riu
    ∧ (askOffer b s).1.tiu = s.tiu
    ∧ (askOffer b s).1.ct = s.ct
    ∧ (askOffer b s).1.tgr = s.tgr
    ∧ (askOffer b s).1.usm = s.usm
    ∧ (askOffer b s).1.rha = s.rha
    ∧ (askOffer b s).1.asc = s.asc
    ∧ (askOffer b s).1.spm = s.spm
    ∧ (askOffer b s).1.pending = s.pending
    ∧ (askOffer b s).1.lnu.address = s.lnu.address
    ∧ (askOffer b s).1.lnu.fast = s.lnu.fast
    ∧ (askOffer b s).1.lnu.answering = s.lnu.answering
    ∧ (askOffer b s).1.lnu.rx = s.lnu.rx
    ∧ (askOffer b s).1.lnu.tx = s.lnu.tx
    ∧ (askOffer b s).1.lnu.driver = s.lnu.driver
    ∧ (askOffer b s).1.lnu.errors = s.lnu.errors
    ∧ (askOffer b s).1.lnu.masks = s.lnu.masks
    ∧ (askOffer b s).1.lnu.caseLamp = s.lnu.caseLamp := by
  simp only [askOffer]; (repeat' split) <;> simp

/-- What `askAccept` leaves unchanged. -/
@[simp] theorem askAccept_frame (b v t : Nat) (s : State) :
    (askAccept b v t s).1.tb = s.tb
    ∧ (askAccept b v t s).1.riu = s.riu
    ∧ (askAccept b v t s).1.tiu = s.tiu
    ∧ (askAccept b v t s).1.tgr = s.tgr
    ∧ (askAccept b v t s).1.usm = s.usm
    ∧ (askAccept b v t s).1.spm = s.spm
    ∧ (askAccept b v t s).1.pending = s.pending
    ∧ (askAccept b v t s).1.lnu.address = s.lnu.address
    ∧ (askAccept b v t s).1.lnu.fast = s.lnu.fast
    ∧ (askAccept b v t s).1.lnu.answering = s.lnu.answering
    ∧ (askAccept b v t s).1.lnu.rx = s.lnu.rx
    ∧ (askAccept b v t s).1.lnu.tx = s.lnu.tx
    ∧ (askAccept b v t s).1.lnu.driver = s.lnu.driver
    ∧ (askAccept b v t s).1.lnu.errors = s.lnu.errors
    ∧ (askAccept b v t s).1.lnu.masks = s.lnu.masks := by
  simp only [askAccept]; (repeat' split) <;> simp

/-- What `askWithdraw` leaves unchanged. -/
@[simp] theorem askWithdraw_frame (b : Nat) (s : State) :
    (askWithdraw b s).1.tb = s.tb
    ∧ (askWithdraw b s).1.riu = s.riu
    ∧ (askWithdraw b s).1.tiu = s.tiu
    ∧ (askWithdraw b s).1.ct = s.ct
    ∧ (askWithdraw b s).1.tgr = s.tgr
    ∧ (askWithdraw b s).1.usm = s.usm
    ∧ (askWithdraw b s).1.rha = s.rha
    ∧ (askWithdraw b s).1.asc = s.asc
    ∧ (askWithdraw b s).1.spm = s.spm
    ∧ (askWithdraw b s).1.pending = s.pending
    ∧ (askWithdraw b s).1.lnu.address = s.lnu.address
    ∧ (askWithdraw b s).1.lnu.fast = s.lnu.fast
    ∧ (askWithdraw b s).1.lnu.answering = s.lnu.answering
    ∧ (askWithdraw b s).1.lnu.rx = s.lnu.rx
    ∧ (askWithdraw b s).1.lnu.tx = s.lnu.tx
    ∧ (askWithdraw b s).1.lnu.driver = s.lnu.driver
    ∧ (askWithdraw b s).1.lnu.errors = s.lnu.errors
    ∧ (askWithdraw b s).1.lnu.masks = s.lnu.masks
    ∧ (askWithdraw b s).1.lnu.caseLamp = s.lnu.caseLamp := by
  simp only [askWithdraw]; (repeat' split) <;> simp

/-- What `askSetShiftTiming` leaves unchanged. -/
@[simp] theorem askSetShiftTiming_frame (l g n m : Nat) (s : State) :
    (askSetShiftTiming l g n m s).1.tb = s.tb
    ∧ (askSetShiftTiming l g n m s).1.riu = s.riu
    ∧ (askSetShiftTiming l g n m s).1.tiu = s.tiu
    ∧ (askSetShiftTiming l g n m s).1.ct = s.ct
    ∧ (askSetShiftTiming l g n m s).1.tgr = s.tgr
    ∧ (askSetShiftTiming l g n m s).1.usm = s.usm
    ∧ (askSetShiftTiming l g n m s).1.rha = s.rha
    ∧ (askSetShiftTiming l g n m s).1.asc = s.asc
    ∧ (askSetShiftTiming l g n m s).1.lnu = s.lnu
    ∧ (askSetShiftTiming l g n m s).1.spm = s.spm
    ∧ (askSetShiftTiming l g n m s).1.pending = s.pending := by
  simp only [askSetShiftTiming]; (repeat' split) <;> simp

/-- What `askReadNotices` leaves unchanged. -/
@[simp] theorem askReadNotices_frame (s : State) :
    (askReadNotices s).1.tb = s.tb
    ∧ (askReadNotices s).1.riu = s.riu
    ∧ (askReadNotices s).1.tiu = s.tiu
    ∧ (askReadNotices s).1.ct = s.ct
    ∧ (askReadNotices s).1.tgr = s.tgr
    ∧ (askReadNotices s).1.usm = s.usm
    ∧ (askReadNotices s).1.rha = s.rha
    ∧ (askReadNotices s).1.asc = s.asc
    ∧ (askReadNotices s).1.shc = s.shc
    ∧ (askReadNotices s).1.spm = s.spm
    ∧ (askReadNotices s).1.pending = s.pending
    ∧ (askReadNotices s).1.lnu.address = s.lnu.address
    ∧ (askReadNotices s).1.lnu.fast = s.lnu.fast
    ∧ (askReadNotices s).1.lnu.answering = s.lnu.answering
    ∧ (askReadNotices s).1.lnu.rx = s.lnu.rx
    ∧ (askReadNotices s).1.lnu.tx = s.lnu.tx
    ∧ (askReadNotices s).1.lnu.driver = s.lnu.driver
    ∧ (askReadNotices s).1.lnu.errors = s.lnu.errors
    ∧ (askReadNotices s).1.lnu.masks = s.lnu.masks
    ∧ (askReadNotices s).1.lnu.caseLamp = s.lnu.caseLamp
    ∧ (askReadNotices s).1.lnu.handoverLamp = s.lnu.handoverLamp
    ∧ (askReadNotices s).1.lnu.presenceLine = s.lnu.presenceLine := by
  simp [askReadNotices, Lnu.collected, Lnu.evalAttention]

/-- What `askSetNoticeMask` leaves unchanged. -/
@[simp] theorem askSetNoticeMask_frame (a b c d e f : Nat) (s : State) :
    (askSetNoticeMask a b c d e f s).1.tb = s.tb
    ∧ (askSetNoticeMask a b c d e f s).1.riu = s.riu
    ∧ (askSetNoticeMask a b c d e f s).1.tiu = s.tiu
    ∧ (askSetNoticeMask a b c d e f s).1.ct = s.ct
    ∧ (askSetNoticeMask a b c d e f s).1.tgr = s.tgr
    ∧ (askSetNoticeMask a b c d e f s).1.usm = s.usm
    ∧ (askSetNoticeMask a b c d e f s).1.rha = s.rha
    ∧ (askSetNoticeMask a b c d e f s).1.asc = s.asc
    ∧ (askSetNoticeMask a b c d e f s).1.shc = s.shc
    ∧ (askSetNoticeMask a b c d e f s).1.spm = s.spm
    ∧ (askSetNoticeMask a b c d e f s).1.pending = s.pending
    ∧ (askSetNoticeMask a b c d e f s).1.lnu.address = s.lnu.address
    ∧ (askSetNoticeMask a b c d e f s).1.lnu.fast = s.lnu.fast
    ∧ (askSetNoticeMask a b c d e f s).1.lnu.answering = s.lnu.answering
    ∧ (askSetNoticeMask a b c d e f s).1.lnu.rx = s.lnu.rx
    ∧ (askSetNoticeMask a b c d e f s).1.lnu.tx = s.lnu.tx
    ∧ (askSetNoticeMask a b c d e f s).1.lnu.driver = s.lnu.driver
    ∧ (askSetNoticeMask a b c d e f s).1.lnu.errors = s.lnu.errors
    ∧ (askSetNoticeMask a b c d e f s).1.lnu.caseLamp = s.lnu.caseLamp
    ∧ (askSetNoticeMask a b c d e f s).1.lnu.handoverLamp = s.lnu.handoverLamp
    ∧ (askSetNoticeMask a b c d e f s).1.lnu.presenceLine = s.lnu.presenceLine := by
  simp only [askSetNoticeMask, Lnu.evalAttention]; split <;> simp

/-- What `askResetT` leaves unchanged. -/
@[simp] theorem askResetT_frame (s : State) :
    (askResetT s).1.tiu = s.tiu
    ∧ (askResetT s).1.ct = s.ct
    ∧ (askResetT s).1.tgr = s.tgr
    ∧ (askResetT s).1.usm = s.usm
    ∧ (askResetT s).1.rha = s.rha
    ∧ (askResetT s).1.asc = s.asc
    ∧ (askResetT s).1.shc = s.shc
    ∧ (askResetT s).1.spm = s.spm
    ∧ (askResetT s).1.pending = s.pending
    ∧ (askResetT s).1.lnu.address = s.lnu.address
    ∧ (askResetT s).1.lnu.fast = s.lnu.fast
    ∧ (askResetT s).1.lnu.answering = s.lnu.answering
    ∧ (askResetT s).1.lnu.rx = s.lnu.rx
    ∧ (askResetT s).1.lnu.tx = s.lnu.tx
    ∧ (askResetT s).1.lnu.driver = s.lnu.driver
    ∧ (askResetT s).1.lnu.errors = s.lnu.errors
    ∧ (askResetT s).1.lnu.masks = s.lnu.masks
    ∧ (askResetT s).1.lnu.caseLamp = s.lnu.caseLamp
    ∧ (askResetT s).1.lnu.handoverLamp = s.lnu.handoverLamp
    ∧ (askResetT s).1.lnu.presenceLine = s.lnu.presenceLine := by
  simp [askResetT]

/-- What `askResetC` leaves unchanged. -/
@[simp] theorem askResetC_frame (s : State) :
    (askResetC s).1.tb = s.tb
    ∧ (askResetC s).1.riu = s.riu
    ∧ (askResetC s).1.tiu = s.tiu
    ∧ (askResetC s).1.rha = s.rha
    ∧ (askResetC s).1.asc = s.asc
    ∧ (askResetC s).1.spm = s.spm
    ∧ (askResetC s).1.pending = s.pending
    ∧ (askResetC s).1.lnu.address = s.lnu.address
    ∧ (askResetC s).1.lnu.fast = s.lnu.fast
    ∧ (askResetC s).1.lnu.answering = s.lnu.answering
    ∧ (askResetC s).1.lnu.rx = s.lnu.rx
    ∧ (askResetC s).1.lnu.tx = s.lnu.tx
    ∧ (askResetC s).1.lnu.driver = s.lnu.driver
    ∧ (askResetC s).1.lnu.errors = s.lnu.errors
    ∧ (askResetC s).1.lnu.masks = s.lnu.masks
    ∧ (askResetC s).1.lnu.handoverLamp = s.lnu.handoverLamp
    ∧ (askResetC s).1.lnu.presenceLine = s.lnu.presenceLine := by
  simp [askResetC]

/-- What `askResetA` leaves unchanged. -/
@[simp] theorem askResetA_frame (s : State) :
    (askResetA s).1.tb = s.tb
    ∧ (askResetA s).1.riu = s.riu
    ∧ (askResetA s).1.tiu = s.tiu
    ∧ (askResetA s).1.ct = s.ct
    ∧ (askResetA s).1.tgr = s.tgr
    ∧ (askResetA s).1.usm = s.usm
    ∧ (askResetA s).1.shc = s.shc
    ∧ (askResetA s).1.spm = s.spm
    ∧ (askResetA s).1.pending = s.pending
    ∧ (askResetA s).1.lnu.address = s.lnu.address
    ∧ (askResetA s).1.lnu.fast = s.lnu.fast
    ∧ (askResetA s).1.lnu.answering = s.lnu.answering
    ∧ (askResetA s).1.lnu.rx = s.lnu.rx
    ∧ (askResetA s).1.lnu.tx = s.lnu.tx
    ∧ (askResetA s).1.lnu.driver = s.lnu.driver
    ∧ (askResetA s).1.lnu.errors = s.lnu.errors
    ∧ (askResetA s).1.lnu.masks = s.lnu.masks
    ∧ (askResetA s).1.lnu.caseLamp = s.lnu.caseLamp
    ∧ (askResetA s).1.lnu.handoverLamp = s.lnu.handoverLamp
    ∧ (askResetA s).1.lnu.presenceLine = s.lnu.presenceLine := by
  simp only [askResetA]; (repeat' split) <;> simp

/-- What `askResetS` leaves unchanged. -/
@[simp] theorem askResetS_frame (s : State) :
    (askResetS s).1.tb = s.tb
    ∧ (askResetS s).1.riu = s.riu
    ∧ (askResetS s).1.tiu = s.tiu
    ∧ (askResetS s).1.ct = s.ct
    ∧ (askResetS s).1.tgr = s.tgr
    ∧ (askResetS s).1.usm = s.usm
    ∧ (askResetS s).1.rha = s.rha
    ∧ (askResetS s).1.asc = s.asc
    ∧ (askResetS s).1.spm = s.spm
    ∧ (askResetS s).1.pending = s.pending
    ∧ (askResetS s).1.lnu.address = s.lnu.address
    ∧ (askResetS s).1.lnu.fast = s.lnu.fast
    ∧ (askResetS s).1.lnu.answering = s.lnu.answering
    ∧ (askResetS s).1.lnu.rx = s.lnu.rx
    ∧ (askResetS s).1.lnu.tx = s.lnu.tx
    ∧ (askResetS s).1.lnu.driver = s.lnu.driver
    ∧ (askResetS s).1.lnu.errors = s.lnu.errors
    ∧ (askResetS s).1.lnu.masks = s.lnu.masks
    ∧ (askResetS s).1.lnu.caseLamp = s.lnu.caseLamp
    ∧ (askResetS s).1.lnu.presenceLine = s.lnu.presenceLine := by
  simp [askResetS]

/-! ### Events -/

/-- What `execLocalSecondBoundary` leaves unchanged. -/
theorem execLocalSecondBoundary_frame {s t : State} (h : execLocalSecondBoundary s = .next t) :
    t.riu = s.riu
    ∧ t.tiu = s.tiu
    ∧ t.ct = s.ct
    ∧ t.tgr = s.tgr
    ∧ t.usm = s.usm
    ∧ t.rha = s.rha
    ∧ t.asc = s.asc
    ∧ t.spm = s.spm
    ∧ t.pending = s.pending
    ∧ t.lnu.address = s.lnu.address
    ∧ t.lnu.fast = s.lnu.fast
    ∧ t.lnu.answering = s.lnu.answering
    ∧ t.lnu.rx = s.lnu.rx
    ∧ t.lnu.tx = s.lnu.tx
    ∧ t.lnu.driver = s.lnu.driver
    ∧ t.lnu.errors = s.lnu.errors
    ∧ t.lnu.masks = s.lnu.masks
    ∧ t.lnu.caseLamp = s.lnu.caseLamp
    ∧ t.lnu.presenceLine = s.lnu.presenceLine := by
  obtain rfl := Host.Outcome.next.inj h
  clear h
  (repeat' split) <;> simp

/-- What `execHoldBackEnd` leaves unchanged. -/
theorem execHoldBackEnd_frame {s t : State} (h : execHoldBackEnd s = .next t) :
    t.riu = s.riu
    ∧ t.tiu = s.tiu
    ∧ t.ct = s.ct
    ∧ t.tgr = s.tgr
    ∧ t.usm = s.usm
    ∧ t.rha = s.rha
    ∧ t.asc = s.asc
    ∧ t.spm = s.spm
    ∧ t.pending = s.pending
    ∧ t.lnu.address = s.lnu.address
    ∧ t.lnu.fast = s.lnu.fast
    ∧ t.lnu.answering = s.lnu.answering
    ∧ t.lnu.rx = s.lnu.rx
    ∧ t.lnu.tx = s.lnu.tx
    ∧ t.lnu.driver = s.lnu.driver
    ∧ t.lnu.errors = s.lnu.errors
    ∧ t.lnu.masks = s.lnu.masks
    ∧ t.lnu.caseLamp = s.lnu.caseLamp
    ∧ t.lnu.presenceLine = s.lnu.presenceLine := by
  obtain rfl := Host.Outcome.next.inj h
  clear h
  (repeat' split) <;> simp

/-- What `execDutySecondBoundary` leaves unchanged. -/
theorem execDutySecondBoundary_frame {s t : State} (h : execDutySecondBoundary s = .next t) :
    t.riu = s.riu
    ∧ t.tiu = s.tiu
    ∧ t.ct = s.ct
    ∧ t.tgr = s.tgr
    ∧ t.usm = s.usm
    ∧ t.shc = s.shc
    ∧ t.spm = s.spm
    ∧ t.pending = s.pending
    ∧ t.lnu.address = s.lnu.address
    ∧ t.lnu.fast = s.lnu.fast
    ∧ t.lnu.answering = s.lnu.answering
    ∧ t.lnu.rx = s.lnu.rx
    ∧ t.lnu.tx = s.lnu.tx
    ∧ t.lnu.driver = s.lnu.driver
    ∧ t.lnu.errors = s.lnu.errors
    ∧ t.lnu.masks = s.lnu.masks
    ∧ t.lnu.caseLamp = s.lnu.caseLamp
    ∧ t.lnu.handoverLamp = s.lnu.handoverLamp
    ∧ t.lnu.presenceLine = s.lnu.presenceLine := by
  obtain rfl := Host.Outcome.next.inj h
  clear h
  (repeat' split) <;> simp

/-- What `execRefPulse` leaves unchanged. -/
theorem execRefPulse_frame {x : SourceId} {s t : State} (h : execRefPulse x s = .next t) :
    t.tiu = s.tiu
    ∧ t.ct = s.ct
    ∧ t.tgr = s.tgr
    ∧ t.usm = s.usm
    ∧ t.rha = s.rha
    ∧ t.asc = s.asc
    ∧ t.spm = s.spm
    ∧ t.pending = s.pending
    ∧ t.lnu.address = s.lnu.address
    ∧ t.lnu.fast = s.lnu.fast
    ∧ t.lnu.answering = s.lnu.answering
    ∧ t.lnu.rx = s.lnu.rx
    ∧ t.lnu.tx = s.lnu.tx
    ∧ t.lnu.driver = s.lnu.driver
    ∧ t.lnu.errors = s.lnu.errors
    ∧ t.lnu.masks = s.lnu.masks
    ∧ t.lnu.caseLamp = s.lnu.caseLamp
    ∧ t.lnu.presenceLine = s.lnu.presenceLine := by
  obtain rfl := Host.Outcome.next.inj h
  clear h
  (repeat' split) <;> simp

/-- What `execSourceLoss` leaves unchanged. -/
theorem execSourceLoss_frame {x : SourceId} {s t : State} (h : execSourceLoss x s = .next t) :
    t.tiu = s.tiu
    ∧ t.ct = s.ct
    ∧ t.tgr = s.tgr
    ∧ t.usm = s.usm
    ∧ t.rha = s.rha
    ∧ t.asc = s.asc
    ∧ t.shc = s.shc
    ∧ t.spm = s.spm
    ∧ t.pending = s.pending
    ∧ t.lnu.address = s.lnu.address
    ∧ t.lnu.fast = s.lnu.fast
    ∧ t.lnu.answering = s.lnu.answering
    ∧ t.lnu.rx = s.lnu.rx
    ∧ t.lnu.tx = s.lnu.tx
    ∧ t.lnu.driver = s.lnu.driver
    ∧ t.lnu.errors = s.lnu.errors
    ∧ t.lnu.masks = s.lnu.masks
    ∧ t.lnu.caseLamp = s.lnu.caseLamp
    ∧ t.lnu.handoverLamp = s.lnu.handoverLamp
    ∧ t.lnu.presenceLine = s.lnu.presenceLine := by
  obtain rfl := Host.Outcome.next.inj h
  clear h
  (repeat' split) <;> simp

/-- What `execTripContactEdge` leaves unchanged. -/
theorem execTripContactEdge_frame {u : UnitId} {i : InputId} {c : Bool} {s t : State} (h : execTripContactEdge u i c s = .next t) :
    t.tb = s.tb
    ∧ t.riu = s.riu
    ∧ t.ct = s.ct
    ∧ t.tgr = s.tgr
    ∧ t.usm = s.usm
    ∧ t.rha = s.rha
    ∧ t.asc = s.asc
    ∧ t.shc = s.shc
    ∧ t.lnu = s.lnu
    ∧ t.spm = s.spm
    ∧ t.pending = s.pending := by
  obtain rfl := Host.Outcome.next.inj h
  clear h
  (repeat' split) <;> simp

/-- What `execAssertionConfirmation` leaves unchanged. -/
theorem execAssertionConfirmation_frame {u : UnitId} {i : InputId} {s t : State} (h : execAssertionConfirmation u i s = .next t) :
    t.tb = s.tb
    ∧ t.riu = s.riu
    ∧ t.spm = s.spm
    ∧ t.pending = s.pending
    ∧ t.lnu.address = s.lnu.address
    ∧ t.lnu.fast = s.lnu.fast
    ∧ t.lnu.answering = s.lnu.answering
    ∧ t.lnu.rx = s.lnu.rx
    ∧ t.lnu.tx = s.lnu.tx
    ∧ t.lnu.driver = s.lnu.driver
    ∧ t.lnu.errors = s.lnu.errors
    ∧ t.lnu.masks = s.lnu.masks
    ∧ t.lnu.handoverLamp = s.lnu.handoverLamp
    ∧ t.lnu.presenceLine = s.lnu.presenceLine := by
  obtain rfl := Host.Outcome.next.inj h
  clear h
  (repeat' split) <;> simp

/-- What `execReleaseConfirmation` leaves unchanged. -/
theorem execReleaseConfirmation_frame {u : UnitId} {i : InputId} {s t : State} (h : execReleaseConfirmation u i s = .next t) :
    t.tb = s.tb
    ∧ t.riu = s.riu
    ∧ t.tgr = s.tgr
    ∧ t.rha = s.rha
    ∧ t.asc = s.asc
    ∧ t.spm = s.spm
    ∧ t.pending = s.pending
    ∧ t.lnu.address = s.lnu.address
    ∧ t.lnu.fast = s.lnu.fast
    ∧ t.lnu.answering = s.lnu.answering
    ∧ t.lnu.rx = s.lnu.rx
    ∧ t.lnu.tx = s.lnu.tx
    ∧ t.lnu.driver = s.lnu.driver
    ∧ t.lnu.errors = s.lnu.errors
    ∧ t.lnu.masks = s.lnu.masks
    ∧ t.lnu.handoverLamp = s.lnu.handoverLamp
    ∧ t.lnu.presenceLine = s.lnu.presenceLine := by
  obtain rfl := Host.Outcome.next.inj h
  clear h
  (repeat' split) <;> simp

/-- What `execGroupExpiry` leaves unchanged. -/
theorem execGroupExpiry_frame {u : UnitId} {s t : State} (h : execGroupExpiry u s = .next t) :
    t.tb = s.tb
    ∧ t.riu = s.riu
    ∧ t.tiu = s.tiu
    ∧ t.rha = s.rha
    ∧ t.asc = s.asc
    ∧ t.spm = s.spm
    ∧ t.pending = s.pending
    ∧ t.lnu.address = s.lnu.address
    ∧ t.lnu.fast = s.lnu.fast
    ∧ t.lnu.answering = s.lnu.answering
    ∧ t.lnu.rx = s.lnu.rx
    ∧ t.lnu.tx = s.lnu.tx
    ∧ t.lnu.driver = s.lnu.driver
    ∧ t.lnu.errors = s.lnu.errors
    ∧ t.lnu.masks = s.lnu.masks
    ∧ t.lnu.caseLamp = s.lnu.caseLamp
    ∧ t.lnu.handoverLamp = s.lnu.handoverLamp
    ∧ t.lnu.presenceLine = s.lnu.presenceLine := by
  obtain rfl := Host.Outcome.next.inj h
  clear h
  (repeat' split) <;> simp

/-- What `takeSample` leaves unchanged. -/
@[simp] theorem takeSample_frame (c : Channel) (raw : Nat) (s : State) :
    (takeSample c raw s).tb = s.tb
    ∧ (takeSample c raw s).riu = s.riu
    ∧ (takeSample c raw s).tiu = s.tiu
    ∧ (takeSample c raw s).ct = s.ct
    ∧ (takeSample c raw s).tgr = s.tgr
    ∧ (takeSample c raw s).shc = s.shc
    ∧ (takeSample c raw s).pending = s.pending
    ∧ (takeSample c raw s).lnu.address = s.lnu.address
    ∧ (takeSample c raw s).lnu.fast = s.lnu.fast
    ∧ (takeSample c raw s).lnu.answering = s.lnu.answering
    ∧ (takeSample c raw s).lnu.rx = s.lnu.rx
    ∧ (takeSample c raw s).lnu.tx = s.lnu.tx
    ∧ (takeSample c raw s).lnu.driver = s.lnu.driver
    ∧ (takeSample c raw s).lnu.errors = s.lnu.errors
    ∧ (takeSample c raw s).lnu.masks = s.lnu.masks
    ∧ (takeSample c raw s).lnu.caseLamp = s.lnu.caseLamp
    ∧ (takeSample c raw s).lnu.handoverLamp = s.lnu.handoverLamp
    ∧ (takeSample c raw s).lnu.presenceLine = s.lnu.presenceLine := by
  unfold takeSample
  split <;> simp

/-- What `execSampleEvent` leaves unchanged. -/
theorem execSampleEvent_frame {c : Channel} {raw : BitVec 10} {s t : State} (h : execSampleEvent c raw s = .next t) :
    t.tb = s.tb
    ∧ t.riu = s.riu
    ∧ t.tiu = s.tiu
    ∧ t.ct = s.ct
    ∧ t.tgr = s.tgr
    ∧ t.shc = s.shc
    ∧ t.pending = s.pending
    ∧ t.lnu.address = s.lnu.address
    ∧ t.lnu.fast = s.lnu.fast
    ∧ t.lnu.answering = s.lnu.answering
    ∧ t.lnu.rx = s.lnu.rx
    ∧ t.lnu.tx = s.lnu.tx
    ∧ t.lnu.driver = s.lnu.driver
    ∧ t.lnu.errors = s.lnu.errors
    ∧ t.lnu.masks = s.lnu.masks
    ∧ t.lnu.caseLamp = s.lnu.caseLamp
    ∧ t.lnu.handoverLamp = s.lnu.handoverLamp
    ∧ t.lnu.presenceLine = s.lnu.presenceLine := by
  obtain rfl := Host.Outcome.next.inj h
  clear h
  (repeat' split) <;> simp

/-- What `execUnitContactEdge` leaves unchanged. -/
theorem execUnitContactEdge_frame {u : UnitId} {k : ContactId} {c : Bool} {s t : State} (h : execUnitContactEdge u k c s = .next t) :
    t.tb = s.tb
    ∧ t.riu = s.riu
    ∧ t.tiu = s.tiu
    ∧ t.ct = s.ct
    ∧ t.tgr = s.tgr
    ∧ t.rha = s.rha
    ∧ t.asc = s.asc
    ∧ t.shc = s.shc
    ∧ t.lnu = s.lnu
    ∧ t.spm = s.spm
    ∧ t.pending = s.pending := by
  obtain rfl := Host.Outcome.next.inj h
  clear h
  (repeat' split) <;> simp

/-- What `execUnitContactConfirmation` leaves unchanged. -/
theorem execUnitContactConfirmation_frame {u : UnitId} {k : ContactId} {s t : State} (h : execUnitContactConfirmation u k s = .next t) :
    t.tb = s.tb
    ∧ t.riu = s.riu
    ∧ t.tiu = s.tiu
    ∧ t.ct = s.ct
    ∧ t.tgr = s.tgr
    ∧ t.rha = s.rha
    ∧ t.asc = s.asc
    ∧ t.shc = s.shc
    ∧ t.lnu = s.lnu
    ∧ t.spm = s.spm
    ∧ t.pending = s.pending := by
  obtain rfl := Host.Outcome.next.inj h
  clear h
  (repeat' split) <;> simp

/-- What `execBusGrant` leaves unchanged. -/
theorem execBusGrant_frame {s t : State} (h : execBusGrant s = .next t) :
    t.tb = s.tb
    ∧ t.riu = s.riu
    ∧ t.tiu = s.tiu
    ∧ t.ct = s.ct
    ∧ t.tgr = s.tgr
    ∧ t.usm = s.usm
    ∧ t.rha = s.rha
    ∧ t.shc = s.shc
    ∧ t.lnu = s.lnu
    ∧ t.spm = s.spm
    ∧ t.pending = s.pending := by
  obtain rfl := Host.Outcome.next.inj h
  clear h
  (repeat' split) <;> simp

/-- What `execGrantTimeout` leaves unchanged. -/
theorem execGrantTimeout_frame {s t : State} (h : execGrantTimeout s = .next t) :
    t.tb = s.tb
    ∧ t.riu = s.riu
    ∧ t.tiu = s.tiu
    ∧ t.ct = s.ct
    ∧ t.tgr = s.tgr
    ∧ t.usm = s.usm
    ∧ t.shc = s.shc
    ∧ t.spm = s.spm
    ∧ t.pending = s.pending
    ∧ t.lnu.address = s.lnu.address
    ∧ t.lnu.fast = s.lnu.fast
    ∧ t.lnu.answering = s.lnu.answering
    ∧ t.lnu.rx = s.lnu.rx
    ∧ t.lnu.tx = s.lnu.tx
    ∧ t.lnu.driver = s.lnu.driver
    ∧ t.lnu.errors = s.lnu.errors
    ∧ t.lnu.masks = s.lnu.masks
    ∧ t.lnu.caseLamp = s.lnu.caseLamp
    ∧ t.lnu.handoverLamp = s.lnu.handoverLamp
    ∧ t.lnu.presenceLine = s.lnu.presenceLine := by
  obtain rfl := Host.Outcome.next.inj h
  clear h
  (repeat' split) <;> simp

/-- What `execNotReadyTimeout` leaves unchanged. -/
theorem execNotReadyTimeout_frame {s t : State} (h : execNotReadyTimeout s = .next t) :
    t.tb = s.tb
    ∧ t.riu = s.riu
    ∧ t.tiu = s.tiu
    ∧ t.ct = s.ct
    ∧ t.tgr = s.tgr
    ∧ t.usm = s.usm
    ∧ t.shc = s.shc
    ∧ t.spm = s.spm
    ∧ t.pending = s.pending
    ∧ t.lnu.address = s.lnu.address
    ∧ t.lnu.fast = s.lnu.fast
    ∧ t.lnu.answering = s.lnu.answering
    ∧ t.lnu.rx = s.lnu.rx
    ∧ t.lnu.tx = s.lnu.tx
    ∧ t.lnu.driver = s.lnu.driver
    ∧ t.lnu.errors = s.lnu.errors
    ∧ t.lnu.masks = s.lnu.masks
    ∧ t.lnu.caseLamp = s.lnu.caseLamp
    ∧ t.lnu.handoverLamp = s.lnu.handoverLamp
    ∧ t.lnu.presenceLine = s.lnu.presenceLine := by
  obtain rfl := Host.Outcome.next.inj h
  clear h
  (repeat' split) <;> simp

/-- What `execGrantWithdrawn` leaves unchanged. -/
theorem execGrantWithdrawn_frame {s t : State} (h : execGrantWithdrawn s = .next t) :
    t.tb = s.tb
    ∧ t.riu = s.riu
    ∧ t.tiu = s.tiu
    ∧ t.ct = s.ct
    ∧ t.tgr = s.tgr
    ∧ t.usm = s.usm
    ∧ t.shc = s.shc
    ∧ t.spm = s.spm
    ∧ t.pending = s.pending
    ∧ t.lnu.address = s.lnu.address
    ∧ t.lnu.fast = s.lnu.fast
    ∧ t.lnu.answering = s.lnu.answering
    ∧ t.lnu.rx = s.lnu.rx
    ∧ t.lnu.tx = s.lnu.tx
    ∧ t.lnu.driver = s.lnu.driver
    ∧ t.lnu.errors = s.lnu.errors
    ∧ t.lnu.masks = s.lnu.masks
    ∧ t.lnu.caseLamp = s.lnu.caseLamp
    ∧ t.lnu.handoverLamp = s.lnu.handoverLamp
    ∧ t.lnu.presenceLine = s.lnu.presenceLine := by
  obtain rfl := Host.Outcome.next.inj h
  clear h
  (repeat' split) <;> simp

/-- What `execCommitPeriodExpiry` leaves unchanged. -/
theorem execCommitPeriodExpiry_frame {s t : State} (h : execCommitPeriodExpiry s = .next t) :
    t.tb = s.tb
    ∧ t.riu = s.riu
    ∧ t.tiu = s.tiu
    ∧ t.ct = s.ct
    ∧ t.tgr = s.tgr
    ∧ t.usm = s.usm
    ∧ t.shc = s.shc
    ∧ t.spm = s.spm
    ∧ t.pending = s.pending
    ∧ t.lnu.address = s.lnu.address
    ∧ t.lnu.fast = s.lnu.fast
    ∧ t.lnu.answering = s.lnu.answering
    ∧ t.lnu.rx = s.lnu.rx
    ∧ t.lnu.tx = s.lnu.tx
    ∧ t.lnu.driver = s.lnu.driver
    ∧ t.lnu.errors = s.lnu.errors
    ∧ t.lnu.masks = s.lnu.masks
    ∧ t.lnu.caseLamp = s.lnu.caseLamp
    ∧ t.lnu.handoverLamp = s.lnu.handoverLamp
    ∧ t.lnu.presenceLine = s.lnu.presenceLine := by
  obtain rfl := Host.Outcome.next.inj h
  clear h
  (repeat' split) <;> simp

/-- What `execReadBackComplete` leaves unchanged. -/
theorem execReadBackComplete_frame {bytes : List Byte} {s t : State} (h : execReadBackComplete bytes s = .next t) :
    t.tb = s.tb
    ∧ t.riu = s.riu
    ∧ t.tiu = s.tiu
    ∧ t.ct = s.ct
    ∧ t.tgr = s.tgr
    ∧ t.usm = s.usm
    ∧ t.shc = s.shc
    ∧ t.spm = s.spm
    ∧ t.pending = s.pending
    ∧ t.lnu.address = s.lnu.address
    ∧ t.lnu.fast = s.lnu.fast
    ∧ t.lnu.answering = s.lnu.answering
    ∧ t.lnu.rx = s.lnu.rx
    ∧ t.lnu.tx = s.lnu.tx
    ∧ t.lnu.driver = s.lnu.driver
    ∧ t.lnu.errors = s.lnu.errors
    ∧ t.lnu.masks = s.lnu.masks
    ∧ t.lnu.caseLamp = s.lnu.caseLamp
    ∧ t.lnu.handoverLamp = s.lnu.handoverLamp
    ∧ t.lnu.presenceLine = s.lnu.presenceLine := by
  obtain rfl := Host.Outcome.next.inj h
  clear h
  (repeat' split) <;> simp

/-- What `execStoreReadComplete` leaves unchanged. -/
theorem execStoreReadComplete_frame {bytes : List Byte} {s t : State} (h : execStoreReadComplete bytes s = .next t) :
    t.tb = s.tb
    ∧ t.riu = s.riu
    ∧ t.tiu = s.tiu
    ∧ t.ct = s.ct
    ∧ t.tgr = s.tgr
    ∧ t.usm = s.usm
    ∧ t.shc = s.shc
    ∧ t.spm = s.spm
    ∧ t.pending = s.pending
    ∧ t.lnu.address = s.lnu.address
    ∧ t.lnu.fast = s.lnu.fast
    ∧ t.lnu.answering = s.lnu.answering
    ∧ t.lnu.rx = s.lnu.rx
    ∧ t.lnu.tx = s.lnu.tx
    ∧ t.lnu.driver = s.lnu.driver
    ∧ t.lnu.errors = s.lnu.errors
    ∧ t.lnu.masks = s.lnu.masks
    ∧ t.lnu.caseLamp = s.lnu.caseLamp
    ∧ t.lnu.handoverLamp = s.lnu.handoverLamp
    ∧ t.lnu.presenceLine = s.lnu.presenceLine := by
  obtain rfl := Host.Outcome.next.inj h
  clear h
  (repeat' split) <;> simp

/-- What `execTransferComplete` leaves unchanged. -/
theorem execTransferComplete_frame {s t : State} (h : execTransferComplete s = .next t) :
    t.tb = s.tb
    ∧ t.riu = s.riu
    ∧ t.tiu = s.tiu
    ∧ t.ct = s.ct
    ∧ t.tgr = s.tgr
    ∧ t.usm = s.usm
    ∧ t.rha = s.rha
    ∧ t.shc = s.shc
    ∧ t.lnu = s.lnu
    ∧ t.spm = s.spm
    ∧ t.pending = s.pending := by
  obtain rfl := Host.Outcome.next.inj h
  clear h
  (repeat' split) <;> simp

/-- What `execStoreWriteCycleDone` leaves unchanged. -/
theorem execStoreWriteCycleDone_frame {s t : State} (h : execStoreWriteCycleDone s = .next t) :
    t.tb = s.tb
    ∧ t.riu = s.riu
    ∧ t.tiu = s.tiu
    ∧ t.ct = s.ct
    ∧ t.tgr = s.tgr
    ∧ t.usm = s.usm
    ∧ t.rha = s.rha
    ∧ t.shc = s.shc
    ∧ t.lnu = s.lnu
    ∧ t.spm = s.spm
    ∧ t.pending = s.pending := by
  obtain rfl := Host.Outcome.next.inj h
  clear h
  (repeat' split) <;> simp

/-- What `execPresenceExpiry` leaves unchanged. -/
theorem execPresenceExpiry_frame {s t : State} (h : execPresenceExpiry s = .next t) :
    t.tb = s.tb
    ∧ t.riu = s.riu
    ∧ t.tiu = s.tiu
    ∧ t.ct = s.ct
    ∧ t.tgr = s.tgr
    ∧ t.usm = s.usm
    ∧ t.rha = s.rha
    ∧ t.asc = s.asc
    ∧ t.spm = s.spm
    ∧ t.pending = s.pending
    ∧ t.lnu.address = s.lnu.address
    ∧ t.lnu.fast = s.lnu.fast
    ∧ t.lnu.answering = s.lnu.answering
    ∧ t.lnu.rx = s.lnu.rx
    ∧ t.lnu.tx = s.lnu.tx
    ∧ t.lnu.driver = s.lnu.driver
    ∧ t.lnu.errors = s.lnu.errors
    ∧ t.lnu.masks = s.lnu.masks
    ∧ t.lnu.caseLamp = s.lnu.caseLamp
    ∧ t.lnu.handoverLamp = s.lnu.handoverLamp := by
  obtain rfl := Host.Outcome.next.inj h
  clear h
  (repeat' split) <;> simp

/-- What `execPfiEdge` leaves unchanged. -/
theorem execPfiEdge_frame {a : Bool} {s t : State} (h : execPfiEdge a s = .next t) :
    t.tb = s.tb
    ∧ t.riu = s.riu
    ∧ t.tiu = s.tiu
    ∧ t.ct = s.ct
    ∧ t.tgr = s.tgr
    ∧ t.usm = s.usm
    ∧ t.rha = s.rha
    ∧ t.asc = s.asc
    ∧ t.shc = s.shc
    ∧ t.lnu = s.lnu
    ∧ t.pending = s.pending := by
  obtain rfl := Host.Outcome.next.inj h
  clear h
  (repeat' split) <;> simp

/-- What `execPfiConfirmation` leaves unchanged. -/
theorem execPfiConfirmation_frame {s t : State} (h : execPfiConfirmation s = .next t) :
    t.tb = s.tb
    ∧ t.riu = s.riu
    ∧ t.tiu = s.tiu
    ∧ t.ct = s.ct
    ∧ t.tgr = s.tgr
    ∧ t.usm = s.usm
    ∧ t.shc = s.shc
    ∧ t.pending = s.pending
    ∧ t.lnu.address = s.lnu.address
    ∧ t.lnu.fast = s.lnu.fast
    ∧ t.lnu.answering = s.lnu.answering
    ∧ t.lnu.rx = s.lnu.rx
    ∧ t.lnu.tx = s.lnu.tx
    ∧ t.lnu.driver = s.lnu.driver
    ∧ t.lnu.errors = s.lnu.errors
    ∧ t.lnu.masks = s.lnu.masks
    ∧ t.lnu.caseLamp = s.lnu.caseLamp
    ∧ t.lnu.handoverLamp = s.lnu.handoverLamp
    ∧ t.lnu.presenceLine = s.lnu.presenceLine := by
  obtain rfl := Host.Outcome.next.inj h
  clear h
  (repeat' split) <;> simp

/-- What `execRestoreExpiry` leaves unchanged. -/
theorem execRestoreExpiry_frame {s t : State} (h : execRestoreExpiry s = .next t) :
    t.tb = s.tb
    ∧ t.riu = s.riu
    ∧ t.tiu = s.tiu
    ∧ t.ct = s.ct
    ∧ t.tgr = s.tgr
    ∧ t.usm = s.usm
    ∧ t.rha = s.rha
    ∧ t.asc = s.asc
    ∧ t.shc = s.shc
    ∧ t.lnu = s.lnu
    ∧ t.pending = s.pending := by
  obtain rfl := Host.Outcome.next.inj h
  clear h
  (repeat' split) <;> simp

/-- What `execBackupEntry` leaves unchanged. -/
theorem execBackupEntry_frame {s t : State} (h : execBackupEntry s = .next t) :
    t.riu = s.riu
    ∧ t.ct = s.ct
    ∧ t.tgr = s.tgr
    ∧ t.rha = s.rha
    ∧ t.shc = s.shc
    ∧ t.pending = s.pending
    ∧ t.lnu.address = s.lnu.address
    ∧ t.lnu.fast = s.lnu.fast
    ∧ t.lnu.errors = s.lnu.errors
    ∧ t.lnu.masks = s.lnu.masks := by
  obtain rfl := Host.Outcome.next.inj h
  clear h
  split
  · simp [enterBackup, Lnu.stopped]
  · simp

/-- What `execMainSupplyReturn` leaves unchanged. -/
theorem execMainSupplyReturn_frame {a : BitVec 5} {f : Bool} {s t : State} (h : execMainSupplyReturn a f s = .next t) :
    t.pending = s.pending := by
  obtain rfl := Host.Outcome.next.inj h
  clear h
  (repeat' split) <;> simp [skipBackupBoundaries]

/-- What `execResetPin` leaves unchanged. -/
theorem execResetPin_frame {a : BitVec 5} {f : Bool} {s t : State} (h : execResetPin a f s = .next t) :
    t.pending = s.pending := by
  obtain rfl := Host.Outcome.next.inj h
  clear h
  (repeat' split) <;> simp

/-- What `execWatchOscillatorCycle` leaves unchanged. -/
theorem execWatchOscillatorCycle_frame {s t : State} (h : execWatchOscillatorCycle s = .next t) :
    t.riu = s.riu
    ∧ t.tiu = s.tiu
    ∧ t.ct = s.ct
    ∧ t.tgr = s.tgr
    ∧ t.usm = s.usm
    ∧ t.rha = s.rha
    ∧ t.asc = s.asc
    ∧ t.shc = s.shc
    ∧ t.lnu = s.lnu
    ∧ t.spm = s.spm
    ∧ t.pending = s.pending := by
  obtain rfl := Host.Outcome.next.inj h
  simp

/-- What `execLinkByteReceived` leaves unchanged. -/
theorem execLinkByteReceived_frame {b : Byte} {stop : Bool} {s t : State} (h : execLinkByteReceived b stop s = .next t) :
    t.tb = s.tb
    ∧ t.riu = s.riu
    ∧ t.tiu = s.tiu
    ∧ t.ct = s.ct
    ∧ t.tgr = s.tgr
    ∧ t.usm = s.usm
    ∧ t.rha = s.rha
    ∧ t.asc = s.asc
    ∧ t.shc = s.shc
    ∧ t.spm = s.spm
    ∧ t.pending = s.pending
    ∧ t.lnu.address = s.lnu.address
    ∧ t.lnu.fast = s.lnu.fast
    ∧ t.lnu.answering = s.lnu.answering
    ∧ t.lnu.tx = s.lnu.tx
    ∧ t.lnu.driver = s.lnu.driver
    ∧ t.lnu.errors = s.lnu.errors
    ∧ t.lnu.masks = s.lnu.masks
    ∧ t.lnu.caseLamp = s.lnu.caseLamp
    ∧ t.lnu.handoverLamp = s.lnu.handoverLamp
    ∧ t.lnu.presenceLine = s.lnu.presenceLine := by
  obtain rfl := Host.Outcome.next.inj h
  clear h
  (repeat' split) <;> simp

/-- What `execBackupRetentionLost` leaves unchanged. -/
theorem execBackupRetentionLost_frame {s t : State} (h : execBackupRetentionLost s = .next t) :
    t.tb = s.tb
    ∧ t.riu = s.riu
    ∧ t.tiu = s.tiu
    ∧ t.ct = s.ct
    ∧ t.tgr = s.tgr
    ∧ t.usm = s.usm
    ∧ t.rha = s.rha
    ∧ t.asc = s.asc
    ∧ t.shc = s.shc
    ∧ t.lnu = s.lnu
    ∧ t.pending = s.pending := by
  obtain rfl := Host.Outcome.next.inj h
  clear h
  (repeat' split) <;> simp

/-- What `execReplyComplete` leaves unchanged. -/
theorem execReplyComplete_frame {s t : State} (h : execReplyComplete s = .next t) :
    t.tb = s.tb
    ∧ t.riu = s.riu
    ∧ t.tiu = s.tiu
    ∧ t.ct = s.ct
    ∧ t.tgr = s.tgr
    ∧ t.usm = s.usm
    ∧ t.rha = s.rha
    ∧ t.asc = s.asc
    ∧ t.shc = s.shc
    ∧ t.spm = s.spm
    ∧ t.pending = s.pending
    ∧ t.lnu.address = s.lnu.address
    ∧ t.lnu.fast = s.lnu.fast
    ∧ t.lnu.errors = s.lnu.errors
    ∧ t.lnu.masks = s.lnu.masks
    ∧ t.lnu.caseLamp = s.lnu.caseLamp
    ∧ t.lnu.handoverLamp = s.lnu.handoverLamp
    ∧ t.lnu.presenceLine = s.lnu.presenceLine := by
  obtain rfl := Host.Outcome.next.inj h
  clear h
  (repeat' split) <;> simp

end Sys2Proof.Machine
end

