-- ==== Sys2Proof/Laws/Steps.lean ====
section
/-! SUPPORT. The induction every invariant uses: what the requests, a reply, a broadcast, the receiver, the
events and the passing of time keep, every step keeps. -/

namespace Sys2Proof.Machine

/-- Every step keeps what each of its parts keeps. -/
theorem step_keeps {P : State → Prop} (queue : ∀ s q, P s → P { s with pending := q })
    (reply : ∀ code a t, P t → P (sendReply code a t))
    (block : ∀ act t, BlockAct act → t.listening = true → P t → P (act t).1)
    (broadcast : ∀ x f n t, x < 2 ^ 32 → f < 2 ^ 32 → n < 2 ^ 32 → P t → P (broadcastSetTime x f n t))
    (receiver : ∀ r t, P t → P (setRx r t)) (count : ∀ t, P t → P (countError t))
    (event : ∀ i s t, Safety.requestBytes i = none → i ≠ .frameEnd → P s → exec i s = .next t → P t)
    (time : ∀ s, P s → P (tick s)) : ∀ s t, P s → step s = .next t → P t := by
  intro s t h e
  unfold step at e
  split at e
  · obtain rfl := Host.Outcome.next.inj e; exact time _ h
  · rename_i i rest hp
    have h' := queue s rest h
    by_cases c : (Safety.requestBytes i).isSome = true
    · exact command_keeps reply block broadcast h' c e
    · by_cases f : i = .frameEnd
      · subst f; exact frameEnd_keeps reply block broadcast receiver count h' e
      · exact event i _ t (by simpa using c) f h' e

end Sys2Proof.Machine
end

