-- ==== Sys2Proof/Laws/Time.lean ====
section
/-! SUPPORT. Which fields of the Timebase each operation of chapters 1, 2 and 11 keeps, and the quality class's one
effect on the Timebase. -/

namespace Sys2Proof.Machine

/-- Deriving the class writes the reported class and nothing else of the Timebase (R33). -/
theorem evalQuality_tb (s : State) : (evalQuality s).tb = { s.tb with reported := s.tb.quality } := by
  simp only [evalQuality]; split <;> simp

/-- Time that passes moves the two counts and no other field of the Timebase (R1, R2). -/
@[simp] theorem Timebase.advanced_fields (t : Timebase) (n : Nat) :
    (t.advanced n).timeSet = t.timeSet
    ∧ (t.advanced n).holdBack = t.holdBack
    ∧ (t.advanced n).boundaryDue = t.boundaryDue
    ∧ (t.advanced n).dutyHanded = t.dutyHanded
    ∧ (t.advanced n).backupAcc = t.backupAcc
    ∧ (t.advanced n).backupEntry = t.backupEntry
    ∧ (t.advanced n).state = t.state
    ∧ (t.advanced n).freq = t.freq
    ∧ (t.advanced n).trim = t.trim
    ∧ (t.advanced n).trimRem = t.trimRem
    ∧ (t.advanced n).outlierRun = t.outlierRun
    ∧ (t.advanced n).firstOutlier = t.firstOutlier
    ∧ (t.advanced n).lockRun = t.lockRun
    ∧ (t.advanced n).lockHeld = t.lockHeld
    ∧ (t.advanced n).uncertainty = t.uncertainty
    ∧ (t.advanced n).growthRem = t.growthRem
    ∧ (t.advanced n).reported = t.reported
    ∧ (t.advanced n).loopExp = t.loopExp
    ∧ (t.advanced n).stepThreshold = t.stepThreshold
    ∧ (t.advanced n).holdRate = t.holdRate := by
  simp [Timebase.advanced]

/-- Where time does not pass a second the fraction takes all of it (R1). -/
theorem Timebase.advanced_within {t : Timebase} {n : Nat} (h : t.frac + n ≤ 9999999) :
    t.advanced n = { t with frac := t.frac + n, elapsed := advanceElapsed t.elapsed n } := by
  simp [Timebase.advanced, Nat.not_lt.mpr h]

/-- Time that passes the end of a second carries its excess into the next (R1, R6). -/
theorem Timebase.advanced_carry {t : Timebase} {n : Nat} (h : 9999999 < t.frac + n) :
    t.advanced n = { t with
      seconds := nextSecond t.seconds, frac := t.frac + n - 10000000, elapsed := advanceElapsed t.elapsed n } := by
  simp [Timebase.advanced, h]

/-- What the present period reads differs from the Timebase in the two counts alone (R5). -/
@[simp] theorem Timebase.present_fields (t : Timebase) :
    t.present.timeSet = t.timeSet
    ∧ t.present.holdBack = t.holdBack
    ∧ t.present.boundaryDue = t.boundaryDue
    ∧ t.present.dutyHanded = t.dutyHanded
    ∧ t.present.backupAcc = t.backupAcc
    ∧ t.present.backupEntry = t.backupEntry
    ∧ t.present.state = t.state
    ∧ t.present.freq = t.freq
    ∧ t.present.trim = t.trim
    ∧ t.present.trimRem = t.trimRem
    ∧ t.present.outlierRun = t.outlierRun
    ∧ t.present.firstOutlier = t.firstOutlier
    ∧ t.present.lockRun = t.lockRun
    ∧ t.present.lockHeld = t.lockHeld
    ∧ t.present.uncertainty = t.uncertainty
    ∧ t.present.growthRem = t.growthRem
    ∧ t.present.reported = t.reported
    ∧ t.present.loopExp = t.loopExp
    ∧ t.present.stepThreshold = t.stepThreshold
    ∧ t.present.holdRate = t.holdRate := by
  unfold Timebase.present; split <;> simp

/-- With no boundary due the counts read as they stand (R5). -/
@[simp] theorem Timebase.present_of_not_due {t : Timebase} (h : t.boundaryDue = false) : t.present = t := by
  simp [Timebase.present, h]

/-- A due boundary that begins a hold-back leaves the counts to read as they stand (R5). -/
theorem Timebase.present_of_hold {t : Timebase} (h : t.applied < 0) : t.present = t := by
  simp [Timebase.present, Int.not_le.mpr h]

/-- A due boundary with an insertion reads after it (R5). -/
theorem Timebase.present_of_insertion {t : Timebase} (d : t.boundaryDue = true) (h : 0 ≤ t.applied) :
    t.present = t.advanced (1 + t.applied.toNat) := by
  simp [Timebase.present, d, h]

/-- The stamp of an instant is read from the Timebase alone (R5). -/
theorem State.now_congr {s t : State} (h : s.tb = t.tb) : s.now = t.now := by simp [State.now, h]

/-- The elapsed count of an instant is read from the Timebase alone (R2). -/
theorem State.elapsed_congr {s t : State} (h : s.tb = t.tb) : s.elapsed = t.elapsed := by simp [State.elapsed, h]

/-- With no boundary due the elapsed count of the instant is the one held (R2, R5). -/
theorem State.elapsed_of_not_due {s : State} (h : s.tb.boundaryDue = false) : s.elapsed = s.tb.elapsed := by
  simp [State.elapsed, h]

/-- The fields of the Timebase that `selectionChanged` keeps. -/
@[simp] theorem selectionChanged_tb (o n : Option SourceId) (s : State) :
    (selectionChanged o n s).tb.seconds = s.tb.seconds
    ∧ (selectionChanged o n s).tb.frac = s.tb.frac
    ∧ (selectionChanged o n s).tb.elapsed = s.tb.elapsed
    ∧ (selectionChanged o n s).tb.timeSet = s.tb.timeSet
    ∧ (selectionChanged o n s).tb.holdBack = s.tb.holdBack
    ∧ (selectionChanged o n s).tb.boundaryDue = s.tb.boundaryDue
    ∧ (selectionChanged o n s).tb.dutyHanded = s.tb.dutyHanded
    ∧ (selectionChanged o n s).tb.backupAcc = s.tb.backupAcc
    ∧ (selectionChanged o n s).tb.backupEntry = s.tb.backupEntry
    ∧ (selectionChanged o n s).tb.freq = s.tb.freq
    ∧ (selectionChanged o n s).tb.trimRem = s.tb.trimRem
    ∧ (selectionChanged o n s).tb.lockHeld = s.tb.lockHeld
    ∧ (selectionChanged o n s).tb.loopExp = s.tb.loopExp
    ∧ (selectionChanged o n s).tb.stepThreshold = s.tb.stepThreshold
    ∧ (selectionChanged o n s).tb.holdRate = s.tb.holdRate := by
  simp only [selectionChanged]
  (repeat' split) <;> simp [Timebase.clearRuns, Timebase.acquire, Timebase.letGo]

/-- The fields of the Timebase that `evalSelection` keeps. -/
@[simp] theorem evalSelection_tb (s : State) :
    (evalSelection s).tb.seconds = s.tb.seconds
    ∧ (evalSelection s).tb.frac = s.tb.frac
    ∧ (evalSelection s).tb.elapsed = s.tb.elapsed
    ∧ (evalSelection s).tb.timeSet = s.tb.timeSet
    ∧ (evalSelection s).tb.holdBack = s.tb.holdBack
    ∧ (evalSelection s).tb.boundaryDue = s.tb.boundaryDue
    ∧ (evalSelection s).tb.dutyHanded = s.tb.dutyHanded
    ∧ (evalSelection s).tb.backupAcc = s.tb.backupAcc
    ∧ (evalSelection s).tb.backupEntry = s.tb.backupEntry
    ∧ (evalSelection s).tb.freq = s.tb.freq
    ∧ (evalSelection s).tb.trimRem = s.tb.trimRem
    ∧ (evalSelection s).tb.lockHeld = s.tb.lockHeld
    ∧ (evalSelection s).tb.loopExp = s.tb.loopExp
    ∧ (evalSelection s).tb.stepThreshold = s.tb.stepThreshold
    ∧ (evalSelection s).tb.holdRate = s.tb.holdRate := by
  simp only [evalSelection]; split <;> simp

/-- The fields of the Timebase that `lockedUncertainty` keeps. -/
@[simp] theorem lockedUncertainty_tb (e : Int) (s : State) :
    (lockedUncertainty e s).tb.seconds = s.tb.seconds
    ∧ (lockedUncertainty e s).tb.frac = s.tb.frac
    ∧ (lockedUncertainty e s).tb.elapsed = s.tb.elapsed
    ∧ (lockedUncertainty e s).tb.timeSet = s.tb.timeSet
    ∧ (lockedUncertainty e s).tb.holdBack = s.tb.holdBack
    ∧ (lockedUncertainty e s).tb.boundaryDue = s.tb.boundaryDue
    ∧ (lockedUncertainty e s).tb.dutyHanded = s.tb.dutyHanded
    ∧ (lockedUncertainty e s).tb.backupAcc = s.tb.backupAcc
    ∧ (lockedUncertainty e s).tb.backupEntry = s.tb.backupEntry
    ∧ (lockedUncertainty e s).tb.state = s.tb.state
    ∧ (lockedUncertainty e s).tb.freq = s.tb.freq
    ∧ (lockedUncertainty e s).tb.trim = s.tb.trim
    ∧ (lockedUncertainty e s).tb.trimRem = s.tb.trimRem
    ∧ (lockedUncertainty e s).tb.outlierRun = s.tb.outlierRun
    ∧ (lockedUncertainty e s).tb.firstOutlier = s.tb.firstOutlier
    ∧ (lockedUncertainty e s).tb.lockRun = s.tb.lockRun
    ∧ (lockedUncertainty e s).tb.lockHeld = s.tb.lockHeld
    ∧ (lockedUncertainty e s).tb.growthRem = s.tb.growthRem
    ∧ (lockedUncertainty e s).tb.loopExp = s.tb.loopExp
    ∧ (lockedUncertainty e s).tb.stepThreshold = s.tb.stepThreshold
    ∧ (lockedUncertainty e s).tb.holdRate = s.tb.holdRate := by
  unfold lockedUncertainty; split <;> simp

/-- The fields of the Timebase that `countLock` keeps. -/
@[simp] theorem countLock_tb (e : Int) (s : State) :
    (countLock e s).tb.seconds = s.tb.seconds
    ∧ (countLock e s).tb.frac = s.tb.frac
    ∧ (countLock e s).tb.elapsed = s.tb.elapsed
    ∧ (countLock e s).tb.timeSet = s.tb.timeSet
    ∧ (countLock e s).tb.holdBack = s.tb.holdBack
    ∧ (countLock e s).tb.boundaryDue = s.tb.boundaryDue
    ∧ (countLock e s).tb.dutyHanded = s.tb.dutyHanded
    ∧ (countLock e s).tb.backupAcc = s.tb.backupAcc
    ∧ (countLock e s).tb.backupEntry = s.tb.backupEntry
    ∧ (countLock e s).tb.freq = s.tb.freq
    ∧ (countLock e s).tb.trim = s.tb.trim
    ∧ (countLock e s).tb.trimRem = s.tb.trimRem
    ∧ (countLock e s).tb.outlierRun = s.tb.outlierRun
    ∧ (countLock e s).tb.firstOutlier = s.tb.firstOutlier
    ∧ (countLock e s).tb.uncertainty = s.tb.uncertainty
    ∧ (countLock e s).tb.growthRem = s.tb.growthRem
    ∧ (countLock e s).tb.reported = s.tb.reported
    ∧ (countLock e s).tb.loopExp = s.tb.loopExp
    ∧ (countLock e s).tb.stepThreshold = s.tb.stepThreshold
    ∧ (countLock e s).tb.holdRate = s.tb.holdRate := by
  unfold countLock; (repeat' split) <;> simp

/-- The fields of the Timebase that `takeInlier` keeps. -/
@[simp] theorem takeInlier_tb (e : Int) (s : State) :
    (takeInlier e s).tb.seconds = s.tb.seconds
    ∧ (takeInlier e s).tb.frac = s.tb.frac
    ∧ (takeInlier e s).tb.elapsed = s.tb.elapsed
    ∧ (takeInlier e s).tb.timeSet = s.tb.timeSet
    ∧ (takeInlier e s).tb.holdBack = s.tb.holdBack
    ∧ (takeInlier e s).tb.boundaryDue = s.tb.boundaryDue
    ∧ (takeInlier e s).tb.dutyHanded = s.tb.dutyHanded
    ∧ (takeInlier e s).tb.backupAcc = s.tb.backupAcc
    ∧ (takeInlier e s).tb.backupEntry = s.tb.backupEntry
    ∧ (takeInlier e s).tb.trimRem = s.tb.trimRem
    ∧ (takeInlier e s).tb.growthRem = s.tb.growthRem
    ∧ (takeInlier e s).tb.loopExp = s.tb.loopExp
    ∧ (takeInlier e s).tb.stepThreshold = s.tb.stepThreshold
    ∧ (takeInlier e s).tb.holdRate = s.tb.holdRate := by
  simp [takeInlier, Timebase.loopUpdate]

/-- A phase taken from the station time leaves the other fields as they are (R25). -/
@[simp] theorem Timebase.subtractPhase_fields (t : Timebase) (e : Int) :
    (t.subtractPhase e).elapsed = t.elapsed
    ∧ (t.subtractPhase e).timeSet = t.timeSet
    ∧ (t.subtractPhase e).holdBack = t.holdBack
    ∧ (t.subtractPhase e).boundaryDue = t.boundaryDue
    ∧ (t.subtractPhase e).dutyHanded = t.dutyHanded
    ∧ (t.subtractPhase e).backupAcc = t.backupAcc
    ∧ (t.subtractPhase e).backupEntry = t.backupEntry
    ∧ (t.subtractPhase e).state = t.state
    ∧ (t.subtractPhase e).freq = t.freq
    ∧ (t.subtractPhase e).trim = t.trim
    ∧ (t.subtractPhase e).trimRem = t.trimRem
    ∧ (t.subtractPhase e).outlierRun = t.outlierRun
    ∧ (t.subtractPhase e).firstOutlier = t.firstOutlier
    ∧ (t.subtractPhase e).lockRun = t.lockRun
    ∧ (t.subtractPhase e).lockHeld = t.lockHeld
    ∧ (t.subtractPhase e).uncertainty = t.uncertainty
    ∧ (t.subtractPhase e).growthRem = t.growthRem
    ∧ (t.subtractPhase e).reported = t.reported
    ∧ (t.subtractPhase e).loopExp = t.loopExp
    ∧ (t.subtractPhase e).stepThreshold = t.stepThreshold
    ∧ (t.subtractPhase e).holdRate = t.holdRate := by
  unfold Timebase.subtractPhase; dsimp only; split
  · simp only [and_self]
  · split <;> simp only [and_self]

/-- A step back of one cu moves the station time alone (R1). -/
@[simp] theorem Timebase.back_fields (t : Timebase) :
    t.back.elapsed = t.elapsed
    ∧ t.back.timeSet = t.timeSet
    ∧ t.back.holdBack = t.holdBack
    ∧ t.back.boundaryDue = t.boundaryDue
    ∧ t.back.dutyHanded = t.dutyHanded
    ∧ t.back.backupAcc = t.backupAcc
    ∧ t.back.backupEntry = t.backupEntry
    ∧ t.back.state = t.state
    ∧ t.back.freq = t.freq
    ∧ t.back.trim = t.trim
    ∧ t.back.trimRem = t.trimRem
    ∧ t.back.outlierRun = t.outlierRun
    ∧ t.back.firstOutlier = t.firstOutlier
    ∧ t.back.lockRun = t.lockRun
    ∧ t.back.lockHeld = t.lockHeld
    ∧ t.back.uncertainty = t.uncertainty
    ∧ t.back.growthRem = t.growthRem
    ∧ t.back.reported = t.reported
    ∧ t.back.loopExp = t.loopExp
    ∧ t.back.stepThreshold = t.stepThreshold
    ∧ t.back.holdRate = t.holdRate := by
  unfold Timebase.back; split <;> simp

/-- A step moves the station time alone (R25). -/
@[simp] theorem Timebase.stepped_fields (t : Timebase) (e : Int) :
    (t.stepped e).elapsed = t.elapsed
    ∧ (t.stepped e).timeSet = t.timeSet
    ∧ (t.stepped e).holdBack = t.holdBack
    ∧ (t.stepped e).boundaryDue = t.boundaryDue
    ∧ (t.stepped e).dutyHanded = t.dutyHanded
    ∧ (t.stepped e).backupAcc = t.backupAcc
    ∧ (t.stepped e).backupEntry = t.backupEntry
    ∧ (t.stepped e).state = t.state
    ∧ (t.stepped e).freq = t.freq
    ∧ (t.stepped e).trim = t.trim
    ∧ (t.stepped e).trimRem = t.trimRem
    ∧ (t.stepped e).outlierRun = t.outlierRun
    ∧ (t.stepped e).firstOutlier = t.firstOutlier
    ∧ (t.stepped e).lockRun = t.lockRun
    ∧ (t.stepped e).lockHeld = t.lockHeld
    ∧ (t.stepped e).uncertainty = t.uncertainty
    ∧ (t.stepped e).growthRem = t.growthRem
    ∧ (t.stepped e).reported = t.reported
    ∧ (t.stepped e).loopExp = t.loopExp
    ∧ (t.stepped e).stepThreshold = t.stepThreshold
    ∧ (t.stepped e).holdRate = t.holdRate := by
  unfold Timebase.stepped; split <;> simp

/-- The fields of the Timebase that `stepPhase` keeps. -/
@[simp] theorem stepPhase_tb (e : Int) (s : State) :
    (stepPhase e s).tb.elapsed = s.tb.elapsed
    ∧ (stepPhase e s).tb.timeSet = s.tb.timeSet
    ∧ (stepPhase e s).tb.boundaryDue = s.tb.boundaryDue
    ∧ (stepPhase e s).tb.dutyHanded = s.tb.dutyHanded
    ∧ (stepPhase e s).tb.backupAcc = s.tb.backupAcc
    ∧ (stepPhase e s).tb.backupEntry = s.tb.backupEntry
    ∧ (stepPhase e s).tb.freq = s.tb.freq
    ∧ (stepPhase e s).tb.lockHeld = s.tb.lockHeld
    ∧ (stepPhase e s).tb.growthRem = s.tb.growthRem
    ∧ (stepPhase e s).tb.loopExp = s.tb.loopExp
    ∧ (stepPhase e s).tb.stepThreshold = s.tb.stepThreshold
    ∧ (stepPhase e s).tb.holdRate = s.tb.holdRate := by
  simp [stepPhase, Timebase.clearRuns, Timebase.acquire]

/-- The fields of the Timebase that `takeOutlier` keeps. -/
@[simp] theorem takeOutlier_tb (e : Int) (s : State) :
    (takeOutlier e s).tb.elapsed = s.tb.elapsed
    ∧ (takeOutlier e s).tb.timeSet = s.tb.timeSet
    ∧ (takeOutlier e s).tb.boundaryDue = s.tb.boundaryDue
    ∧ (takeOutlier e s).tb.dutyHanded = s.tb.dutyHanded
    ∧ (takeOutlier e s).tb.backupAcc = s.tb.backupAcc
    ∧ (takeOutlier e s).tb.backupEntry = s.tb.backupEntry
    ∧ (takeOutlier e s).tb.freq = s.tb.freq
    ∧ (takeOutlier e s).tb.lockHeld = s.tb.lockHeld
    ∧ (takeOutlier e s).tb.growthRem = s.tb.growthRem
    ∧ (takeOutlier e s).tb.loopExp = s.tb.loopExp
    ∧ (takeOutlier e s).tb.stepThreshold = s.tb.stepThreshold
    ∧ (takeOutlier e s).tb.holdRate = s.tb.holdRate := by
  simp only [takeOutlier]; split
  · simp
  · split <;> split <;> simp

/-- The fields of the Timebase that `selectedPulse` keeps. -/
@[simp] theorem selectedPulse_tb (e : Int) (s : State) :
    (selectedPulse e s).tb.elapsed = s.tb.elapsed
    ∧ (selectedPulse e s).tb.timeSet = s.tb.timeSet
    ∧ (selectedPulse e s).tb.boundaryDue = s.tb.boundaryDue
    ∧ (selectedPulse e s).tb.dutyHanded = s.tb.dutyHanded
    ∧ (selectedPulse e s).tb.backupAcc = s.tb.backupAcc
    ∧ (selectedPulse e s).tb.backupEntry = s.tb.backupEntry
    ∧ (selectedPulse e s).tb.growthRem = s.tb.growthRem
    ∧ (selectedPulse e s).tb.loopExp = s.tb.loopExp
    ∧ (selectedPulse e s).tb.stepThreshold = s.tb.stepThreshold
    ∧ (selectedPulse e s).tb.holdRate = s.tb.holdRate := by
  unfold selectedPulse; split <;> simp

/-- The fields of the Timebase that `acceptPulse` keeps. -/
@[simp] theorem acceptPulse_tb (x : SourceId) (s : State) :
    (acceptPulse x s).tb.elapsed = s.tb.elapsed
    ∧ (acceptPulse x s).tb.timeSet = s.tb.timeSet
    ∧ (acceptPulse x s).tb.boundaryDue = s.tb.boundaryDue
    ∧ (acceptPulse x s).tb.dutyHanded = s.tb.dutyHanded
    ∧ (acceptPulse x s).tb.backupAcc = s.tb.backupAcc
    ∧ (acceptPulse x s).tb.backupEntry = s.tb.backupEntry
    ∧ (acceptPulse x s).tb.loopExp = s.tb.loopExp
    ∧ (acceptPulse x s).tb.stepThreshold = s.tb.stepThreshold
    ∧ (acceptPulse x s).tb.holdRate = s.tb.holdRate := by
  simp only [acceptPulse]; split <;> simp

/-- The fields of the Timebase that `askSetTime` keeps. -/
@[simp] theorem askSetTime_tb (x f n : Nat) (s : State) :
    ((askSetTime x f n s).1).tb.elapsed = s.tb.elapsed
    ∧ ((askSetTime x f n s).1).tb.boundaryDue = s.tb.boundaryDue
    ∧ ((askSetTime x f n s).1).tb.dutyHanded = s.tb.dutyHanded
    ∧ ((askSetTime x f n s).1).tb.backupAcc = s.tb.backupAcc
    ∧ ((askSetTime x f n s).1).tb.backupEntry = s.tb.backupEntry
    ∧ ((askSetTime x f n s).1).tb.state = s.tb.state
    ∧ ((askSetTime x f n s).1).tb.freq = s.tb.freq
    ∧ ((askSetTime x f n s).1).tb.trim = s.tb.trim
    ∧ ((askSetTime x f n s).1).tb.trimRem = s.tb.trimRem
    ∧ ((askSetTime x f n s).1).tb.outlierRun = s.tb.outlierRun
    ∧ ((askSetTime x f n s).1).tb.firstOutlier = s.tb.firstOutlier
    ∧ ((askSetTime x f n s).1).tb.lockRun = s.tb.lockRun
    ∧ ((askSetTime x f n s).1).tb.lockHeld = s.tb.lockHeld
    ∧ ((askSetTime x f n s).1).tb.loopExp = s.tb.loopExp
    ∧ ((askSetTime x f n s).1).tb.stepThreshold = s.tb.stepThreshold
    ∧ ((askSetTime x f n s).1).tb.holdRate = s.tb.holdRate := by
  simp only [askSetTime]; (repeat' split) <;> simp

/-- The fields of the Timebase that `broadcastSetTime` keeps. -/
@[simp] theorem broadcastSetTime_tb (x f n : Nat) (s : State) :
    (broadcastSetTime x f n s).tb.elapsed = s.tb.elapsed
    ∧ (broadcastSetTime x f n s).tb.boundaryDue = s.tb.boundaryDue
    ∧ (broadcastSetTime x f n s).tb.dutyHanded = s.tb.dutyHanded
    ∧ (broadcastSetTime x f n s).tb.backupAcc = s.tb.backupAcc
    ∧ (broadcastSetTime x f n s).tb.backupEntry = s.tb.backupEntry
    ∧ (broadcastSetTime x f n s).tb.state = s.tb.state
    ∧ (broadcastSetTime x f n s).tb.freq = s.tb.freq
    ∧ (broadcastSetTime x f n s).tb.trim = s.tb.trim
    ∧ (broadcastSetTime x f n s).tb.trimRem = s.tb.trimRem
    ∧ (broadcastSetTime x f n s).tb.outlierRun = s.tb.outlierRun
    ∧ (broadcastSetTime x f n s).tb.firstOutlier = s.tb.firstOutlier
    ∧ (broadcastSetTime x f n s).tb.lockRun = s.tb.lockRun
    ∧ (broadcastSetTime x f n s).tb.lockHeld = s.tb.lockHeld
    ∧ (broadcastSetTime x f n s).tb.loopExp = s.tb.loopExp
    ∧ (broadcastSetTime x f n s).tb.stepThreshold = s.tb.stepThreshold
    ∧ (broadcastSetTime x f n s).tb.holdRate = s.tb.holdRate := by
  unfold broadcastSetTime; split <;> simp

/-- The fields of the Timebase that `askSetReference` keeps. -/
@[simp] theorem askSetReference_tb (x e p d : Nat) (s : State) :
    ((askSetReference x e p d s).1).tb.seconds = s.tb.seconds
    ∧ ((askSetReference x e p d s).1).tb.frac = s.tb.frac
    ∧ ((askSetReference x e p d s).1).tb.elapsed = s.tb.elapsed
    ∧ ((askSetReference x e p d s).1).tb.timeSet = s.tb.timeSet
    ∧ ((askSetReference x e p d s).1).tb.holdBack = s.tb.holdBack
    ∧ ((askSetReference x e p d s).1).tb.boundaryDue = s.tb.boundaryDue
    ∧ ((askSetReference x e p d s).1).tb.dutyHanded = s.tb.dutyHanded
    ∧ ((askSetReference x e p d s).1).tb.backupAcc = s.tb.backupAcc
    ∧ ((askSetReference x e p d s).1).tb.backupEntry = s.tb.backupEntry
    ∧ ((askSetReference x e p d s).1).tb.freq = s.tb.freq
    ∧ ((askSetReference x e p d s).1).tb.trimRem = s.tb.trimRem
    ∧ ((askSetReference x e p d s).1).tb.lockHeld = s.tb.lockHeld
    ∧ ((askSetReference x e p d s).1).tb.loopExp = s.tb.loopExp
    ∧ ((askSetReference x e p d s).1).tb.stepThreshold = s.tb.stepThreshold
    ∧ ((askSetReference x e p d s).1).tb.holdRate = s.tb.holdRate := by
  simp only [askSetReference]; (repeat' split) <;> simp

/-- The fields of the Timebase that `askSetLoop` keeps. -/
@[simp] theorem askSetLoop_tb (k t r : Nat) (s : State) :
    ((askSetLoop k t r s).1).tb.seconds = s.tb.seconds
    ∧ ((askSetLoop k t r s).1).tb.frac = s.tb.frac
    ∧ ((askSetLoop k t r s).1).tb.elapsed = s.tb.elapsed
    ∧ ((askSetLoop k t r s).1).tb.timeSet = s.tb.timeSet
    ∧ ((askSetLoop k t r s).1).tb.holdBack = s.tb.holdBack
    ∧ ((askSetLoop k t r s).1).tb.boundaryDue = s.tb.boundaryDue
    ∧ ((askSetLoop k t r s).1).tb.dutyHanded = s.tb.dutyHanded
    ∧ ((askSetLoop k t r s).1).tb.backupAcc = s.tb.backupAcc
    ∧ ((askSetLoop k t r s).1).tb.backupEntry = s.tb.backupEntry
    ∧ ((askSetLoop k t r s).1).tb.state = s.tb.state
    ∧ ((askSetLoop k t r s).1).tb.freq = s.tb.freq
    ∧ ((askSetLoop k t r s).1).tb.trim = s.tb.trim
    ∧ ((askSetLoop k t r s).1).tb.trimRem = s.tb.trimRem
    ∧ ((askSetLoop k t r s).1).tb.outlierRun = s.tb.outlierRun
    ∧ ((askSetLoop k t r s).1).tb.firstOutlier = s.tb.firstOutlier
    ∧ ((askSetLoop k t r s).1).tb.lockRun = s.tb.lockRun
    ∧ ((askSetLoop k t r s).1).tb.lockHeld = s.tb.lockHeld
    ∧ ((askSetLoop k t r s).1).tb.uncertainty = s.tb.uncertainty
    ∧ ((askSetLoop k t r s).1).tb.growthRem = s.tb.growthRem
    ∧ ((askSetLoop k t r s).1).tb.reported = s.tb.reported := by
  simp [askSetLoop]

/-- The fields of the Timebase that `resetT` keeps. -/
@[simp] theorem resetT_tb (s : State) :
    (resetT s).tb.seconds = s.tb.seconds
    ∧ (resetT s).tb.frac = s.tb.frac
    ∧ (resetT s).tb.elapsed = s.tb.elapsed
    ∧ (resetT s).tb.timeSet = s.tb.timeSet
    ∧ (resetT s).tb.holdBack = s.tb.holdBack
    ∧ (resetT s).tb.boundaryDue = s.tb.boundaryDue
    ∧ (resetT s).tb.dutyHanded = s.tb.dutyHanded
    ∧ (resetT s).tb.backupAcc = s.tb.backupAcc
    ∧ (resetT s).tb.backupEntry = s.tb.backupEntry
    ∧ (resetT s).tb.uncertainty = s.tb.uncertainty
    ∧ (resetT s).tb.reported = s.tb.reported
    ∧ (resetT s).tb.loopExp = s.tb.loopExp
    ∧ (resetT s).tb.stepThreshold = s.tb.stepThreshold
    ∧ (resetT s).tb.holdRate = s.tb.holdRate := by
  simp only [resetT]; split <;> simp [Timebase.resetT]

/-- The fields of the Timebase that `askResetT` keeps. -/
@[simp] theorem askResetT_tb (s : State) :
    ((askResetT s).1).tb.seconds = s.tb.seconds
    ∧ ((askResetT s).1).tb.frac = s.tb.frac
    ∧ ((askResetT s).1).tb.elapsed = s.tb.elapsed
    ∧ ((askResetT s).1).tb.timeSet = s.tb.timeSet
    ∧ ((askResetT s).1).tb.holdBack = s.tb.holdBack
    ∧ ((askResetT s).1).tb.boundaryDue = s.tb.boundaryDue
    ∧ ((askResetT s).1).tb.dutyHanded = s.tb.dutyHanded
    ∧ ((askResetT s).1).tb.backupAcc = s.tb.backupAcc
    ∧ ((askResetT s).1).tb.backupEntry = s.tb.backupEntry
    ∧ ((askResetT s).1).tb.uncertainty = s.tb.uncertainty
    ∧ ((askResetT s).1).tb.reported = s.tb.reported
    ∧ ((askResetT s).1).tb.loopExp = s.tb.loopExp
    ∧ ((askResetT s).1).tb.stepThreshold = s.tb.stepThreshold
    ∧ ((askResetT s).1).tb.holdRate = s.tb.holdRate := by
  simp [askResetT]

/-- The fields of the Timebase that `boundaryPeriod` keeps. -/
@[simp] theorem boundaryPeriod_tb (s : State) :
    (boundaryPeriod s).tb.timeSet = s.tb.timeSet
    ∧ (boundaryPeriod s).tb.boundaryDue = false
    ∧ (boundaryPeriod s).tb.dutyHanded = s.tb.dutyHanded
    ∧ (boundaryPeriod s).tb.backupAcc = s.tb.backupAcc
    ∧ (boundaryPeriod s).tb.backupEntry = s.tb.backupEntry
    ∧ (boundaryPeriod s).tb.state = s.tb.state
    ∧ (boundaryPeriod s).tb.freq = s.tb.freq
    ∧ (boundaryPeriod s).tb.outlierRun = s.tb.outlierRun
    ∧ (boundaryPeriod s).tb.firstOutlier = s.tb.firstOutlier
    ∧ (boundaryPeriod s).tb.lockRun = s.tb.lockRun
    ∧ (boundaryPeriod s).tb.lockHeld = s.tb.lockHeld
    ∧ (boundaryPeriod s).tb.loopExp = s.tb.loopExp
    ∧ (boundaryPeriod s).tb.stepThreshold = s.tb.stepThreshold
    ∧ (boundaryPeriod s).tb.holdRate = s.tb.holdRate := by
  simp only [boundaryPeriod, Timebase.takeTrim, Timebase.grow]; (repeat' split) <;> simp

/-- The fields of the Timebase that `holdBackEndPeriod` keeps. -/
@[simp] theorem holdBackEndPeriod_tb (s : State) :
    (holdBackEndPeriod s).tb.timeSet = s.tb.timeSet
    ∧ (holdBackEndPeriod s).tb.boundaryDue = s.tb.boundaryDue
    ∧ (holdBackEndPeriod s).tb.dutyHanded = s.tb.dutyHanded
    ∧ (holdBackEndPeriod s).tb.backupAcc = s.tb.backupAcc
    ∧ (holdBackEndPeriod s).tb.backupEntry = s.tb.backupEntry
    ∧ (holdBackEndPeriod s).tb.state = s.tb.state
    ∧ (holdBackEndPeriod s).tb.freq = s.tb.freq
    ∧ (holdBackEndPeriod s).tb.trim = s.tb.trim
    ∧ (holdBackEndPeriod s).tb.trimRem = s.tb.trimRem
    ∧ (holdBackEndPeriod s).tb.outlierRun = s.tb.outlierRun
    ∧ (holdBackEndPeriod s).tb.firstOutlier = s.tb.firstOutlier
    ∧ (holdBackEndPeriod s).tb.lockRun = s.tb.lockRun
    ∧ (holdBackEndPeriod s).tb.lockHeld = s.tb.lockHeld
    ∧ (holdBackEndPeriod s).tb.uncertainty = s.tb.uncertainty
    ∧ (holdBackEndPeriod s).tb.growthRem = s.tb.growthRem
    ∧ (holdBackEndPeriod s).tb.reported = s.tb.reported
    ∧ (holdBackEndPeriod s).tb.loopExp = s.tb.loopExp
    ∧ (holdBackEndPeriod s).tb.stepThreshold = s.tb.stepThreshold
    ∧ (holdBackEndPeriod s).tb.holdRate = s.tb.holdRate := by
  simp [holdBackEndPeriod]

/-- The fields of the Timebase that `watchStep` keeps. -/
@[simp] theorem watchStep_tb (s : State) :
    (watchStep s).tb.timeSet = s.tb.timeSet
    ∧ (watchStep s).tb.holdBack = s.tb.holdBack
    ∧ (watchStep s).tb.boundaryDue = s.tb.boundaryDue
    ∧ (watchStep s).tb.dutyHanded = s.tb.dutyHanded
    ∧ (watchStep s).tb.backupEntry = s.tb.backupEntry
    ∧ (watchStep s).tb.state = s.tb.state
    ∧ (watchStep s).tb.freq = s.tb.freq
    ∧ (watchStep s).tb.trim = s.tb.trim
    ∧ (watchStep s).tb.trimRem = s.tb.trimRem
    ∧ (watchStep s).tb.outlierRun = s.tb.outlierRun
    ∧ (watchStep s).tb.firstOutlier = s.tb.firstOutlier
    ∧ (watchStep s).tb.lockRun = s.tb.lockRun
    ∧ (watchStep s).tb.lockHeld = s.tb.lockHeld
    ∧ (watchStep s).tb.uncertainty = s.tb.uncertainty
    ∧ (watchStep s).tb.growthRem = s.tb.growthRem
    ∧ (watchStep s).tb.reported = s.tb.reported
    ∧ (watchStep s).tb.loopExp = s.tb.loopExp
    ∧ (watchStep s).tb.stepThreshold = s.tb.stepThreshold
    ∧ (watchStep s).tb.holdRate = s.tb.holdRate := by
  unfold watchStep; split <;> simp [Timebase.watchCycle]

/-- The fields of the Timebase that `warmTimebase` keeps. -/
@[simp] theorem warmTimebase_tb (d : Nat) (s : State) :
    (warmTimebase d s).tb.seconds = s.tb.seconds
    ∧ (warmTimebase d s).tb.frac = s.tb.frac
    ∧ (warmTimebase d s).tb.elapsed = s.tb.elapsed
    ∧ (warmTimebase d s).tb.timeSet = s.tb.timeSet
    ∧ (warmTimebase d s).tb.holdBack = s.tb.holdBack
    ∧ (warmTimebase d s).tb.boundaryDue = s.tb.boundaryDue
    ∧ (warmTimebase d s).tb.dutyHanded = s.tb.dutyHanded
    ∧ (warmTimebase d s).tb.backupAcc = s.tb.backupAcc
    ∧ (warmTimebase d s).tb.backupEntry = s.tb.backupEntry
    ∧ (warmTimebase d s).tb.freq = s.tb.freq
    ∧ (warmTimebase d s).tb.trimRem = s.tb.trimRem
    ∧ (warmTimebase d s).tb.lockHeld = s.tb.lockHeld
    ∧ (warmTimebase d s).tb.loopExp = s.tb.loopExp
    ∧ (warmTimebase d s).tb.stepThreshold = s.tb.stepThreshold
    ∧ (warmTimebase d s).tb.holdRate = s.tb.holdRate := by
  simp only [warmTimebase]; split <;> simp [Timebase.warmStarted, Timebase.letGo, Timebase.clearRuns]

/-- The fields of the Timebase that `warmStart` keeps. -/
@[simp] theorem warmStart_tb (a : BitVec 5) (f : Bool) (d : Nat) (s : State) :
    (warmStart a f d s).tb.seconds = s.tb.seconds
    ∧ (warmStart a f d s).tb.frac = s.tb.frac
    ∧ (warmStart a f d s).tb.elapsed = s.tb.elapsed
    ∧ (warmStart a f d s).tb.timeSet = s.tb.timeSet
    ∧ (warmStart a f d s).tb.holdBack = s.tb.holdBack
    ∧ (warmStart a f d s).tb.boundaryDue = s.tb.boundaryDue
    ∧ (warmStart a f d s).tb.dutyHanded = s.tb.dutyHanded
    ∧ (warmStart a f d s).tb.backupAcc = s.tb.backupAcc
    ∧ (warmStart a f d s).tb.backupEntry = s.tb.backupEntry
    ∧ (warmStart a f d s).tb.freq = s.tb.freq
    ∧ (warmStart a f d s).tb.trimRem = s.tb.trimRem
    ∧ (warmStart a f d s).tb.lockHeld = s.tb.lockHeld
    ∧ (warmStart a f d s).tb.loopExp = s.tb.loopExp
    ∧ (warmStart a f d s).tb.stepThreshold = s.tb.stepThreshold
    ∧ (warmStart a f d s).tb.holdRate = s.tb.holdRate := by
  simp [warmStart]

/-- Evaluating the selection stores the choice and changes nothing else of the Reference Input Unit (R11). -/
theorem evalSelection_riu (s : State) :
    (evalSelection s).riu = { s.riu with selection := s.riu.choice } := by
  simp only [evalSelection]; split
  · rename_i h; rw [h]
  · simp

/-- Taking a new time of day leaves that time as the last one seen (R154). -/
theorem takeTimeOfDay_seen (s : State) :
    (takeTimeOfDay s).shc.seenSeconds = s.tb.seconds % 86400 ∧ (takeTimeOfDay s).shc.seenFrac = s.tb.frac := by
  constructor <;> rfl

end Sys2Proof.Machine
end

