-- ==== Sys2Proof/Tests/Slice0.lean ====
section
/-! SUPPORT. Tests. The expected values come from the manual's tables and worked examples, or from hand calculation
by its rules. Each `witness_` theorem shows a concrete state and operands that meet the hypotheses of the statement
it is named after, clause by clause. -/

namespace Sys2Proof.Tests

-- One test at a time: tests evaluated side by side each hold a thread while they wait for the lemmas above.
set_option Elab.async false

open Sys2Proof Sys2Proof.Machine Sys2Proof.Safety

/-! ### Builders of small states -/

/-- The reset state with its Timebase changed. -/
def tbOf (f : Timebase → Timebase) : State := { State.reset with tb := f State.reset.tb }

/-- The reset state at an elapsed count. -/
def atElapsed (e : Nat) : State := tbOf fun t => { t with elapsed := e }

/-- The reset state in another supply state. -/
def inSupply (x : Supply) : State := { State.reset with spm := { State.reset.spm with supply := x } }

/-- The reset state with its shift context changed. -/
def shcOf (f : Shc → Shc) : State := { State.reset with shc := f State.reset.shc }

/-- The reset state with its store controller changed. -/
def ascOf (f : Asc → Asc) : State := { State.reset with asc := f State.reset.asc }

/-- A case of U1/I1 with number 1 in a state. -/
def caseIn (x : CaseState) : Case :=
  { number := 1, unit := .u1, input := .i1, cls := .external, state := x, test := false, firstOut := false,
    provisional := false, releaseUnobserved := false, assertStamp := State.reset.now, releaseStamp := none,
    repeats := 0, lastRetrip := none, groupId := 7, openedIn := 0, handovers := 0, ackBadge := none,
    clearBadge := none, snapMode := .stopped, snapGen := 0 }

/-- The reset state with a case in slot 0 of U1. -/
def withCase (x : CaseState) : State := State.reset.setSlot .u1 .s0 (some (caseIn x))

/-- The open group of U1 with id 7. -/
def groupSeven : OpenGroup :=
  { id := 7, earliest := State.reset.now, firstOut := 1, window := 2560000, maxFilter := 20000, closeAt := 2580000,
    members := [{ number := 1, input := .i1, edge := State.reset.now, priority := 3 }] }

/-- A state with the open group of U1. -/
def withGroup (s : State) : State := { s with tgr := { s.tgr with groups := s.tgr.groups.set .u1 (some groupSeven) } }

/-- The reset state with the record of U1/I1 changed. -/
def inputOf (f : TripInput → TripInput) : State := State.reset.setInput .u1 .i1 (f coldInput)

/-- The reset state with the record of U1 changed. -/
def unitOf (f : UnitRecord → UnitRecord) : State := State.reset.setUnit .u1 (f coldUnit)

/-- The account at reset with a persistence state. -/
def accountIn (p : Persistence) : Account := { coldAccount with status := p }

/-- A state with every account in a persistence state. -/
def accountsIn (p : Persistence) (s : State) : State :=
  { s with rha := { s.rha with accounts := PerUnit.fill (PerKind.fill (accountIn p)) } }

/-- The store controller at rest: nothing is in flight and no load runs. -/
def idleAsc (a : Asc) : Asc := { a with activity := .idle, inFlight := none, busRequest := false }

/-- A transaction on the GEN account of U1. -/
def transaction (origin : Origin) (phase : Phase) (cycleBy : Option Nat) : Transaction :=
  { item := .account .u1 .gen, origin := origin, phase := phase, grantBy := 500000, cycleBy := cycleBy,
    record := blankRecord .u1 .gen }

/-- The reset state at 500,000 cu with a transaction in flight. -/
def flying (t : Transaction) : State :=
  { atElapsed 500000 with asc := { State.reset.asc with inFlight := some t, activity := .idle } }

/-! ### Ill-formed steps are refused -/

theorem test_known_code_is_no_unknown_command : (Instr.unknownCommand 0x10#8).wellFormed = false := by decide
theorem test_unknown_code_is_well_formed : (Instr.unknownCommand 0x61#8).wellFormed = true := by decide
theorem test_short_read_back_is_ill_formed : (Instr.readBackComplete [0#8]).wellFormed = false := by decide
theorem test_short_store_read_is_ill_formed : (Instr.storeReadComplete []).wellFormed = false := by decide
theorem test_long_roster_is_ill_formed :
    (Instr.setRoster (List.replicate 125 0#16)).wellFormed = false := by decide +kernel
theorem test_roster_that_fits_is_well_formed :
    (Instr.setRoster (List.replicate 124 0#16)).wellFormed = true := by decide +kernel

/-! ### Checks and formats (R133, R185, R188) -/

/-- The check value of CRC-16 with the polynomial 0x1021 and initial value 0xFFFF over "123456789". -/
theorem test_crc16_check :
    crc16 [0x31#8, 0x32#8, 0x33#8, 0x34#8, 0x35#8, 0x36#8, 0x37#8, 0x38#8, 0x39#8] = 0x29B1#16 := by decide +kernel

/-- The check value of CRC-8 with the polynomial 0x07 and initial value 0xFF over "123456789". -/
theorem test_crc8_check :
    crc8 [0x31#8, 0x32#8, 0x33#8, 0x34#8, 0x35#8, 0x36#8, 0x37#8, 0x38#8, 0x39#8] = 0xFB#8 := by decide +kernel

theorem test_negative_number_in_four_bytes : signedBytes 4 (-2) = [0xFF#8, 0xFF#8, 0xFF#8, 0xFE#8] := by decide

/-! ### The worked values of the chapters -/

/-- The speeds of R98's table. -/
theorem test_speeds_of_the_table :
    [170, 205, 222, 690, 730, 750, 1000, 1023].map speedOf = [0, 0, 31, 889, 962, 999, 1457, 1500] := by decide

/-- R98's table: 163 is invalid, 164 is the first valid value. -/
theorem test_first_valid_sample : isValid 163 = false ∧ isValid 164 = true := by decide

/-- R108's example: 30, 40, 900 and 950 become 41, 40, 951 and 950. -/
theorem test_bands_of_the_example :
    orderBands 30 40 900 950
      = { rollingOn := 41, rollingOff := 40, atSpeedOn := 951, atSpeedOff := 950 } := by decide

/-- R61's example: counter 65,535 with cases 65,535 and 1 held gives 2, and the counter becomes 3. -/
theorem test_number_of_the_example :
    freeNumber [65535, 1] 33 65535 = 2 ∧ nextNumber 2 = 3 := by decide

/-- R6: a second of watch cycles has 5,760 long cycles, so 32 cycles from 0 have 5 of 306 and 27 of 305 cu. -/
theorem test_watch_cycles : (Timebase.watchCycle^[32] State.reset.tb).elapsed = 32 * 305 + 5 := by decide +kernel

/-- R152: a boundary at 00:10 with a lead of 15 minutes has its open point at minute 1,435. -/
theorem test_open_point_before_midnight : pointMinute State.reset.shc .opening 10 = 1435 := by decide

/-- R18: a fraction of 9,999,900 and no delay is an error of −100 cu. -/
theorem test_phase_error_wraps : phaseError 9999900 0 = -100 := by decide

/-- R58 and R61: the first trip of a part at rest opens case 1. -/
theorem test_first_trip_opens_case_one :
    (takeAssertion ({ coldInput with closed := true }.assertion .u1 .i2 State.reset.now false)
      State.reset).findCase 1 ≠ none := by decide +kernel

/-- R185: the frame of a READ_TIME reply starts with the address plus 0x80, a length of 20, the code and OK. -/
theorem test_read_time_reply :
    (match exec .readTime State.reset with
     | .next t => t.lnu.tx.take 4 ++ [BitVec.ofNat 8 t.lnu.tx.length]
     | _ => []) = [0x81#8, 20#8, 0x10#8, 0x00#8, 24#8] := by decide +kernel

/-- A step idles through one oscillator period when nothing waits and nothing is due (R1, R2). -/
theorem test_idle_step_passes_one_period :
    (match step State.reset with | .next t => (t.tb.frac, t.tb.elapsed) | _ => (0, 0)) = (1, 1) := by decide +kernel

/-- The reset state with REFA selected in ACQUIRE, QUALIFIED with a last pulse one second ago, and its Timebase
changed. -/
def following (f : Timebase → Timebase) : State :=
  { State.reset with
    tb := f { State.reset.tb with elapsed := 10000000, dutyHanded := 1, state := .acquire, uncertainty := 1000 }
    riu := { State.reset.riu with
      refA := { coldSource 1 with state := .qualified, run := 8, lastPulse := some 0 }, selection := some .refA } }

/-- R5 and R24: a pulse in the period of an insertion reads the counts after it, whichever is taken first. With no
trim the period ends at fraction 0, so the error is 0 and the boundary still counts its second. -/
theorem test_pulse_in_the_period_of_a_boundary :
    (match exec (.refPulse .refA) (following fun t => { t with frac := 9999999, boundaryDue := true }) with
     | .next t => (t.riu.refA.lastError, t.tb.boundaryDue, t.now.frac, t.now.seconds)
     | _ => (none, false, 1, 0)) = (some 0, true, 0, 1) := by decide +kernel

/-- R24: both orders of a pulse and a boundary leave the same F. With a trim of 500 ppb the period ends at fraction 5,
and an error of 5 cu takes 500 / 32 = 15 ppb from F. -/
theorem test_both_orders_leave_the_same_frequency :
    (let s := following fun t => { t with frac := 9999999, boundaryDue := true, freq := 500, trim := 500 }
     [[Instr.refPulse .refA, .localSecondBoundary], [.localSecondBoundary, .refPulse .refA]].map fun l =>
      (l.foldl (fun s i => match exec i s with | .next t => t | _ => s) s).tb.freq) = [485, 485] := by decide +kernel

/-- R25: an error of 20,000 cu stepped out of a fraction of 20,000 cu leaves a fraction of 0. -/
theorem test_third_outlier_steps_the_time :
    (match exec (.refPulse .refA)
      (following fun t => { t with frac := 20000, outlierRun := 2, firstOutlier := some 20000 }) with
     | .next t => (t.tb.frac, t.lnu.flags.step)
     | _ => (1, false)) = (0, true) := by decide +kernel

/-- R96: the scan begins at channel 1 and goes on to channel 2. -/
theorem test_scan_takes_its_channels_in_order :
    (match exec (.sampleEvent (.speed .u1) 205#10) State.reset with
     | .next t => channelNumber t.usm.scan
     | _ => 0) = 2 := by decide +kernel

/-! ### Witnesses: the whole machine -/

theorem witness_StepRunsTheFrontCommand :
    ({ State.reset with pending := [.readTime, .commit] } : State).pending = .readTime :: [.commit] := rfl

/-- Nothing is due in a state of reset but for a Timebase with no boundary waiting and counts below 10,000,000. -/
theorem reset_not_due (f : Timebase → Timebase) (i : Instr)
    (hb : (tbOf f).tb.boundaryDue = false) (he : (tbOf f).tb.elapsed = 0) (hd : (tbOf f).tb.dutyHanded = 0) :
    ¬ Due (tbOf f) i := by
  have he' : (tbOf f).elapsed = 0 := by simp [State.elapsed, Timebase.present, hb, he]
  cases i with
  | localSecondBoundary => exact fun h => by rw [Due, hb] at h; cases h
  | dutySecondBoundary => exact fun h => by rw [Due, he, hd] at h; exact absurd h (by decide)
  | commitPeriodExpiry => exact fun h => by rw [Due, he'] at h; exact absurd (show 9600000000 ≤ 0 from h) (by decide)
  | sourceLoss x => cases x <;> exact fun h => h.1 rfl
  | assertionConfirmation u k => cases u <;> cases k <;> (rintro ⟨_, _, h, -⟩; cases h)
  | releaseConfirmation u k => cases u <;> cases k <;> (rintro ⟨_, h, -⟩; cases h)
  | groupExpiry u => cases u <;> (rintro ⟨_, h, -⟩; cases h)
  | unitContactConfirmation u k => cases u <;> cases k <;> (rintro ⟨_, h, -⟩; cases h)
  | grantTimeout => rintro ⟨_, h, -, h'⟩; cases h; rw [he'] at h'; exact absurd (show 500000 ≤ 0 from h') (by decide)
  | notReadyTimeout => rintro ⟨_, _, h, h', -⟩; cases h; cases h'
  | presenceExpiry => rintro ⟨_, h, -⟩; cases h
  | pfiConfirmation => rintro ⟨_, h, -⟩; cases h
  | restoreExpiry => rintro ⟨_, h, -⟩; cases h
  | _ => exact id

theorem witness_TimePassesWhenNothingWaits :
    State.reset.pending = [] ∧ State.reset.powered = true
      ∧ (∀ i, ¬ Due (tbOf fun t => { t with frac := 9999998 }) i)
      ∧ (∀ i, ¬ Due (tbOf fun t => { t with frac := 9999999 }) i)
      ∧ (∀ i, ¬ Due (tbOf fun t => { t with frac := 9999999, holdBack := some 1 }) i)
      ∧ (∀ i, ¬ Due (tbOf fun t => { t with frac := 9999999, holdBack := some 0 }) i)
      ∧ (∀ i, ¬ Due (tbOf fun t => { t with frac := 5, holdBack := some 0 }) i)
      ∧ Due (tbOf fun t => { t with frac := 9999999, boundaryDue := true }) .localSecondBoundary
      ∧ (inSupply .backup).spm.supply = .backup ∧ (inSupply .backup).spm.retained = true
      ∧ (inSupply .backup).pending = [] ∧ 32768 ≤ 27008 + 5760
      ∧ State.reset.tb.backupAcc = 0 ∧ State.reset.tb.elapsed + 306 * 32768 ≤ 2 ^ 62 :=
  ⟨rfl, rfl, fun i => reset_not_due _ i rfl rfl rfl, fun i => reset_not_due _ i rfl rfl rfl,
    fun i => reset_not_due _ i rfl rfl rfl, fun i => reset_not_due _ i rfl rfl rfl,
    fun i => reset_not_due _ i rfl rfl rfl, rfl, by decide⟩

theorem witness_EachSettingHasOneWriter :
    (∃ t, exec .commit State.reset = .next t) ∧ Instr.commit ≠ .frameEnd
      ∧ (∀ a f, Instr.commit ≠ .mainSupplyReturn a f) ∧ (∀ a f, Instr.commit ≠ .resetPin a f) :=
  ⟨⟨_, rfl⟩, by decide, (by intro _ _ h; cases h), (by intro _ _ h; cases h)⟩

theorem witness_HoldupTurnsAwayChanges :
    requestBytes .commit = some (0x50, []) ∧ refusedInHoldup .commit = true
      ∧ (inSupply .holdup).listening = true ∧ (inSupply .holdup).spm.supply = .holdup := by decide

theorem witness_BackupChangesOnlyTimeAndPins :
    (inSupply .backup).spm.supply = .backup ∧ (∀ a f, Instr.watchOscillatorCycle ≠ .mainSupplyReturn a f)
      ∧ ∃ t, exec .watchOscillatorCycle (inSupply .backup) = .next t :=
  ⟨rfl, (by intro _ _ h; cases h), _, rfl⟩

theorem witness_StepKeepsTimeInRange :
    TimeInRange (following fun t => { t with
        frac := 9999999, trim := -20000, freq := 20000, trimRem := -99, outlierRun := 2
        firstOutlier := some (-5000000), lockRun := 8, growthRem := 99, backupAcc := 32767 })
      ∧ (∃ t, step State.reset = .next t)
      ∧ (∀ s ∈ [tbOf fun t => { t with frac := 9999999, holdBack := some 199 },
            tbOf fun t => { t with frac := 9999999, boundaryDue := true }], HoldBackSound s ∧ BoundarySound s)
      ∧ (atElapsed (2 ^ 62)).tb.elapsed ≤ 2 ^ 62 := ⟨by decide, ⟨_, rfl⟩, by decide, by decide⟩

/-- A boundary is due with applied at −1 and a SET_TIME waits before it: the hold-back begins at the fraction set
(notes/assumptions/31.md). -/
def setBeforeBoundary : State :=
  { tbOf fun t => { t with frac := 9999999, boundaryDue := true, trim := -100 } with
    pending := [.setTime false 5#32 7#32 0#32, .localSecondBoundary] }

theorem test_boundary_after_set_time_holds_back_at_its_fraction :
    HoldBackSound setBeforeBoundary ∧ BoundarySound setBeforeBoundary
      ∧ (match step setBeforeBoundary with
         | .next t => match step t with | .next r => (r.tb.holdBack, r.tb.frac) | _ => (none, 0)
         | _ => (none, 0)) = (some 0, 7) := by decide +kernel

/-- A part whose time was set, at the top of class B, with a local second boundary waiting. -/
def worsening : State :=
  { tbOf fun t => { t with
      frac := 9999999, boundaryDue := true, timeSet := true, uncertainty := 1000, growthRem := 50, reported := .b } with
    pending := [.localSecondBoundary] }

theorem witness_StepKeepsTheClassReported :
    ClassReported worsening ∧ worsening.lnu.flags.qualityDrop = false
      ∧ (match step worsening with
         | .next t => (t.tb.reported, t.lnu.flags.qualityDrop)
         | _ => (.u, false)) = (.c, true) := by decide +kernel
theorem witness_StepKeepsUnitsShiftAndSupplySound :
    UnitsInRange (unitOf fun r => { r with calMagnitude := 7, lossRun := 2 })
      ∧ ShiftSound (shcOf fun h => { h with
          state := .offered, duty := some 9, window := some 5, offer := some { badge := 9, stamp := State.reset.now }
          presenceBy := some 1 })
      ∧ SupplySound { inSupply .holdup with
          spm := { State.reset.spm with supply := .holdup, restoreBy := some 5 }
          usm := { State.reset.usm with supplyReading := some 950 } } := by decide +kernel

/-- A full queue of QUEUED accounts with the other accounts CLEAN, and the last of them being read by a load. -/
def fullQueue : State :=
  let queued := (walkOrder.take 16).foldl (fun s y => s.setStatus y.1 y.2 .queued)
    (accountsIn .clean (ascOf fun a => { a with
      queue := walkOrder.take 16
      inFlight := some { transaction .read .transfer none with item := .account .u8 .trips } }))
  queued.setStatus .u8 .trips (.loading 0)

theorem mem_walkOrder (u : UnitId) (k : Kind) : (u, k) ∈ walkOrder := by cases u <;> cases k <;> decide

theorem witness_StepKeepsQueueSound : QueueSound fullQueue := by
  have h : fullQueue.asc.queue.length ≤ 16 ∧ fullQueue.asc.queue.Nodup
      ∧ (∀ y ∈ walkOrder, (fullQueue.account y.1 y.2).status = .queued ↔ y ∈ fullQueue.asc.queue)
      ∧ ∀ x ∈ fullQueue.asc.inFlight, ∀ y ∈ walkOrder, x.item = .account y.1 y.2 → x.origin = .read ∨ x.origin = .init →
        isOutstanding (fullQueue.account y.1 y.2).status = true := by decide +kernel
  exact ⟨h.1, h.2.1, fun u k => h.2.2.1 (u, k) (mem_walkOrder u k),
    fun x u k hx => h.2.2.2 x hx (u, k) (mem_walkOrder u k)⟩

/-- The third shift, with a CLEARED and a live case of U1/I1 and the OPEN group 7. -/
def twoCases : State :=
  let s := withGroup ((shcOf fun h => { h with number := 3 }).setSlot .u1 .s0
    (some { caseIn .cleared with handovers := 3 }))
  s.setSlot .u1 .s1 (some { caseIn .latched with number := 65535, openedIn := 1, handovers := 2 })

theorem mem_slotOrder (u : UnitId) (j : SlotId) : (u, j) ∈ slotOrder := by cases u <;> cases j <;> decide
theorem mem_allUnits (u : UnitId) : u ∈ allUnits := by cases u <;> decide
theorem mem_allSlots (j : SlotId) : j ∈ allSlots := by cases j <;> decide

theorem witness_StepKeepsCasesSound : CasesSound twoCases := by
  have h : ((twoCases.cases.map (·.number)).Nodup
        ∧ 1 ≤ twoCases.ct.counter ∧ twoCases.ct.counter ≤ 65535 ∧ 1 ≤ twoCases.tgr.counter
        ∧ twoCases.tgr.counter ≤ 65535)
      ∧ (∀ y ∈ slotOrder, ∀ c ∈ twoCases.slot y.1 y.2,
          c.unit = y.1 ∧ 1 ≤ c.number ∧ c.number ≤ 65535 ∧ c.openedIn ≤ twoCases.shc.number
            ∧ c.handovers = min 255 (twoCases.shc.number - c.openedIn))
      ∧ (∀ u ∈ allUnits, ∀ j ∈ allSlots, ∀ k ∈ allSlots, ∀ c ∈ twoCases.slot u j, ∀ d ∈ twoCases.slot u k,
          c.input = d.input → c.state ≠ .cleared → d.state ≠ .cleared → j = k)
      ∧ (∀ u ∈ allUnits, ∀ g ∈ twoCases.tgr.groups.get u, 1 ≤ g.id ∧ g.id ≤ 65535)
      ∧ ∀ u ∈ allUnits, ∀ v ∈ allUnits, ∀ g ∈ twoCases.tgr.groups.get u, ∀ x ∈ twoCases.tgr.groups.get v,
          g.id = x.id → u = v := by decide +kernel
  exact ⟨h.1.1, h.1.2, fun u j c hc => h.2.1 (u, j) (mem_slotOrder u j) c hc,
    fun u j k c d hc hd => h.2.2.1 u (mem_allUnits u) j (mem_allSlots j) k (mem_allSlots k) c hc d hd,
    fun u g hg => h.2.2.2.1 u (mem_allUnits u) g hg,
    fun u v g x hg hx => h.2.2.2.2 u (mem_allUnits u) v (mem_allUnits v) g hg x hx⟩

theorem witness_StepKeepsOutputsAndLines :
    (withCase .cleared).powered = true ∧ OutputsFollow (withCase .cleared)
      ∧ (enterBackup State.reset).powered = false ∧ BackupQuiet (enterBackup State.reset)
      ∧ LinesFollow (enterBackup State.reset) := by decide +kernel
/-! ### Witnesses: encodings -/

theorem witness_FrameEndRunsItsCommand :
    let i := Instr.setRoster (List.replicate 124 1439#16)
    let body := toBytes 1 124 ++ (List.replicate 124 1439#16).flatMap fun m => toBytes 2 m.toNat
    let s := { State.reset with lnu := { State.reset.lnu with
      address := 31, rx := .frame (requestFrame 31 0x60 body) false false } }
    i.wellFormed = true ∧ requestBytes i = some (0x60, body) ∧ (∀ x f n, i ≠ .setTime true x f n)
      ∧ s.listening = true ∧ s.lnu.address ≤ 31 ∧ s.lnu.rx = .frame (requestFrame s.lnu.address 0x60 body) false false :=
  ⟨by decide +kernel, by decide +kernel, by (intro _ _ _ h; cases h), by decide +kernel, by decide +kernel, rfl⟩

/-- The reset state with a good frame of a command code and body received, to an address. -/
def framed (address code : Nat) (body : List Byte) : State :=
  setRx (.frame (requestFrame address code body) false false) State.reset

theorem witness_FrameEndRunsItsCommand_others :
    (let body := toBytes 4 (5#32).toNat ++ toBytes 4 (9999999#32).toNat ++ toBytes 4 (60000#32).toNat
     (framed 0 0x11 body).powered = true ∧ (framed 0 0x11 body).lnu.answering = false ∧ body.length = 12)
      ∧ (framed 0 0x11 []).lnu.rx = .frame (requestFrame 0 0x11 []) false false
      ∧ (framed State.reset.lnu.address 0x10 [0#8]).listening = true ∧ State.reset.spm.supply = .run
      ∧ State.reset.lnu.address ≤ 31 ∧ bodyLength 0x10 = some 0
      ∧ ([2#8, 0#8, 5#8] : List Byte).length ≠ 1 + 2 * field [2#8, 0#8, 5#8] 0 1
      ∧ 0x61 ∉ knownCodes ∧ (0x42#8 : Byte).toNat ∉ [0x54, 0x43, 0x41, 0x53] := by decide +kernel

theorem witness_StoreRecordReadsBack :
    let a := { coldAccount with lifetime := 4294967295, interval := 4294967295, preset := some 4294967294 }
    a.lifetime ≤ 4294967295 ∧ a.interval ≤ 4294967295 ∧ (∀ x ∈ a.preset, x < 4294967295) := by decide

/-! ### Witnesses: reads -/

/-- A summary of shift 1. -/
def oldShift : ShiftSummary :=
  { number := 1, team := none, duty := none, start := none, stop := State.reset.now,
    tallies := State.reset.rha.tallies, lapses := 0, overdue := false, byAccept := false }

theorem witness_ReadsAnswerAndChangeNoRecord :
    State.reset.listening = true ∧ State.reset.shc.previous = none
      ∧ (shcOf fun h => { h with previous := some oldShift }).listening = true
      ∧ (shcOf fun h => { h with previous := some oldShift }).shc.previous = some oldShift
      ∧ 2 < (3#8 : Byte).toNat
      ∧ (withCase .active).listening = true ∧ (8#8 : Byte).toNat = unitNumber .u8 ∧ 8 < (9#8 : Byte).toNat
      ∧ (0#8 : Byte).toNat = 0 ∧ (1#16).toNat ≠ 0
      ∧ (withCase .active).findCase (1#16).toNat = some (.u1, .s0, caseIn .active)
      ∧ (withCase .active).findCase (2#16).toNat = none := by decide +kernel

theorem witness_KeysOutOfRangeAreRefused :
    Taken State.reset ∧ 9999999 < (10000000#32).toNat ∧ (0#8 : Byte).toNat = 0 ∧ 2 < (3#8 : Byte).toNat
      ∧ 8 < (9#8 : Byte).toNat ∧ 4 < (5#8 : Byte).toNat ∧ 1 < (2#8 : Byte).toNat ∧ 3 < (4#8 : Byte).toNat
      ∧ 15 < (16#8 : Byte).toNat ∧ (0#16).toNat = 0 ∧ (1#16).toNat ≠ 0 ∧ State.reset.findCase (1#16).toNat = none
      ∧ Taken (shcOf fun h => { h with number := 4294967295 })
      ∧ 4294967295 ≤ (shcOf fun h => { h with number := 4294967295 }).shc.number := by decide +kernel

/-! ### Witnesses: time -/

/-- The reset state with REFA selected. -/
def followingA : State := { State.reset with riu := { State.reset.riu with selection := some .refA } }

theorem witness_SetTimeSetsTheTime :
    (9999999#32).toNat ≤ 9999999 ∧ State.reset.spm.supply = .run ∧ State.reset.listening = true
      ∧ State.reset.riu.selection = none ∧ State.reset.lnu.answering = false
      ∧ followingA.spm.supply = .run ∧ followingA.listening = true ∧ followingA.riu.selection ≠ none
      ∧ followingA.lnu.answering = false := by decide

theorem witness_SetReferenceWritesTheSettings :
    Taken State.reset ∧ SelectionAgrees State.reset ∧ (1#8 : Byte).toNat ≤ 1
      ∧ (State.reset.riu.source .refA).enable ≠ ((0#8 : Byte) == 1#8)
      ∧ (State.reset.riu.source .refA).enable = ((1#8 : Byte) == 1#8)
      ∧ (State.reset.riu.source .refA).priority + (State.reset.riu.source (otherSource .refA)).priority = 3
      ∧ (State.reset.riu.source .refA).priority = 1
      ∧ Taken (following id) ∧ SelectionAgrees (following id)
      ∧ (0#8 : Byte).toNat = 0 ∧ 2 < (3#8 : Byte).toNat ∧ 1 < (2#8 : Byte).toNat := by decide

theorem witness_ClampedSettingsAreStoredAndEchoed : Taken State.reset := by decide

theorem witness_GroupTResetRestartsTheLoop : Taken followingA := by decide

/-- The reset state at an elapsed count with a last accepted pulse of REFA at 0 and a run. -/
def pulsed (e run : Nat) : State :=
  { atElapsed e with riu := { State.reset.riu with
    refA := { State.reset.riu.refA with state := .candidate, run := run, lastPulse := some 0 } } }

theorem witness_PulsesAreAcceptedOrExtra :
    (pulsed 4999999 1).powered = true ∧ ((pulsed 4999999 1).riu.source .refA).enable = true
      ∧ SelectionAgrees (pulsed 4999999 1)
      ∧ ((pulsed 4999999 1).riu.source .refA).lastPulse = some 0 ∧ (pulsed 4999999 1).elapsed < 0 + 5000000
      ∧ ((pulsed 5000000 1).riu.source .refA).lastPulse = some 0 ∧ 0 + 5000000 ≤ (pulsed 5000000 1).elapsed
      ∧ (pulsed 9997999 1).elapsed < 0 + 9998000
      ∧ 0 + 9998000 ≤ (pulsed 9998000 6).elapsed ∧ ((pulsed 9998000 6).riu.source .refA).run < 7
      ∧ (pulsed 10002000 7).elapsed ≤ 0 + 10002000 ∧ 7 ≤ ((pulsed 10002000 7).riu.source .refA).run := by decide

theorem witness_SelectedPulseDisciplinesTheTime :
    (∀ s ∈ [pulsed 9998000 7, following fun t => { t with frac := 20000 },
        following fun t => { t with frac := 20000, outlierRun := 1, firstOutlier := some 19900 },
        following fun t => { t with frac := 20000, outlierRun := 2, firstOutlier := some 20100 },
        following fun t => { t with frac := 20000, boundaryDue := true, outlierRun := 2, firstOutlier := some 20100 },
        following fun t => { t with frac := 100, lockRun := 7 }],
      s.powered = true ∧ (s.riu.source .refA).enable = true ∧ (s.riu.source .refA).lastPulse = some 0
        ∧ 0 + 9998000 ≤ s.elapsed ∧ s.elapsed ≤ 0 + 10002000 ∧ 7 ≤ (s.riu.source .refA).run ∧ SelectionAgrees s
        ∧ (s.riu.source (otherSource .refA)).state ≠ .qualified)
      ∧ State.reset.tb.stepThreshold < (phaseError 20000 0).natAbs
      ∧ (phaseError 20000 0 - 19900).natAbs ≤ 100 ∧ (phaseError 20000 0 - 20100).natAbs ≤ 100
      ∧ (phaseError 100 0).natAbs ≤ 100 := by decide +kernel

theorem witness_SelectionIsEvaluated :
    State.reset.riu.refA.priority ≠ State.reset.riu.refB.priority ∧ (9999999 : Nat) ≤ 9999999 ∧ 65535 ≤ 65535
      ∧ (following id).riu.choice = some .refA ∧ State.reset.riu.choice = none
      ∧ (pulsed 15000000 8).powered = true ∧ SelectionAgrees (pulsed 15000000 8)
      ∧ ((pulsed 15000000 8).riu.source .refA).state ≠ .absent
      ∧ ((pulsed 15000000 8).riu.source .refA).lastPulse = some 0
      ∧ 0 + 15000000 ≤ (pulsed 15000000 8).elapsed := by decide

/-- The reset state one period before a boundary, with a trim. -/
def boundaryWith (trim : Int) : State := tbOf fun t => { t with frac := 9999999, trim := trim }

theorem witness_SecondBoundaryAppliesTheTrim :
    (boundaryWith 99).powered = true ∧ (boundaryWith 99).tb.frac = 9999999 ∧ (boundaryWith 99).tb.holdBack = none
      ∧ (tbOf fun t => { t with frac := 9999999, boundaryDue := true }).tb.boundaryDue = true
      ∧ 0 ≤ ((boundaryWith (-99)).tb.trimRem + (boundaryWith (-99)).tb.trim).tdiv 100
      ∧ ((boundaryWith (-100)).tb.trimRem + (boundaryWith (-100)).tb.trim).tdiv 100 < 0
      ∧ (tbOf fun t => { t with frac := 9999999, holdBack := some 0 }).powered = true
      ∧ (tbOf fun t => { t with frac := 9999999, holdBack := some 0 }).tb.holdBack = some 0
      ∧ (tbOf fun t => { t with frac := 0, holdBack := some 0 }).tb.frac ≤ 9999999 := by decide

/-! ### Witnesses: trip inputs and cases -/

/-- A stamp at the elapsed count 0. -/
def stamp0 : Stamp := State.reset.now

theorem witness_EdgesAreStampedOrChatter :
    State.reset.powered = true
      ∧ (State.reset.input .u1 .i1).closed = false ∧ (State.reset.input .u1 .i1).filter = .idle
      ∧ (State.reset.input .u1 .i1).config.enable = true
      ∧ ((inputOf fun t => { t with closed := true, filter := .asserted }).input .u1 .i1).filter = .asserted
      ∧ ((inputOf fun t => { t with closed := true, filter := .asserted }).input .u1 .i1).closed = true
      ∧ ((inputOf fun t => { t with closed := true, filter := .pendingAssert stamp0 true }).input .u1 .i1).filter
          = .pendingAssert stamp0 true
      ∧ ((inputOf fun t => { t with closed := false, filter := .pendingRelease stamp0 }).input .u1 .i1).filter
          = .pendingRelease stamp0
      ∧ (inputOf fun t => { t with config := { defaultSettings with enable := false } }).powered = true
      ∧ ((inputOf fun t => { t with config := { defaultSettings with enable := false } }).input .u1 .i1).config.enable
          = false
      ∧ ((inputOf fun t => { t with closed := true, inForce := { defaultSettings with enable := false } }).input
          .u1 .i1).inForce.enable = false := by decide +kernel

/-- A state at the filter time with a filter state of U1/I1. -/
def filtering (s : State) (x : FilterState) : State :=
  { s with tb := { s.tb with elapsed := 20000 } }.setInput .u1 .i1 { coldInput with filter := x }

theorem witness_ConfirmedAssertionOpensACase :
    let s := filtering State.reset (.pendingAssert stamp0 false)
    s.powered = true ∧ (s.input .u1 .i1).filter = .pendingAssert stamp0 false
      ∧ stamp0.elapsed + 5000 * 2 ^ (s.input .u1 .i1).inForce.exponent = s.elapsed
      ∧ s.inputCase .u1 .i1 = none ∧ (s.caseSet .u1).allocate = some .s0 := by decide +kernel

/-- A case set with the same case state in its four slots. -/
def fullSet (x : CaseState) : CaseSet := { emptySet with slots := PerSlot.fill (some { caseIn x with input := .i4 }) }

/-- The reset state with U1's case set full of cases of its input 4. -/
def crowded (x : CaseState) : State := State.reset.setCaseSet .u1 (fullSet x)

theorem witness_AssertionsFindTheirSlot :
    (emptySet.slots.get .s0 = none ∧ ∀ k ∈ [SlotId.s0, .s1, .s2, .s3],
        (fullSet .cleared).slots.get k ≠ none ∧ (fullSet .active).slots.get k ≠ none)
      ∧ (List.range' 1 32).length ≤ 32 ∧ 1 ≤ 65535 ∧ freeNumber (List.range' 1 32) 33 1 = 33
      ∧ (let s := filtering (withCase .latched) (.pendingAssert stamp0 false)
         s.powered = true ∧ (s.input .u1 .i1).filter = .pendingAssert stamp0 false
          ∧ stamp0.elapsed + 5000 * 2 ^ (s.input .u1 .i1).inForce.exponent = s.elapsed
          ∧ s.inputCase .u1 .i1 = some (.s0, caseIn .latched) ∧ (caseIn .latched).test = false)
      ∧ (let s := filtering (crowded .active) (.pendingAssert stamp0 false)
         s.inputCase .u1 .i1 = none ∧ (s.caseSet .u1).allocate = none)
      ∧ (filtering (withCase .latched) (.pendingAssert stamp0 true)).inputCase .u1 .i1
          = some (.s0, caseIn .latched) := by decide +kernel

/-- A confirmed edge of U1/I1 at 0, with the group of U1 changed. -/
def tripping (f : OpenGroup → OpenGroup) : State :=
  let s := filtering State.reset (.pendingAssert stamp0 false)
  { s with tgr := { s.tgr with groups := s.tgr.groups.set .u1 (some (f groupSeven)) } }

theorem witness_TripsArePlacedInGroups :
    (∀ s ∈ [filtering State.reset (.pendingAssert stamp0 false), tripping id,
          tripping fun g => { g with earliest := { stamp0 with elapsed := 20000 } },
          tripping fun g => { g with closeAt := 20000 }],
        s.powered = true ∧ (s.input .u1 .i1).filter = .pendingAssert stamp0 false
          ∧ stamp0.elapsed + 5000 * 2 ^ (s.input .u1 .i1).inForce.exponent ≤ s.elapsed
          ∧ (s.cases.map (·.number)).Nodup ∧ 1 ≤ s.ct.counter ∧ s.ct.counter ≤ 65535
          ∧ 1 ≤ s.tgr.counter ∧ s.tgr.counter ≤ 65535
          ∧ s.inputCase .u1 .i1 = none ∧ (s.caseSet .u1).allocate ≠ none)
      ∧ (tripping id).tgr.groups.get .u1 = some groupSeven ∧ groupSeven.id ≠ 0
      ∧ stamp0.elapsed ≤ groupSeven.earliest.elapsed + groupSeven.window ∧ 0 ≠ groupSeven.id
      ∧ (let s := withGroup (filtering (withCase .latched) (.pendingAssert stamp0 false))
         (s.cases.map (·.number)).Nodup ∧ s.inputCase .u1 .i1 = some (.s0, caseIn .latched)
          ∧ (caseIn .latched).groupId = groupSeven.id ∧ s.elapsed < groupSeven.closeAt)
      ∧ (let late : Stamp := { stamp0 with elapsed := 2560001 }
         let s := { withGroup State.reset with tb := { State.reset.tb with elapsed := 2580001 } }.setInput .u1 .i1
           { coldInput with filter := .pendingAssert late false }
         late.elapsed + 5000 * 2 ^ (s.input .u1 .i1).inForce.exponent ≤ s.elapsed
          ∧ groupSeven.earliest.elapsed + groupSeven.window < late.elapsed)
      ∧ (∀ p ∈ [.clean, .dirty, .writing .seconds, .queued], ∀ n ∈ [0, 16],
          let s := accountsIn p { filtering State.reset (.pendingAssert stamp0 false) with
            asc := { State.reset.asc with queue := (walkOrder.filter fun y => y.2 != .trips).take n } }
          (s.input .u1 .i1).filter = .pendingAssert stamp0 false ∧ (s.account .u1 .trips).status = p
            ∧ (s.account .u1 .trips).retired = false ∧ ¬ AtLimits (s.account .u1 .trips) ∧ NoRecordChosen s
            ∧ (UnitId.u1, Kind.trips) ∉ s.asc.queue ∧ s.asc.queue.length = n) := by decide +kernel

theorem witness_ConfirmedReleaseLatchesTheCase :
    let s := filtering (withCase .active) (.pendingRelease stamp0)
    s.powered = true ∧ (s.input .u1 .i1).filter = .pendingRelease stamp0
      ∧ stamp0.elapsed + 5000 * 2 ^ (s.input .u1 .i1).inForce.exponent = s.elapsed
      ∧ s.inputCase .u1 .i1 = some (.s0, caseIn .active)
      ∧ (filtering (withCase .activeAck) (.pendingRelease stamp0)).inputCase .u1 .i1 = some (.s0, caseIn .activeAck)
      ∧ (filtering (withCase .latched) (.pendingRelease stamp0)).inputCase .u1 .i1 = some (.s0, caseIn .latched)
      ∧ (filtering State.reset (.pendingRelease stamp0)).inputCase .u1 .i1 = none := by decide +kernel

theorem witness_InputCommandsConfigureAndRead :
    Taken State.reset ∧ (8#8 : Byte).toNat = unitNumber .u8 ∧ (4#8 : Byte).toNat = inputNumber .i4
      ∧ classOf? (3#8 : Byte).toNat = some .external ∧ 2 ≤ (2#8 : Byte).toNat := by decide

theorem witness_SetTestModeSetsTheUnit :
    State.reset.listening = true ∧ State.reset.spm.supply = .run ∧ (8#8 : Byte).toNat = unitNumber .u8
      ∧ (1#8 : Byte).toNat ≤ 1 ∧ 8 < (9#8 : Byte).toNat ∧ 1 < (2#8 : Byte).toNat
      ∧ (inSupply .holdup).listening = true := by decide

theorem witness_CasesAreAckedClearedAndRetired :
    Taken State.reset ∧ (1#16).toNat ≠ 0 ∧ State.reset.findCase 1 = none
      ∧ (∀ x ∈ [CaseState.active, .latched, .activeAck, .acknowledged, .cleared],
        Taken (withCase x) ∧ (withCase x).findCase 1 = some (.u1, .s0, caseIn x))
      ∧ (withCase .acknowledged).tgr.groups.get .u1 = none
      ∧ Taken (withGroup (withCase .acknowledged))
      ∧ (withGroup (withCase .acknowledged)).findCase 1 = some (.u1, .s0, caseIn .acknowledged)
      ∧ (withGroup (withCase .acknowledged)).tgr.groups.get .u1 = some groupSeven
      ∧ (caseIn .acknowledged).groupId = groupSeven.id := by decide +kernel

theorem witness_OverflowAndTableAreEmptied :
    Taken (withCase .active) ∧ (1#8 : Byte).toNat = unitNumber .u1
      ∧ (withCase .active).ct.overflow.get .u1
          = { count := 0, first := none, last := none, seen := ⟨false, false, false, false⟩ }
      ∧ ({ emptyOverflow with count := 1 } : Overflow)
          ≠ { count := 0, first := none, last := none, seen := ⟨false, false, false, false⟩ } := by
  decide +kernel

theorem witness_GroupExpiryClosesTheGroup :
    let s := withGroup { withCase .active with tb := { State.reset.tb with elapsed := 2580000 } }
    s.powered = true ∧ s.tgr.groups.get .u1 = some groupSeven ∧ groupSeven.closeAt = s.elapsed
      ∧ s.slot .u1 .s0 = some (caseIn .active) := by decide +kernel

/-! ### Witnesses: units -/

theorem witness_SampleFormsTheSpeed :
    State.reset.powered = true ∧ State.reset.usm.scan = .speed .u1 ∧ State.reset.usm.scan ≠ .supply
      ∧ (State.reset.unit .u1).corrected 163 < 164
      ∧ 164 ≤ (State.reset.unit .u1).corrected 164 ∧ (State.reset.unit .u1).lost = false
      ∧ (State.reset.unit .u1).lossRun < 2
      ∧ 2 ≤ ((unitOf fun r => { r with lossRun := 2 }).unit .u1).lossRun
      ∧ ((unitOf fun r => { r with lost := true }).unit .u1).lost = true := by decide +kernel

/-- U1 rolling and armed, with its accounts loaded. -/
def runningUp : State := accountsIn .clean (unitOf fun r => { r with speed := .rolling, armed := true })

theorem witness_SpeedStatesFollowTheSamples :
    runningUp.powered = true ∧ runningUp.usm.scan = .speed .u1 ∧ 164 ≤ (runningUp.unit .u1).corrected 730
      ∧ (runningUp.unit .u1).lost = false ∧ (runningUp.unit .u1).armed = true
      ∧ (runningUp.unit .u1).speed ≠ .atSpeed
      ∧ (runningUp.unit .u1).bands.atSpeedOn ≤ speedOf ((runningUp.unit .u1).corrected 730)
      ∧ isOutstanding (runningUp.account .u1 .starts).status = false
      ∧ (runningUp.account .u1 .starts).retired = false
      ∧ (∀ p ∈ [.clean, .writing .none, .queued], ∀ n ∈ [0, 16],
          let s := { accountsIn p runningUp with asc := { State.reset.asc with
            activity := .idle, queue := (walkOrder.filter fun y => y.2 != .starts).take n } }
          (s.account .u1 .starts).status = p ∧ NoRecordChosen s ∧ (UnitId.u1, Kind.starts) ∉ s.asc.queue
            ∧ ¬ AtLimits (s.account .u1 .starts) ∧ s.asc.queue.length = n)
      ∧ (let s := { runningUp with asc := idleAsc State.reset.asc }
         ¬ NoRecordChosen s ∧ (s.account .u1 .starts).status = .clean ∧ s.asc.queue = [])
      ∧ AtLimits { accountIn .clean with lifetime := 4294967295, interval := 4294967295, saturated := true }
      ∧ NoRecordChosen runningUp
      ∧ ((accountsIn (.loading 65535) runningUp).account .u1 .starts).status = .loading 65535
      ∧ speedOf 300 < (runningUp.unit .u1).bands.atSpeedOn ∧ (runningUp.unit .u1).bands.rollingOff ≤ speedOf 300
      ∧ (∀ n ∈ [0, 2], (unitOf fun r => { r with lost := true, lossRun := n }).powered = true
          ∧ ((unitOf fun r => { r with lost := true, lossRun := n }).unit .u1).lost = true
          ∧ ((unitOf fun r => { r with lost := true, lossRun := n }).unit .u1).lossRun = n) := by
  decide +kernel

/-- U1's breaker contact closed at 0, at the filter time. -/
def closing : State :=
  (atElapsed 80000).setUnit .u1 { coldUnit with breaker := { level := true, stable := false, pending := some 0 } }

theorem witness_UnitContactsAreFiltered :
    State.reset.powered = true ∧ true ≠ ((State.reset.unit .u1).contact .breaker).level
      ∧ ((State.reset.unit .u1).contact .breaker).pending = none
      ∧ closing.powered = true ∧ ((closing.unit .u1).contact .breaker).pending = some 0
      ∧ false ≠ ((closing.unit .u1).contact .breaker).level ∧ false = ((closing.unit .u1).contact .breaker).stable
      ∧ 0 + 80000 ≤ closing.tb.elapsed := by decide +kernel

theorem witness_SetSpeedBandsOrdersThem :
    Taken State.reset ∧ 8 < (9#8 : Byte).toNat ∧ (8#8 : Byte).toNat ≤ 8 := by decide

theorem witness_SetSpeedCalWritesTheOffset :
    State.reset.listening = true ∧ State.reset.spm.supply = .run ∧ (8#8 : Byte).toNat = unitNumber .u8
      ∧ (1#8 : Byte).toNat ≤ 1 ∧ 8 < (9#8 : Byte).toNat ∧ 1 < (2#8 : Byte).toNat
      ∧ (inSupply .holdup).listening = true ∧ (State.reset.unit .u1).calMagnitude = 0 := by decide +kernel

/-- A tally second of a unit whose GEN account and tally stand at their limits sets SATURATED and makes the account
DIRTY; the next one changes nothing (R114). -/
theorem test_saturated_increment :
    let a := { accountIn .clean with lifetime := 4294967295, interval := 4294967295 }
    let s := State.reset.setAccount .u1 .gen a
    let t := increment .u1 .gen s
    t.account .u1 .gen = { a with saturated := true, status := .dirty }
      ∧ (increment .u1 .gen (t.setStatus .u1 .gen .clean)).account .u1 .gen = { a with saturated := true } := by
  decide +kernel

/-! ### Witnesses: accounts -/

/-- A duty second waits, with U1 generating and its accounts loaded. -/
def generating : State :=
  accountsIn .clean ((atElapsed 10000000).setUnit .u1 { coldUnit with mode := .generating })

theorem witness_TallySecondFollowsTheMode :
    generating.powered = true ∧ generating.tb.dutyHanded < generating.tb.elapsed / 10000000
      ∧ (generating.unit .u1).mode = .generating ∧ (generating.unit .u2).mode = .stopped
      ∧ isOutstanding (generating.account .u1 .gen).status = false
      ∧ (generating.account .u1 .gen).retired = false ∧ (generating.account .u1 .gen).lifetime < 4294967295
      ∧ ¬ AtLimits (generating.account .u1 .gen)
      ∧ (let a := { accountIn .clean with lifetime := 4294967295, interval := 4294967294 }
         let s := generating.setAccount .u1 .gen a
         isOutstanding (s.account .u1 .gen).status = false ∧ (s.account .u1 .gen).retired = false
          ∧ (s.account .u1 .gen).lifetime = 4294967295 ∧ ¬ AtLimits (s.account .u1 .gen)
          ∧ AtLimits { a with interval := 4294967295, saturated := true })
      ∧ ((generating.setTally .u1 .gen 4294967295).tally .u1 .gen = 4294967295)
      ∧ ((accountsIn (.loading 65535) generating).account .u1 .gen).status = .loading 65535 := by
  decide +kernel

/-- The reset state with loaded accounts, U1's GEN account retired or not. -/
def loaded (retired : Bool) : State :=
  (accountsIn .clean State.reset).setAccount .u1 .gen { accountIn .clean with retired := retired }

theorem witness_AccountCommandsWriteAndRead :
    Taken (loaded false) ∧ (1#8 : Byte).toNat = unitNumber .u1 ∧ (0#8 : Byte).toNat = kindNumber .gen
      ∧ (7#32).toNat ≤ (7#32).toNat ∧ (7#32).toNat < (8#32).toNat
      ∧ isOutstanding ((loaded false).account .u1 .gen).status = false
      ∧ ((loaded false).account .u1 .gen).retired = false
      ∧ Taken (loaded true) ∧ ((loaded true).account .u1 .gen).retired = true
      ∧ isOutstanding ((loaded true).account .u1 .gen).status = false
      ∧ Taken State.reset ∧ isOutstanding (State.reset.account .u1 .gen).status = true
      ∧ (∀ p ∈ [.clean, .dirty, .writing .seconds, .queued], ∀ n ∈ [0, 15, 16],
          let s := { accountsIn p State.reset with asc := { State.reset.asc with
            activity := .idle, queue := (walkOrder.drop 1).take n } }
          Taken s ∧ (s.account .u1 .gen).status = p ∧ (s.account .u1 .gen).retired = false ∧ NoRecordChosen s
            ∧ (UnitId.u1, Kind.gen) ∉ s.asc.queue ∧ s.asc.queue.length = n)
      ∧ (let s := accountsIn .dirty (ascOf fun a => { idleAsc a with frozen := true })
         Taken s ∧ NoRecordChosen s ∧ s.asc.inFlight = none)
      ∧ (let s := accountsIn .dirty (ascOf idleAsc)
         Taken s ∧ ¬ NoRecordChosen s ∧ s.asc.queue = []) := by decide +kernel

/-! ### Witnesses: the store -/

/-- A read-back of U1's GEN account. -/
def readingBack : State := accountsIn (.writing .none) (flying (transaction .queue .readBack none))

theorem witness_TransactionRunsToItsEnd :
    (∀ x ∈ [transaction .queue .waitGrant none, transaction .queue .transfer none,
          transaction .commit .transfer (some 500000), transaction .commit .readBack none],
        (flying x).powered = true ∧ (flying x).asc.inFlight = some x ∧ x.origin ≠ .read)
      ∧ (transaction .queue .waitGrant none).grantBy = (flying (transaction .queue .waitGrant none)).elapsed
      ∧ 500000 ≤ (flying (transaction .commit .transfer (some 500000))).elapsed
      ∧ readingBack.powered = true ∧ readingBack.asc.inFlight = some (transaction .queue .readBack none)
      ∧ (transaction .queue .readBack none).item = .account .u1 .gen
      ∧ (readingBack.account .u1 .gen).status = .writing .none ∧ (UnitId.u1, Kind.gen) ∉ readingBack.asc.queue
      ∧ isLoadActivity readingBack.asc.activity = false
      ∧ ({ readingBack with asc := { readingBack.asc with activity := .committing } }).asc.activity = .committing
      ∧ formatMark ≠ (transaction .queue .readBack none).record := by decide +kernel

/-- A read-back of U1's GEN account, which changed during the write, with a queue and the store in a mode. -/
def changedBack (c : WriteChange) (n : Nat) (frozen : Bool) : State :=
  { accountsIn (.writing c) readingBack with
    asc := { readingBack.asc with queue := (walkOrder.drop 1).take n, frozen := frozen } }

theorem witness_TransactionRunsToItsEnd_changed :
    (∀ c ∈ [WriteChange.none, .seconds, .queue], ∀ n ∈ [0, 2, 15, 16], ∀ b ∈ [true, false],
      let s := changedBack c n b
      s.powered = true ∧ s.asc.inFlight = some (transaction .queue .readBack none)
        ∧ (s.account .u1 .gen).status = .writing c ∧ (UnitId.u1, Kind.gen) ∉ s.asc.queue
        ∧ s.asc.activity = .idle ∧ s.asc.queue.length = n ∧ s.asc.frozen = b ∧ s.spm.supply ≠ .holdup)
      ∧ (changedBack .queue 0 false).asc.queue ++ [(UnitId.u1, Kind.gen)] = (.u1, .gen) :: []
      ∧ (changedBack .queue 2 false).asc.queue ++ [(UnitId.u1, Kind.gen)]
          = (.u1, .pump) :: [(.u1, .rotate), (.u1, .gen)] := by decide +kernel

/-- The queued account goes to the tail and the head is taken; a full queue makes it DIRTY (R121, R123, R137). -/
theorem test_changed_account_is_queued_again :
    (∀ t ∈ [transactionWritten (transaction .queue .readBack none) (changedBack .queue 2 false)],
        t.asc.queue = [(.u1, .rotate), (.u1, .gen)] ∧ (t.account .u1 .gen).status = .queued
          ∧ (t.account .u1 .pump).status = .writing .none)
      ∧ ∀ t ∈ [transactionWritten (transaction .queue .readBack none) (changedBack .queue 16 true)],
        t.asc.queue.length = 16 ∧ (t.account .u1 .gen).status = .dirty ∧ t.lnu.flags.queueFull = true := by
  decide +kernel

/-- A commit that reads U1's GEN account back, with the other accounts in a persistence state. -/
def committing (others : Persistence) (f : Asc → Asc) : State :=
  { accountsIn others (flying (transaction .commit .readBack none)) with
    asc := f { State.reset.asc with
      inFlight := some (transaction .commit .readBack none), activity := .committing } }.setAccount
    .u1 .gen (accountIn (.writing .none))

theorem witness_CommitEndsDoneOrFailed :
    (∀ s ∈ [committing .dirty id, committing .clean id, committing .clean fun a => { a with formatPending := true },
          committing .clean fun a => { a with recommit := true },
          committing .clean fun a => { a with recommit := true, freezePending := true }],
        s.powered = true ∧ s.asc.inFlight = some (transaction .commit .readBack none)
          ∧ s.asc.activity = .committing ∧ s.asc.queue = [] ∧ s.asc.cursor = walkPosition .u1 .gen
          ∧ (s.account .u1 .gen).status = .writing .none)
      ∧ ((committing .dirty id).account .u1 .pump).status = .dirty ∧ walkPosition .u1 .pump = walkPosition .u1 .gen + 1
      ∧ (∀ y ∈ walkOrder, ((committing .clean id).account y.1 y.2).status ≠ .dirty)
      ∧ (let x := { transaction .commit .readBack none with item := .mark, record := formatMark }
         (committing .clean fun a => { a with inFlight := some x }).asc.inFlight = some x)
      ∧ (∀ c ∈ [WriteChange.none, .seconds, .queue], ∀ b ∈ [true, false],
          let s := (committing .clean fun a => { a with frozen := b }).setStatus .u1 .gen (.writing c)
          (s.account .u1 .gen).status = .writing c ∧ s.asc.frozen = b ∧ s.spm.supply = .run ∧ s.asc.recommit = false)
      ∧ ([] : List Byte) ≠ (transaction .commit .readBack none).record := by decide +kernel

/-- The load in progress at the record of U1's GEN account. -/
def reading : Load := newLoad (.readRecord false)

/-- A read of U1's GEN account holds the bus. -/
def readingRecord : State :=
  ascOf fun a => { a with inFlight := some (transaction .read .transfer none), activity := .loading reading }

/-- A read of U1's GEN account holds the bus at a stage, and only that account is outstanding. -/
def readingLast (l : Load) : State :=
  (accountsIn .clean (ascOf fun a => { a with
    inFlight := some (transaction .read .transfer none), activity := .loading l })).setAccount
    .u1 .gen (accountIn (.loading 0))

theorem witness_LoadDeliversTheRecords :
    (readingRecord.powered = true ∧ readingRecord.asc.inFlight = some (transaction .read .transfer none)
      ∧ (transaction .read .transfer none).phase = .transfer ∧ (transaction .read .transfer none).origin = .read
      ∧ (transaction .read .transfer none).item = .account .u1 .gen
      ∧ readingRecord.asc.activity = .loading reading ∧ reading.stage = .readRecord false
      ∧ (readingRecord.account .u1 .gen).status = .loading 0)
      ∧ recordGood .u1 .gen (blankRecord .u1 .gen) = true ∧ recordGood .u1 .gen formatMark = false
      ∧ (isOutstanding (readingRecord.account .u1 .pump).status = true
        ∧ ∀ y ∈ walkOrder, walkPosition y.1 y.2 < walkPosition .u1 .pump → y = (.u1, .gen))
      ∧ (∀ y ∈ walkOrder, y ≠ (.u1, .gen) →
          isOutstanding ((readingLast (newLoad (.readRecord true))).account y.1 y.2).status = false)
      ∧ (readingLast (newLoad (.readRecord true))).asc.recommit = false
      ∧ (readingLast (newLoad (.readRecord true))).asc.queue = []
      ∧ ((ascOf fun a => { a with queue := walkOrder.take 16 }).asc.queue.length = 16)
      ∧ (let x := { markRead 0 with phase := .transfer }
         let s := ascOf fun a => { a with inFlight := some x }
         s.powered = true ∧ x.origin = .read ∧ x.item = .mark ∧ s.asc.activity = .loading (newLoad .readMark)
          ∧ isOutstanding (s.account .u1 .gen).status = true ∧ walkPosition .u1 .gen = 0)
      ∧ (let s := { State.reset with tb := { State.reset.tb with elapsed := 500000 } }
         s.asc.inFlight = some (markRead 0) ∧ (markRead 0).phase = .waitGrant ∧ (markRead 0).grantBy ≤ s.elapsed) := by
  decide +kernel

/-- The write of a blank store's item, at its read-back. -/
def initializing (item : StoreItem) (l : Load) : State :=
  { readingLast l with asc := { (readingLast l).asc with
    inFlight := some { item := item, origin := .init, phase := .readBack, grantBy := 0, cycleBy := none,
                       record := formatMark } } }

theorem witness_BlankStoreIsInitialized :
    (∀ n ∈ [1, 2, 3],
      (let s := initializing (.account .u1 .gen) (newLoad (.initRecord n))
       s.powered = true ∧ s.asc.activity = .loading (newLoad (.initRecord n)) ∧ (s.account .u1 .gen).status = .loading 0
        ∧ (UnitId.u1, Kind.gen) ∉ s.asc.queue
        ∧ ∀ y ∈ walkOrder, y ≠ (.u1, .gen) → isOutstanding (s.account y.1 y.2).status = false)
        ∧ (initializing .mark (newLoad (.initMark n))).asc.activity = .loading (newLoad (.initMark n)))
      ∧ isOutstanding (readingRecord.account .u1 .pump).status = true ∧ ([] : List Byte) ≠ formatMark
      ∧ (newLoad (.initRecord 3)).initFailed = false := by decide +kernel

/-- The store controller at rest with every account in a persistence state. -/
def resting (p : Persistence) : State := accountsIn p (ascOf idleAsc)

theorem witness_CommitIsTriggered :
    Taken (ascOf fun a => { a with frozen := true })
      ∧ Taken State.reset ∧ State.reset.asc.frozen = false ∧ State.reset.asc.activity ≠ .idle
      ∧ State.reset.asc.inFlight.isSome = true
      ∧ Taken (resting .dirty) ∧ (resting .dirty).asc.activity = .idle ∧ (resting .dirty).asc.inFlight = none
      ∧ (resting .dirty).asc.queue = [] ∧ ((resting .dirty).account .u1 .gen).status = .dirty
      ∧ Taken (resting .clean) ∧ (resting .clean).asc.formatPending = false
      ∧ (resting .clean).asc.recommit = false
      ∧ (∀ p ∈ walkOrder, ((resting .clean).account p.1 p.2).status ≠ .dirty)
      ∧ (atElapsed 9600000000).powered = true
      ∧ (atElapsed 9600000000).asc.periodBy = (atElapsed 9600000000).elapsed
      ∧ (flying (transaction .queue .transfer none)).asc.activity = .idle := by decide +kernel

theorem witness_StoreIsSetAndReloaded :
    Taken State.reset ∧ 1 < (2#8 : Byte).toNat ∧ State.reset.asc.frozen = false
      ∧ State.reset.asc.activity ≠ .committing ∧ isLoadActivity State.reset.asc.activity = true
      ∧ Taken (ascOf fun a => { a with activity := .committing })
      ∧ Taken { flying (transaction .queue .transfer none) with
          asc := { (flying (transaction .queue .transfer none)).asc with frozen := true } }
      ∧ Taken (resting .clean) ∧ isLoadActivity (resting .clean).asc.activity = false
      ∧ (resting .clean).asc.inFlight = none
      ∧ (let s := accountsIn .dirty (ascOf fun a => { idleAsc a with frozen := true })
         Taken s ∧ s.asc.frozen = true ∧ s.asc.activity = .idle ∧ s.asc.inFlight = none ∧ s.asc.queue = []
          ∧ (s.account .u1 .gen).status = .dirty ∧ walkPosition .u1 .gen = 0)
      ∧ (let s := accountsIn .clean (ascOf fun a => { idleAsc a with frozen := true })
         Taken s ∧ s.asc.recommit = false ∧ s.asc.formatPending = false
          ∧ ∀ y ∈ walkOrder, (s.account y.1 y.2).status ≠ .dirty)
      ∧ (let s := ascOf fun a => { a with frozen := true }
         Taken s ∧ isLoadActivity s.asc.activity = true ∧ s.asc.inFlight.isSome = true)
      ∧ isLoadActivity (flying (transaction .queue .transfer none)).asc.activity = false
      ∧ (let s := ascOf fun a => { a with
           inFlight := some (transaction .queue .readBack none), activity := .loading (newLoad .afterWrite) }
         s.powered = true ∧ s.asc.activity = .loading (newLoad .afterWrite)
          ∧ s.asc.inFlight = some (transaction .queue .readBack none)) := by decide +kernel

/-! ### Witnesses: shifts -/

/-- The reset state with a roster of 00:20, in a shift state, with a quality class. -/
def clocked (x : ShiftState) (window : Option Nat) (q : Timebase → Timebase) : State :=
  { State.reset with
    tb := q { State.reset.tb with timeSet := true, uncertainty := 5, seconds := 301 }
    shc := { State.reset.shc with roster := [20], state := x, window := window, duty := some 9 } }

theorem witness_ClockCrossesItsPoints :
    (clocked .onShift none id).shc.seenFrac ≤ 9999999 ∧ (clocked .onShift none id).tb.frac ≤ 9999999
      ∧ advance (clocked .onShift none id) = 3010000000 ∧ advance State.reset = 0
      ∧ 432000000000 ≤ advance { State.reset with tb := { State.reset.tb with seconds := 43200 } }
      ∧ (shcOf fun h => { h with skip := some 20 }).shc.skip = some 20 ∧ State.reset.tb.quality = .u
      ∧ (∀ s ∈ [clocked .noShift none id, clocked .onShift none id, clocked .offered none id,
            clocked .window (some 20) id, clocked .window (some 500) id],
          s.shc.skip ≠ some 20 ∧ s.tb.quality ≠ .u ∧ s.tb.quality ≠ .d)
      ∧ (clocked .noShift none id).shc.state = .noShift ∧ (clocked .onShift none id).shc.state = .onShift
      ∧ (clocked .offered none id).shc.state = .offered ∧ (clocked .offered none id).shc.window = none
      ∧ (clocked .window (some 20) id).shc.window = some 20 ∧ (clocked .window (some 20) id).shc.overdue = false
      ∧ (clocked .onShift none id).shc.window ≠ some 20 := by decide +kernel

/-- The reset state in a shift state with duty badge 9. -/
def onDuty (x : ShiftState) : State := shcOf fun h => { h with state := x, duty := some 9, number := 1 }

theorem witness_NewShiftIsBegun :
    Taken State.reset ∧ (9#16).toNat ≠ 0 ∧ 1 ≤ (15#8 : Byte).toNat ∧ (15#8 : Byte).toNat ≤ 15
      ∧ State.reset.shc.number < 4294967295 ∧ State.reset.shc.state = .noShift ∧ State.reset.shc.number = 0
      ∧ Taken (onDuty .offered) ∧ (onDuty .offered).shc.state = .offered
      ∧ (onDuty .offered).shc.duty ≠ some (8#16).toNat ∧ (onDuty .offered).shc.version = (0#16).toNat
      ∧ (onDuty .offered).shc.version ≠ (1#16).toNat ∧ (onDuty .offered).shc.duty = some (9#16).toNat
      ∧ (onDuty .offered).shc.window = none ∧ (clocked .offered none id).shc.roster ≠ []
      ∧ Taken (clocked .offered none id) ∧ Taken (clocked .offered (some 20) id)
      ∧ (clocked .offered (some 20) id).shc.window ≠ none
      ∧ 1 ≤ (onDuty .offered).shc.number
      ∧ (withCase .cleared).slot .u1 .s0 = some (caseIn .cleared)
      ∧ (withCase .active).slot .u1 .s0 = some (caseIn .active) := by decide +kernel

theorem witness_OfferIsMadeAndWithdrawn :
    (inSupply .holdup).listening = true ∧ (inSupply .holdup).spm.supply = .holdup
      ∧ State.reset.listening = true ∧ State.reset.spm.supply = .run ∧ (0#16).toNat = 0 ∧ (9#16).toNat ≠ 0
      ∧ State.reset.shc.state = .noShift
      ∧ ∀ x ∈ [ShiftState.onShift, .window, .offered], Taken (onDuty x) ∧ (onDuty x).shc.state = x
        ∧ (onDuty x).shc.duty = some (9#16).toNat ∧ (onDuty x).shc.duty ≠ some (8#16).toNat := by decide +kernel

theorem witness_PresenceIsShownOrLapses :
    Taken (onDuty .onShift) ∧ (onDuty .onShift).shc.state ≠ .noShift
      ∧ (onDuty .onShift).shc.duty = some (9#16).toNat ∧ (onDuty .onShift).shc.duty ≠ some (8#16).toNat
      ∧ Taken State.reset ∧ State.reset.shc.state = .noShift
      ∧ (shcOf fun h => { h with presenceBy := some 0 }).powered = true
      ∧ (shcOf fun h => { h with presenceBy := some 0 }).shc.presenceBy = some 0
      ∧ 0 ≤ (shcOf fun h => { h with presenceBy := some 0 }).elapsed := by decide +kernel

theorem witness_ShiftSettingsAndRelease :
    (Taken State.reset ∧ ([1439#16, 0#16] : List (BitVec 16)).length ≤ 6)
      ∧ (∀ m ∈ ([1439#16, 0#16] : List (BitVec 16)), m.toNat ≤ 1439)
      ∧ ([1439#16, 0#16] : List (BitVec 16)).Nodup ∧ ¬ ([5#16, 5#16] : List (BitVec 16)).Nodup
      ∧ (1439 < (1440#16).toNat ∧ (1#8 : Byte).toNat ≤ 1 ∧ 1 < (2#8 : Byte).toNat)
      ∧ State.reset.shc.presenceExp ≠ none
      ∧ Taken (shcOf fun h => { h with presenceExp := none, state := .onShift, duty := some 9 }) :=
  ⟨by decide +kernel, by simp, by simp, by simp, by decide +kernel, by decide +kernel, by decide +kernel⟩

/-! ### Witnesses: the link and the supply -/

theorem witness_NoticesAreCollectedAndMasked :
    State.reset.listening = true ∧ Taken State.reset ∧ (31#8 : Byte).toNat < 32 ∧ (7#8 : Byte).toNat < 8
      ∧ (3#8 : Byte).toNat < 4 ∧ (15#8 : Byte).toNat < 16 ∧ 32 ≤ (32#8 : Byte).toNat := by decide

theorem witness_IdentifyAnswersThePart : State.reset.listening = true := by decide

/-- The reset state with a receiver state. -/
def receiving (r : Rx) : State := setRx r State.reset

/-- The reset state while a reply is being sent. -/
def answering : State := sendReply 0x73 (refuse .badLength) State.reset

theorem witness_LinkTakesBytesAndFrames :
    State.reset.powered = true ∧ State.reset.lnu.answering = false ∧ State.reset.lnu.rx = .silent
      ∧ (receiving (.frame [1#8] false false)).lnu.rx = .frame [1#8] false false
      ∧ frameGood [1#8] false false = false
      ∧ frameGood ((requestFrame 2 0x10 []).set 1 2#8) false false = false
      ∧ frameGood ((requestFrame 2 0x10 []).set 4 0#8) false false = false
      ∧ answering.lnu.answering = true ∧ answering.powered = true
      ∧ frameGood (requestFrame 2 0x10 []) false false = true ∧ field (requestFrame 2 0x10 []) 0 1 ≠ 0
      ∧ field (requestFrame 2 0x10 []) 0 1 ≠ State.reset.lnu.address
      ∧ (receiving .ignoring).lnu.rx = .ignoring ∧ (receiving .ignoring).lnu.answering = false
      ∧ (receiving .ignoring).powered = true
      ∧ State.reset.listening = true ∧ (0x61#8 : Byte).toNat ∉ knownCodes := by decide +kernel

/-- PFI asserted at 0, at its filter time. -/
def failing : State :=
  { atElapsed 10000 with spm := { State.reset.spm with pfiLevel := true, pfiPending := some 0 } }

/-- A state whose scan has come to the supply channel. -/
def supplyTurn (s : State) : State := { s with usm := { s.usm with scan := .supply } }

theorem witness_HoldupIsEnteredAndLeft :
    State.reset.powered = true ∧ true ≠ State.reset.spm.pfiLevel ∧ State.reset.spm.pfiPending = none
      ∧ failing.powered = true ∧ failing.spm.pfiPending = some 0 ∧ 0 + 10000 ≤ failing.elapsed
      ∧ failing.spm.pfiLevel = true ∧ failing.spm.supply = .run
      ∧ (600#10).toNat ≤ 600 ∧ (supplyTurn State.reset).usm.scan = .supply ∧ State.reset.spm.lowRun = 0
      ∧ 648 ≤ (648#10).toNat ∧ (supplyTurn (inSupply .holdup)).usm.scan = .supply
      ∧ (inSupply .holdup).powered = true ∧ (inSupply .holdup).spm.supply = .holdup
      ∧ (inSupply .holdup).spm.pfiStable = false ∧ (inSupply .holdup).spm.restoreBy = none
      ∧ ({ State.reset with spm := { State.reset.spm with restoreBy := some 0 } } : State).spm.restoreBy = some 0
      ∧ 0 ≤ State.reset.elapsed
      ∧ false ≠ failing.spm.pfiLevel ∧ false = failing.spm.pfiStable
      ∧ (∀ x ∈ [(Supply.run, true), (.run, false), (.holdup, true), (.holdup, false)],
          let s := { failing with spm := { failing.spm with supply := x.1, pfiLevel := x.2 } }
          s.powered = true ∧ s.spm.supply = x.1 ∧ s.spm.pfiLevel = x.2 ∧ s.spm.pfiPending = some 0
            ∧ s.usm.supplyReading = none)
      ∧ ({ State.reset.usm with supplyReading := some 950 } : Usm).supplyReading.any (950 ≤ ·) = true
      ∧ 600 < (601#10).toNat ∧ (647#10).toNat < 648
      ∧ ({ State.reset.spm with supply := .holdup, pfiStable := true } : Spm).pfiStable = true := by decide

theorem witness_BackupAndColdStart :
    State.reset.powered = true
      ∧ (let s := { State.reset with spm := { State.reset.spm with supply := .backup, retained := false } }
         s.spm.supply = .backup ∧ s.spm.retained = false ∧ s.spm.pfiLevel = false
           ∧ (∀ x ∈ inputOrder, (s.input x.1 x.2).closed = false)
           ∧ ∀ u ∈ allUnits, (s.unit u).breaker.level = false ∧ (s.unit u).pumpMode.level = false)
      ∧ (let s := { inputOf (fun t => { t with closed := true }) with
           spm := { State.reset.spm with supply := .backup, retained := false, pfiLevel := true } }
         s.spm.supply = .backup ∧ s.spm.retained = false ∧ (s.input .u1 .i1).closed = true) := by
  decide +kernel

theorem witness_WarmStartKeepsTheRecords :
    State.reset.powered = true ∧ (inSupply .backup).spm.supply = .backup
      ∧ (inSupply .backup).spm.retained = true
      ∧ (∀ u ∈ allUnits, (withCase .active).tgr.groups.get u = none)
      ∧ (let s := (withCase .active).setInput .u1 .i1 { coldInput with closed := true }
         s.powered = true ∧ ∀ y ∈ inputOrder, FoundClosed s y.1 y.2 ↔ (s.inputCase y.1 y.2).isSome = true) := by
  decide +kernel

/-- The contact of U1/I1 found closed at the start. -/
def foundClosed (s : State) : State := s.setInput .u1 .i1 { coldInput with closed := true }

/-- The reset state with U1's GEN account WRITING with a change, a queue, and the store FROZEN. -/
def writingAtStart (c : WriteChange) (n : Nat) : State :=
  (accountsIn .clean (ascOf fun a => { idleAsc a with frozen := true, queue := (walkOrder.drop 1).take n })).setStatus
    .u1 .gen (.writing c)

theorem witness_WarmStartRebuildsCasesAndAccounts :
    (withGroup State.reset).tgr.groups.get .u1 = some groupSeven ∧ (withGroup State.reset).powered = true
      ∧ (∀ x ∈ [CaseState.active, .activeAck, .latched, .acknowledged],
          (withCase x).inputCase .u1 .i1 = some (.s0, caseIn x) ∧ ¬ FoundClosed (withCase x) .u1 .i1
            ∧ FoundClosed (foundClosed (withCase x)) .u1 .i1
            ∧ (foundClosed (withCase x)).inputCase .u1 .i1 = some (.s0, caseIn x))
      ∧ IsAsserted (caseIn .active) ∧ ¬ IsAsserted (caseIn .latched)
      ∧ (∀ b ∈ [true, false],
          let s := foundClosed { withCase .latched with
            tiu := { State.reset.tiu with testMode := PerUnit.fill b } }
          s.tiu.testMode.get .u1 = b ∧ s.inputCase .u1 .i1 = some (.s0, caseIn .latched))
      ∧ (foundClosed State.reset).inputCase .u1 .i1 = none
      ∧ ((foundClosed State.reset).caseSet .u1).allocate = some .s0
      ∧ ∀ k ∈ allInputs, k ≠ .i1 → ¬ FoundClosed (foundClosed State.reset) .u1 k := by decide +kernel

theorem witness_WarmStartRebuildsCasesAndAccounts_writing :
    ∀ c ∈ [WriteChange.none, .seconds, .queue], ∀ n ∈ [0, 15, 16],
      let s := writingAtStart c n
      s.powered = true ∧ (s.account .u1 .gen).status = .writing c ∧ (UnitId.u1, Kind.gen) ∉ s.asc.queue
        ∧ s.asc.queue.length = n ∧ (s.asc.frozen || s.asc.freezePending) = true ∧ s.spm.pfiLevel = false
        ∧ (∀ y ∈ walkOrder, y ≠ (.u1, .gen) → (s.account y.1 y.2).status ≠ .writing .queue)
        ∧ (∀ u ∈ allUnits, s.tgr.groups.get u = none)
        ∧ ∀ y ∈ inputOrder, ¬ FoundClosed s y.1 y.2 ∧ s.inputCase y.1 y.2 = none := by decide +kernel

end Sys2Proof.Tests
end

section
/-! PROOFS. The selection and what the Timebase is told of it (R11, R26). -/

namespace Sys2Proof.Proofs

open Sys2Proof.Machine Sys2Proof.Safety

/-! ### Reading a notice after it is raised -/

/-- Raising a notice sets its flag and no other (R179). -/
theorem raise_flags (n : Notice) (s : State) : (raise n s).lnu.flags = s.lnu.flags.set n true := rfl

/-- Deriving the class raises QUALITY_DROP at most (R33). -/
theorem evalQuality_flags (s : State) :
    (evalQuality s).lnu.flags = s.lnu.flags ∨ (evalQuality s).lnu.flags = s.lnu.flags.set .qualityDrop true := by
  simp only [evalQuality]; split
  · exact .inr rfl
  · exact .inl rfl

/-- Deriving the class leaves the flags of the selection as they are (R33). -/
theorem evalQuality_selectionFlags (s : State) :
    (evalQuality s).lnu.flags.sourceChange = s.lnu.flags.sourceChange
      ∧ (evalQuality s).lnu.flags.holdoverEntered = s.lnu.flags.holdoverEntered := by
  rcases evalQuality_flags s with h | h <;> rw [h] <;> exact ⟨rfl, rfl⟩

/-- A flag set to true changes no other flag's field. -/
theorem raise_selectionFlags (s : State) :
    (raise .sourceChange s).lnu.flags.sourceChange = true
      ∧ (raise .sourceChange s).lnu.flags.holdoverEntered = s.lnu.flags.holdoverEntered
      ∧ (raise .holdoverEntered s).lnu.flags.sourceChange = s.lnu.flags.sourceChange
      ∧ (raise .holdoverEntered s).lnu.flags.holdoverEntered = true := ⟨rfl, rfl, rfl, rfl⟩

/-! ### The change of the selection -/

/-- Where the selection stays as it is, evaluating it changes nothing (R11). -/
theorem evalSelection_same {s : State} (h : s.riu.choice = s.riu.selection) : evalSelection s = s := by
  simp [evalSelection, h]

/-- Where the selection changes, SOURCE_CHANGE is raised and the Timebase is told (R11). -/
theorem evalSelection_changed {s : State} (h : s.riu.choice ≠ s.riu.selection) :
    evalSelection s = selectionChanged s.riu.selection s.riu.choice
      (raise .sourceChange { s with riu := { s.riu with selection := s.riu.choice } }) := by
  simp [evalSelection, h]

/-- Evaluating the selection tells the Timebase of its change by the table of R26, where the timebase state agreed
with the selection (R11, R26). -/
theorem evalSelection_told {s : State} (ag : SelectionAgrees s) : SelectionTold s (evalSelection s) := by
  have hsel : (evalSelection s).riu.selection = s.riu.choice := by rw [evalSelection_riu]
  unfold SelectionTold
  rw [hsel]
  refine ⟨fun h => by rw [evalSelection_same h]; exact ⟨rfl, rfl⟩, fun h => ?_⟩
  rw [evalSelection_changed h]
  unfold SelectionAgrees at ag
  cases ho : s.riu.selection with
  | none =>
    obtain ⟨y, hn⟩ : ∃ y, s.riu.choice = some y := Option.ne_none_iff_exists'.mp (ho ▸ h)
    rcases ag.mp ho with hs | hs <;>
      simp [hn, hs, selectionChanged, Timebase.clearRuns, Timebase.acquire, evalQuality_tb,
        evalQuality_selectionFlags, raise_selectionFlags]
  | some x =>
    have hs : s.tb.state = .acquire ∨ s.tb.state = .locked := by
      have := (not_congr ag).mp (by simp [ho])
      cases h : s.tb.state <;> simp_all
    cases hn : s.riu.choice with
    | some y => simp [selectionChanged, Timebase.clearRuns, raise_selectionFlags]
    | none =>
      rcases hs with hs | hs
      · cases hl : s.tb.lockHeld <;>
          simp [hs, hl, selectionChanged, Timebase.clearRuns, Timebase.letGo, evalQuality_tb,
            evalQuality_selectionFlags, raise_selectionFlags]
      · simp [hs, selectionChanged, Timebase.clearRuns, Timebase.letGo, evalQuality_tb,
          evalQuality_selectionFlags, raise_selectionFlags]

/-- What the Timebase is told depends on the selection, the Timebase and the flags alone. -/
theorem selectionTold_congr {s s' t : State} (sel : s.riu.selection = s'.riu.selection) (tb : s.tb = s'.tb)
    (lnu : s.lnu = s'.lnu) (h : SelectionTold s t) : SelectionTold s' t := by
  unfold SelectionTold at *; rw [← sel, ← tb, ← lnu]; exact h

/-- The timebase state agrees with the selection after the Timebase has been told of it (R19, R26). -/
theorem agrees_of_told {s t : State} (ag : SelectionAgrees s) (h : SelectionTold s t) : SelectionAgrees t := by
  obtain ⟨same, changed⟩ := h
  by_cases e : t.riu.selection = s.riu.selection
  · unfold SelectionAgrees; rw [e, (same e).1]; exact ag
  · obtain ⟨-, fromNone, other, hold, free⟩ := changed e
    unfold SelectionAgrees at *
    cases hs : s.riu.selection with
    | none =>
      rw [fromNone hs]
      simp [hs] at e
      simp [e]
    | some x =>
      cases ht : t.riu.selection with
      | some y =>
        rw [(other (by simp [hs]) (by simp [ht])).1]
        simpa [hs] using ag
      | none =>
        by_cases l : s.tb.state = .locked ∨ s.tb.lockHeld = true
        · rw [(hold ht l).1]; simp
        · push Not at l
          rw [(free ht l.1 (by simpa using l.2)).1]; simp

end Sys2Proof.Proofs
end

section
/-! PROOFS. The ranges of the Timebase and of the source records, field by field, and that the operations of chapters 1,
2 and 11 keep them (R1, R2, R4, R6, R7, R12, R19, R22, R23, R28). -/

namespace Sys2Proof.Proofs

open Sys2Proof.Machine Sys2Proof.Safety

/-- The ranges of the Timebase and of its discipline record (R1, R2, R4, R6, R19, R22, R23, R28, R34). -/
structure TbRange (t : Timebase) : Prop where
  seconds : t.seconds ≤ 4294967295
  frac : t.frac ≤ 9999999
  elapsed : t.elapsed ≤ 4611686018427387904
  holdBack : ∀ n, t.holdBack = some n → n < 200
  backupAcc : t.backupAcc ≤ 32767
  freq : t.freq.natAbs ≤ 20000
  trim : t.trim.natAbs ≤ 20000
  trimRem : t.trimRem.natAbs ≤ 99
  outlierRun : t.outlierRun ≤ 2
  firstAbsent : t.firstOutlier = none ↔ t.outlierRun = 0
  firstOutlier : ∀ e, t.firstOutlier = some e → -5000000 ≤ e ∧ e ≤ 4999999
  lockRun : t.lockRun ≤ 8
  uncertainty : t.uncertainty ≤ 4000000000
  growthRem : t.growthRem ≤ 99
  acquire : t.state = .acquire → t.uncertainty = 1000
  loopExp : 3 ≤ t.loopExp ∧ t.loopExp ≤ 8
  stepThreshold : 1000 ≤ t.stepThreshold ∧ t.stepThreshold ≤ 1000000
  holdRate : 1 ≤ t.holdRate ∧ t.holdRate ≤ 10000

/-- The ranges of the two source records (R7, R12, R18). -/
structure RiuRange (r : Riu) : Prop where
  source : ∀ x, SourceInRange (r.source x)
  priorities : r.refA.priority + r.refB.priority = 3

/-- A state's time is in range: the Timebase, the sources, and the selection in agreement with the timebase state. -/
structure TimeSound (s : State) : Prop where
  tb : TbRange s.tb
  riu : RiuRange s.riu
  agrees : SelectionAgrees s

/-- The ranges of a state's time are those of its Timebase and its sources, with the selection in agreement. -/
theorem timeInRange_iff (s : State) : TimeInRange s ↔ TimeSound s := by
  constructor
  · rintro ⟨⟨a1, a2, a3, a4, a5⟩, ⟨b1, b2, b3⟩, ⟨c1, c2, c3, c4⟩, ⟨d1, d2, d3⟩, ⟨e1, e2, e3, e4, e5, e6⟩, fA, fB, g, h⟩
    exact ⟨⟨a1, a2, a3, a4, a5, b1, b2, b3, c1, c2, c3, c4, d1, d2, d3, ⟨e1, e2⟩, ⟨e3, e4⟩, ⟨e5, e6⟩⟩,
      ⟨fun x => by cases x; exacts [fA, fB], g⟩, h⟩
  · rintro ⟨t, r, h⟩
    exact ⟨⟨t.seconds, t.frac, t.elapsed, t.holdBack, t.backupAcc⟩, ⟨t.freq, t.trim, t.trimRem⟩,
      ⟨t.outlierRun, t.firstAbsent, t.firstOutlier, t.lockRun⟩, ⟨t.uncertainty, t.growthRem, t.acquire⟩,
      ⟨t.loopExp.1, t.loopExp.2, t.stepThreshold.1, t.stepThreshold.2, t.holdRate.1, t.holdRate.2⟩,
      r.source .refA, r.source .refB, r.priorities, h⟩

namespace TbRange

variable {t : Timebase}

/-! ### The counts -/

/-- The reported class has no range (R32). -/
theorem reported (h : TbRange t) (q : Quality) : TbRange { t with reported := q } := { h with }

/-- The count of boundaries handed on has no range (R3). -/
theorem dutyHanded (h : TbRange t) (n : Nat) : TbRange { t with dutyHanded := n } := { h with }

/-- That a boundary is due has no range (R4). -/
theorem boundaryDue (h : TbRange t) (b : Bool) : TbRange { t with boundaryDue := b } := { h with }

/-- An accumulator in its range may be written (R6). -/
theorem setBackupAcc (h : TbRange t) {n : Nat} (hn : n ≤ 32767) : TbRange { t with backupAcc := n } :=
  { h with backupAcc := hn }

/-- A hold-back in its range may be written (R4). -/
theorem setHoldBack (h : TbRange t) {o : Option Nat} (ho : ∀ n, o = some n → n < 200) :
    TbRange { t with holdBack := o } := { h with holdBack := ho }

/-- Time that passes, of at most a second, keeps the ranges (R1, R2). -/
theorem advanced (h : TbRange t) {n : Nat} (hn : n ≤ 10000000) : TbRange (t.advanced n) :=
  have sec : (t.advanced n).seconds ≤ 4294967295 := by
    have := h.seconds
    simp only [Timebase.advanced, nextSecond]; split <;> omega
  have frac : (t.advanced n).frac ≤ 9999999 := by
    have := h.frac
    simp only [Timebase.advanced]; split <;> omega
  { h with
    seconds := sec
    frac := frac
    elapsed := Nat.min_le_right _ _ }

/-- The station time one cu earlier is in range (R1). -/
theorem back (h : TbRange t) : TbRange t.back := by
  have := h.seconds
  have := h.frac
  unfold Timebase.back
  split
  · exact { h with seconds := by simp only [prevSecond]; omega, frac := by simp }
  · exact { h with frac := by simp only; omega }

/-- A phase error taken from the station time leaves it in range (R25). -/
theorem subtractPhase (h : TbRange t) {e : Int} (he : -5000000 ≤ e ∧ e ≤ 4999999) : TbRange (t.subtractPhase e) := by
  have := h.seconds
  have := h.frac
  simp only [Timebase.subtractPhase]
  split
  · exact { h with seconds := by simp only [prevSecond]; omega, frac := by simp only; omega }
  · split
    · exact { h with seconds := by simp only [nextSecond]; omega, frac := by simp only; omega }
    · exact { h with frac := by simp only; omega }

/-- Applied lies between −200 and 200 cu (R23). -/
theorem applied_bounds (h : TbRange t) : -200 ≤ t.applied ∧ t.applied ≤ 200 := by
  have := h.trim
  have := h.trimRem
  have : ((t.trimRem + t.trim).tdiv 100).natAbs = (t.trimRem + t.trim).natAbs / 100 := Int.natAbs_tdiv _ 100
  unfold Timebase.applied
  omega

/-- The counts that the present period reads are in range (R5). -/
theorem present (h : TbRange t) : TbRange t.present := by
  have := h.applied_bounds
  unfold Timebase.present
  split
  · exact h.advanced (by omega)
  · exact h

/-- The counts after one watch cycle are in range (R6). -/
theorem watchCycle (h : TbRange t) : TbRange t.watchCycle := by
  have := h.backupAcc
  exact (h.advanced (by split <;> omega)).setBackupAcc (by split <;> omega)

/-- The counts at the entry to BACKUP are in range (R6). -/
theorem stopped (h : TbRange t) : TbRange t.stopped :=
  { h with holdBack := by simp [Timebase.stopped], backupAcc := Nat.zero_le _ }

/-! ### The discipline record -/

/-- Runs that start afresh are in range (R21, R26). -/
theorem clearRuns (h : TbRange t) : TbRange t.clearRuns :=
  { h with
    outlierRun := Nat.zero_le _, firstAbsent := by simp [Timebase.clearRuns]
    firstOutlier := by simp [Timebase.clearRuns], lockRun := Nat.zero_le _ }

/-- Entry to FREE or HOLDOVER keeps the ranges (R26). -/
theorem letGo (h : TbRange t) {x : TbState} (hx : x ≠ .acquire) : TbRange (t.letGo x) :=
  { h with trim := h.freq, growthRem := Nat.zero_le _, acquire := fun e => absurd e hx }

/-- Entry to ACQUIRE keeps the ranges (R26, R28). -/
theorem acquired (h : TbRange t) : TbRange t.acquire :=
  { h with uncertainty := show 1000 ≤ 4000000000 by decide, acquire := fun _ => rfl }

/-- The trim taken at a boundary leaves a remainder below a whole cu (R23). -/
theorem takeTrim (h : TbRange t) : TbRange t.takeTrim :=
  have rem : (t.trimRem + t.trim - 100 * t.applied).natAbs ≤ 99 := by
    have : ((t.trimRem + t.trim).tmod 100).natAbs = (t.trimRem + t.trim).natAbs % 100 := Int.natAbs_tmod _ 100
    rw [Timebase.applied, ← Int.tmod_def]
    omega
  { h with trimRem := rem, trim := h.freq }

/-- One step of growth keeps the uncertainty and its remainder in range (R29). -/
theorem grow (h : TbRange t) : TbRange t.grow := by
  unfold Timebase.grow
  split
  case h_1 e | h_2 e =>
    exact { h with
      uncertainty := Nat.min_le_right _ _, growthRem := by simp only; omega
      acquire := fun e' => by simp [e] at e' }
  case h_3 | h_4 => exact h

/-- The loop update brings F and T into their range (R22). -/
theorem loopUpdate (h : TbRange t) (e : Int) : TbRange (t.loopUpdate e) :=
  have clamped (x : Int) : (clampPpb x).natAbs ≤ 20000 := by unfold clampPpb; omega
  { h with freq := clamped _, trim := clamped _ }

/-- A step keeps the ranges (R25). -/
theorem stepped (h : TbRange t) {e : Int} (he : -5000000 ≤ e ∧ e ≤ 4999999) : TbRange (t.stepped e) := by
  unfold Timebase.stepped
  split
  · exact { (h.present.subtractPhase he).back with elapsed := h.elapsed }
  · exact h.subtractPhase he

/-- A group T reset keeps the ranges (R36). -/
theorem resetT (h : TbRange t) : TbRange t.resetT :=
  { h with
    freq := Nat.zero_le _, trim := Nat.zero_le _, trimRem := Nat.zero_le _, outlierRun := Nat.zero_le _
    firstAbsent := by simp [Timebase.resetT], firstOutlier := by simp [Timebase.resetT]
    lockRun := Nat.zero_le _, growthRem := Nat.zero_le _, acquire := by simp [Timebase.resetT] }

/-- A warm start keeps the ranges (R30). -/
theorem warmStarted (h : TbRange t) (d : Nat) : TbRange (t.warmStarted d) := by
  have grown : TbRange { t.clearRuns.letGo .free with
      uncertainty := addUpTo maxUncertainty t.uncertainty (d * 200) } :=
    { h.clearRuns.letGo (x := .free) (by decide) with
      uncertainty := Nat.min_le_right _ _, acquire := by simp [Timebase.letGo] }
  unfold Timebase.warmStarted
  split
  · exact grown
  · exact { grown with acquire := by simp [Timebase.letGo] }

end TbRange
end Sys2Proof.Proofs
end

section
/-! PROOFS. The operations of the Reference Input Unit and of the Timebase keep their ranges (R1 to R36). -/

namespace Sys2Proof.Proofs

open Sys2Proof.Machine Sys2Proof.Safety

/-! ### Settings of a source (R12) -/

theorem otherSource_ne (x : SourceId) : otherSource x ≠ x := by cases x <;> decide

/-- The source record whose settings SET_REFERENCE writes (R12). -/
theorem configure_source (r : Riu) (x : SourceId) (en : Bool) (p d : Nat) :
    (r.configure x en p d).source x =
      if (r.source x).enable = en then { r.source x with enable := en, priority := p, delay := d }
      else { r.source x with enable := en, priority := p, delay := d }.fresh := by
  simp [Riu.configure, (otherSource_ne x).symm]

/-- The other source record gives up a priority that is taken (R12). -/
theorem configure_other (r : Riu) (x : SourceId) (en : Bool) (p d : Nat) :
    (r.configure x en p d).source (otherSource x) =
      if (r.source (otherSource x)).priority = p then { r.source (otherSource x) with priority := 3 - p }
      else r.source (otherSource x) := by
  simp [Riu.configure]

/-- The priority written (R12). -/
theorem configure_priority (r : Riu) (x : SourceId) (en : Bool) (p d : Nat) :
    ((r.configure x en p d).source x).priority = p := by
  rw [configure_source]
  by_cases h : (r.source x).enable = en <;> simp [h, Source.fresh]

/-- The priority of the other source becomes the one not taken (R12). -/
theorem configure_otherPriority {r : Riu} {x : SourceId} (en : Bool) {p : Nat} (d : Nat)
    (sum : (r.source x).priority + (r.source (otherSource x)).priority = 3)
    (one : (r.source x).priority = 1 ∨ (r.source x).priority = 2) (hp : 1 ≤ p ∧ p ≤ 2) :
    ((r.configure x en p d).source (otherSource x)).priority = 3 - p := by
  rw [configure_other]
  by_cases h : (r.source (otherSource x)).priority = p <;> simp only [h, if_true, if_false]
  omega

/-- The selection stands while the settings are written (R12). -/
theorem configure_selection (r : Riu) (x : SourceId) (en : Bool) (p d : Nat) :
    (r.configure x en p d).selection = r.selection := by simp [Riu.configure]

/-! ### Measuring a pulse and the source records (R7 to R12, R18) -/

/-- The phase error lies in −5,000,000 to +4,999,999 cu (R18). -/
theorem phaseError_range {f d : Nat} (hf : f ≤ 9999999) (hd : d ≤ 65535) :
    -5000000 ≤ phaseError f d ∧ phaseError f d ≤ 4999999 := by
  simp only [phaseError]; split <;> split <;> omega

namespace RiuRange

variable {r : Riu}

/-- Writing a source record in range that keeps its priority keeps the ranges (R7). -/
theorem setSource (h : RiuRange r) {x : SourceId} {v : Source} (hv : SourceInRange v)
    (hp : v.priority = (r.source x).priority) : RiuRange (r.setSource x v) where
  source y := by
    rw [Riu.source_setSource]; split
    · exact hv
    · exact h.source y
  priorities := by
    have := h.priorities
    cases x <;> simp_all [Riu.setSource, Riu.source]

/-- The selection has no range (R11). -/
theorem selection (h : RiuRange r) (o : Option SourceId) : RiuRange { r with selection := o } :=
  ⟨fun x => by have := h.source x; cases x <;> exact this, h.priorities⟩

/-- An accepted pulse keeps its source record in range (R9). -/
theorem accepted (h : RiuRange r) (x : SourceId) (now : Nat) {e : Int} (he : -5000000 ≤ e ∧ e ≤ 4999999) :
    RiuRange (r.setSource x ((r.source x).accepted now e)) := by
  obtain ⟨hp, hp', hd, -, hx, -⟩ := h.source x
  refine h.setSource ?_ ?_
  · simp only [Source.accepted]
    (repeat' split) <;> refine ⟨hp, hp', hd, by simp only; omega, hx, ?_⟩ <;>
      (rintro _ ⟨⟩; exact he)
  · simp only [Source.accepted]; (repeat' split) <;> rfl

/-- An extra pulse keeps its source record in range (R8). -/
theorem extra (h : RiuRange r) (x : SourceId) :
    RiuRange (r.setSource x { r.source x with extra := bump 255 (r.source x).extra }) := by
  obtain ⟨hp, hp', hd, hr, hx, he⟩ := h.source x
  exact h.setSource ⟨hp, hp', hd, hr, by simp only [bump]; split <;> omega, he⟩ rfl

/-- A loss keeps its source record in range (R10). -/
theorem lost (h : RiuRange r) (x : SourceId) :
    RiuRange (r.setSource x { r.source x with state := .absent, run := 0 }) := by
  obtain ⟨hp, hp', hd, -, hx, he⟩ := h.source x
  exact h.setSource ⟨hp, hp', hd, Nat.zero_le _, hx, he⟩ rfl

/-- The sources start afresh in range (R15, R17). -/
theorem restarted (h : RiuRange r) (o : Option SourceId) :
    RiuRange { refA := r.refA.restarted, refB := r.refB.restarted, selection := o } where
  source x := by
    obtain ⟨hp, hp', hd, -, -, -⟩ := h.source x
    cases x <;> exact ⟨hp, hp', hd, Nat.zero_le _, Nat.zero_le _, fun e he => by cases he⟩
  priorities := h.priorities

/-- Settings in range keep the source records in range and the priorities apart (R12). -/
theorem configure (h : RiuRange r) (x : SourceId) (en : Bool) {p d : Nat} (hp : 1 ≤ p ∧ p ≤ 2) (hd : d ≤ 65535) :
    RiuRange (r.configure x en p d) := by
  have sum : (r.source x).priority + (r.source (otherSource x)).priority = 3 := by
    have := h.priorities
    cases x <;> simp only [Riu.source, otherSource] <;> omega
  obtain ⟨lo, hi, -, hr, hx, he⟩ := h.source x
  obtain ⟨lo', hi', hd', hr', hx', he'⟩ := h.source (otherSource x)
  have new : SourceInRange ((r.configure x en p d).source x) := by
    rw [configure_source]; split
    · exact ⟨hp.1, hp.2, hd, hr, hx, he⟩
    · exact ⟨hp.1, hp.2, hd, Nat.zero_le _, hx, by simp [Source.fresh]⟩
  have other : SourceInRange ((r.configure x en p d).source (otherSource x)) := by
    rw [configure_other]; split
    · exact ⟨by simp only; omega, by simp only; omega, hd', hr', hx', he'⟩
    · exact h.source _
  have mine := configure_priority r x en p d
  have theirs := configure_otherPriority en d sum (by omega) hp
  refine ⟨fun y => ?_, ?_⟩
  · cases x <;> cases y <;> first | exact new | exact other
  · cases x <;> simp only [Riu.source, otherSource] at mine theirs <;> omega

end RiuRange

/-! ### What keeps the time of a state in range -/

/-- The ranges of a state's time are read from the Timebase and the sources alone. -/
theorem TimeSound.congr {s t : State} (h : TimeSound s) (tb : t.tb = s.tb) (riu : t.riu = s.riu) :
    TimeSound t := by
  obtain ⟨ht, hr, ag⟩ := h
  exact ⟨tb ▸ ht, riu ▸ hr, by unfold SelectionAgrees at *; rw [tb, riu]; exact ag⟩

/-- Whether the selection agrees is read from the selection and the timebase state alone (R19). -/
theorem agrees_congr {s t : State} (sel : t.riu.selection = s.riu.selection) (st : t.tb.state = s.tb.state)
    (h : SelectionAgrees s) : SelectionAgrees t := by
  unfold SelectionAgrees at *; rw [sel, st]; exact h

/-- The Timebase stays in range when it is told of a change of the selection (R26). -/
theorem tbRange_of_told {s t : State} (h : TbRange s.tb) (told : SelectionTold s t) : TbRange t.tb := by
  obtain ⟨same, changed⟩ := told
  by_cases e : t.riu.selection = s.riu.selection
  · rw [(same e).1]; exact h
  · obtain ⟨-, fromNone, other, hold, free⟩ := changed e
    have cleared := h.clearRuns.reported t.tb.reported
    by_cases hs : s.riu.selection = none
    · rw [fromNone hs]; exact cleared.acquired
    · by_cases ht : t.riu.selection = none
      · by_cases l : s.tb.state = .locked ∨ s.tb.lockHeld = true
        · rw [(hold ht l).1]; exact cleared.letGo (x := .holdover) (by decide)
        · push Not at l
          rw [(free ht l.1 (by simpa using l.2)).1]; exact cleared.letGo (x := .free) (by decide)
      · rw [(other hs ht).1]; exact cleared

/-- Evaluating the selection keeps the time in range (R11, R26). -/
theorem TimeSound.evalSelection {s : State} (h : TimeSound s) : TimeSound (evalSelection s) := by
  obtain ⟨tb, riu, ag⟩ := h
  have told := evalSelection_told ag
  exact ⟨tbRange_of_told tb told, by rw [evalSelection_riu]; exact riu.selection _, agrees_of_told ag told⟩

/-- A source record in range may be written before the selection is evaluated (R8 to R10). -/
theorem TimeSound.setSource {s : State} (h : TimeSound s) {x : SourceId} {v : Source}
    (hr : RiuRange (s.riu.setSource x v)) : TimeSound { s with riu := s.riu.setSource x v } :=
  ⟨h.tb, hr, agrees_congr (s := s) (by simp) rfl h.agrees⟩

/-- A Timebase in range may be written where the timebase state stays as it is. -/
theorem TimeSound.setTb {s : State} (h : TimeSound s) {t : State} (ht : TbRange t.tb)
    (st : t.tb.state = s.tb.state) (riu : t.riu = s.riu) : TimeSound t :=
  ⟨ht, riu ▸ h.riu, agrees_congr (by rw [riu]) st h.agrees⟩

/-- A Timebase in range may be written where a source is and stays selected. -/
theorem TimeSound.setTb_selected {s : State} (h : TimeSound s) {t : State} (ht : TbRange t.tb)
    (sel : s.riu.selection ≠ none) (st : t.tb.state = .acquire ∨ t.tb.state = .locked) (riu : t.riu = s.riu) :
    TimeSound t := by
  refine ⟨ht, riu ▸ h.riu, ?_⟩
  unfold SelectionAgrees
  rw [riu]
  rcases st with st | st <;> simp [st, sel]

/-! ### The loop (R20 to R28) -/

/-- In LOCKED the uncertainty of a pulse stays in range (R28). -/
theorem TbRange.lockedUncertainty {s : State} (h : TbRange s.tb) {e : Int} (he : -5000000 ≤ e ∧ e ≤ 4999999) :
    TbRange (lockedUncertainty e s).tb := by
  unfold Machine.lockedUncertainty
  split
  · rename_i l
    rw [evalQuality_tb]
    exact { h with uncertainty := by simp only; omega, acquire := fun e' => by simp [l] at e' }
  · exact h

/-- The time after a step is in range, and the Timebase in ACQUIRE (R25). -/
theorem TbRange.stepPhase {s : State} (h : TbRange s.tb) {e : Int} (he : -5000000 ≤ e ∧ e ≤ 4999999) :
    TbRange (stepPhase e s).tb ∧ (stepPhase e s).tb.state = .acquire := by
  have moved := (h.stepped he).clearRuns.acquired
  constructor
  · simp only [Machine.stepPhase, takeTimeOfDay_frame, evalQuality_tb, raise_frame]
    exact { moved with holdBack := by simp, trimRem := Nat.zero_le _, trim := moved.freq }
  · simp [Machine.stepPhase, evalQuality_tb, Timebase.acquire]

/-- An outlier that makes no step is counted in range (R21). -/
theorem TbRange.countOutlier {t : Timebase} (h : TbRange t) {e : Int} (he : -5000000 ≤ e ∧ e ≤ 4999999)
    (hn : ¬ (t.chains e ∧ 2 ≤ t.outlierRun)) :
    TbRange (if t.chains e then { t with outlierRun := t.outlierRun + 1 }
      else { t with outlierRun := 1, firstOutlier := some e }) := by
  split
  · rename_i c
    have few : ¬ 2 ≤ t.outlierRun := fun l => hn ⟨c, l⟩
    have some : t.firstOutlier ≠ none := fun e' => by simp [Timebase.chains, e'] at c
    exact { h with outlierRun := by simp only; omega, firstAbsent := by simpa using some }
  · exact { h with
      outlierRun := show 1 ≤ 2 by decide, firstAbsent := by simp
      firstOutlier := by rintro _ ⟨⟩; exact he }

/-- In ACQUIRE an outlier ends the lock run (R27). -/
theorem TbRange.endLocks {t : Timebase} (h : TbRange t) :
    TbRange (if t.state = .acquire then { t with lockRun := 0 } else t) := by
  split
  · exact { h with lockRun := Nat.zero_le _ }
  · exact h

/-- A small error in ACQUIRE is counted in range (R27). -/
theorem TbRange.countLock {s : State} (h : TbRange s.tb) (e : Int) : TbRange (countLock e s).tb := by
  unfold Machine.countLock
  (repeat' split)
  · exact { h with lockRun := show 8 ≤ 8 by decide, acquire := fun e' => nomatch e' }
  · exact { h with lockRun := by simp only; omega }
  · exact { h with lockRun := Nat.zero_le _ }
  · exact h

/-- Counting a small error leads from ACQUIRE to LOCKED at most (R27). -/
theorem countLock_state {s : State} (e : Int) (h : s.tb.state = .acquire ∨ s.tb.state = .locked) :
    (countLock e s).tb.state = .acquire ∨ (countLock e s).tb.state = .locked := by
  unfold countLock
  (repeat' split)
  · exact .inr rfl
  all_goals exact h

/-- While a source is selected the timebase state is ACQUIRE or LOCKED (R19). -/
theorem selected_state {s : State} (ag : SelectionAgrees s) (sel : s.riu.selection ≠ none) :
    s.tb.state = .acquire ∨ s.tb.state = .locked := by
  have := (not_congr ag).mp sel
  cases h : s.tb.state <;> simp_all

/-- The time stays in range through a pulse of the selected source (R20 to R28). -/
theorem TimeSound.selectedPulse {s : State} (h : TimeSound s) (sel : s.riu.selection ≠ none) {e : Int}
    (he : -5000000 ≤ e ∧ e ≤ 4999999) : TimeSound (selectedPulse e s) := by
  have tb := h.tb
  unfold Machine.selectedPulse
  split
  · unfold takeOutlier
    split
    · obtain ⟨r, st⟩ := tb.stepPhase he
      exact h.setTb_selected r sel (.inl st) (by simp)
    · rename_i hn
      have counted := tb.countOutlier he hn
      refine h.setTb (TbRange.lockedUncertainty (s := { s with tb := _ }) ?_ he) ?_ (by simp)
      · exact counted.endLocks
      · simp only [lockedUncertainty_tb]
        (repeat' split) <;> rfl
  · have looped : TbRange (Timebase.loopUpdate { s.tb with outlierRun := 0, firstOutlier := none } e) :=
      TbRange.loopUpdate (t := { s.tb with outlierRun := 0, firstOutlier := none })
        { tb with outlierRun := Nat.zero_le _, firstAbsent := by simp, firstOutlier := by simp } e
    have st : (takeInlier e s).tb.state = .acquire ∨ (takeInlier e s).tb.state = .locked := by
      simp only [takeInlier, lockedUncertainty_tb]
      exact countLock_state e (selected_state h.agrees sel)
    exact h.setTb_selected
      ((TbRange.countLock (s := { s with tb := _ }) looped e).lockedUncertainty he) sel st (by simp)

/-- The time stays in range where the pulse goes on to the loop if its source is selected (R9). -/
theorem TimeSound.thenSelected {s : State} (h : TimeSound s) {x : SourceId} {e : Int}
    (he : -5000000 ≤ e ∧ e ≤ 4999999) :
    TimeSound (if s.riu.selection = some x then Machine.selectedPulse e s else s) := by
  split
  · rename_i sel
    exact h.selectedPulse (by simp [sel]) he
  · exact h

/-- The time stays in range through an accepted pulse (R9, R18). -/
theorem TimeSound.acceptPulse {s : State} (h : TimeSound s) (x : SourceId) : TimeSound (acceptPulse x s) := by
  obtain ⟨tb, riu, -⟩ := id h
  have he := phaseError_range tb.present.frac (riu.source x).2.2.1
  have evaluated := (h.setSource (riu.accepted x s.elapsed he)).evalSelection
  unfold Machine.acceptPulse
  exact evaluated.thenSelected (x := x) he

/-! ### The boundary, the starts and the commands (R4, R6, R12, R13, R30, R34, R36) -/

/-- The time stays in range through a local second boundary (R4, R23, R29). -/
theorem TimeSound.boundaryPeriod {s : State} (h : TimeSound s) : TimeSound (boundaryPeriod s) := by
  have tb := h.tb
  have ha := tb.applied_bounds
  have grown : TbRange (evalQuality { s with tb := { s.tb.takeTrim.grow with boundaryDue := false } }).tb := by
    rw [evalQuality_tb]
    exact (tb.takeTrim.grow.boundaryDue _).reported _
  refine h.setTb ?_ (boundaryPeriod_tb s).2.2.2.2.2.1 (by simp)
  simp only [Machine.boundaryPeriod]
  split
  · rw [(takeTimeOfDay_frame _).1]
    exact grown.advanced (by omega)
  · exact grown.setHoldBack (by rintro _ ⟨⟩; omega)

/-- The time stays in range through the period that ends a hold-back (R4). -/
theorem TimeSound.holdBackEndPeriod {s : State} (h : TimeSound s) : TimeSound (holdBackEndPeriod s) := by
  have tb := h.tb
  refine h.setTb ?_ (by simp) (by simp)
  simp only [Machine.holdBackEndPeriod, takeTimeOfDay_frame]
  exact (tb.advanced (by decide)).setHoldBack (by simp)

/-- The time stays in range through a watch cycle (R6). -/
theorem TimeSound.watchStep {s : State} (h : TimeSound s) : TimeSound (watchStep s) := by
  refine h.setTb ?_ (by simp) (by simp)
  unfold Machine.watchStep; split
  · exact h.tb.watchCycle
  · exact h.tb

/-- The time stays in range through a SET_TIME (R13, R31). -/
theorem TimeSound.askSetTime {s : State} (h : TimeSound s) {x : Nat} (hx : x < 2 ^ 32) (f n : Nat) :
    TimeSound (askSetTime x f n s).1 := by
  obtain ⟨tb, -, ag⟩ := id h
  refine h.setTb ?_ (by simp) (by simp)
  have sec : x ≤ 4294967295 := by omega
  unfold Machine.askSetTime
  split
  · exact tb
  · split
    · simp only [takeTimeOfDay_frame, evalQuality_tb]
      exact { tb with seconds := sec }
    · rename_i hf _ sel
      have free : s.tb.state ≠ .acquire := fun e => by simp [SelectionAgrees, sel, e] at ag
      have u : clamp 10000 maxUncertainty n ≤ 4000000000 := by simp only [clamp, maxUncertainty]; omega
      simp only [takeTimeOfDay_frame, evalQuality_tb]
      exact { tb with
        seconds := sec, frac := by simp only; omega, holdBack := by simp, uncertainty := u
        growthRem := Nat.zero_le _, acquire := fun e => absurd e free }

/-- The time stays in range through a broadcast SET_TIME (R173). -/
theorem TimeSound.broadcastSetTime {s : State} (h : TimeSound s) {x : Nat} (hx : x < 2 ^ 32) (f n : Nat) :
    TimeSound (broadcastSetTime x f n s) := by
  unfold Machine.broadcastSetTime; split
  · exact h.askSetTime hx f n
  · exact h

/-- The time stays in range through a SET_REFERENCE (R12). -/
theorem TimeSound.askSetReference {s : State} (h : TimeSound s) (x e p : Nat) {d : Nat} (hd : d < 2 ^ 16) :
    TimeSound (askSetReference x e p d s).1 := by
  unfold Machine.askSetReference
  split
  · refine TimeSound.evalSelection ?_
    obtain ⟨tb, riu, ag⟩ := h
    exact ⟨tb, riu.configure _ _ (by unfold clamp; omega) (by omega),
      agrees_congr (s := s) (by simp [Riu.configure]) rfl ag⟩
  · exact h

/-- The time stays in range through a SET_LOOP (R34). -/
theorem TimeSound.askSetLoop {s : State} (h : TimeSound s) (k x r : Nat) :
    TimeSound (askSetLoop k x r s).1 := by
  have tb := h.tb
  refine h.setTb ?_ (by simp) (by simp)
  have within (lo hi v : Nat) (hl : lo ≤ hi) : lo ≤ clamp lo hi v ∧ clamp lo hi v ≤ hi := by unfold clamp; omega
  exact { tb with
    loopExp := within 3 8 k (by decide), stepThreshold := within 1000 1000000 x (by decide)
    holdRate := within 1 10000 r (by decide) }

/-- With no source selected in FREE or HOLDOVER the selection agrees (R19). -/
theorem agrees_of_none {s : State} (sel : s.riu.selection = none) (st : s.tb.state = .free ∨ s.tb.state = .holdover) :
    SelectionAgrees s := by simp [SelectionAgrees, sel, st]

/-- The time stays in range through a group T reset (R15, R36). -/
theorem TimeSound.resetT {s : State} (h : TimeSound s) : TimeSound (resetT s) := by
  obtain ⟨tb, riu, -⟩ := id h
  have reset : TimeSound { s with
      riu := { refA := s.riu.refA.restarted, refB := s.riu.refB.restarted, selection := none }
      tb := s.tb.resetT } :=
    ⟨tb.resetT, riu.restarted _, agrees_of_none rfl (.inl rfl)⟩
  unfold Machine.resetT
  split
  · exact reset.congr (by simp) (by simp)
  · exact reset

/-- The Timebase after a warm start: the discipline record starts again, with the class derived afresh (R30, R33). -/
theorem warmStart_tb_eq (a : BitVec 5) (f : Bool) (d : Nat) (s : State) :
    (warmStart a f d s).tb = { s.tb.warmStarted d with reported := (s.tb.warmStarted d).quality } := by
  simp only [warmStart, driveOutputs_frame, raise_frame, warmShift_frame, restartInputs_frame,
    holdupIfAsserted_frame, warmStore_frame, warmAccounts_frame, warmGroups_frame, warmTimebase, evalQuality_tb]
  split <;> simp

/-- The sources after a warm start begin again with none selected (R17). -/
theorem warmStart_riu_eq (a : BitVec 5) (f : Bool) (d : Nat) (s : State) :
    (warmStart a f d s).riu =
      { refA := s.riu.refA.restarted, refB := s.riu.refB.restarted, selection := none } := by
  simp only [warmStart, driveOutputs_frame, raise_frame, warmShift_frame, restartInputs_frame,
    holdupIfAsserted_frame, warmStore_frame, warmAccounts_frame, warmGroups_frame, warmTimebase, evalQuality_frame]
  split <;> simp

/-- The time stays in range through a warm start (R17, R30). -/
theorem TimeSound.warmStart {s : State} (h : TimeSound s) (a : BitVec 5) (f : Bool) (d : Nat) :
    TimeSound (warmStart a f d s) := by
  obtain ⟨tb, riu, -⟩ := id h
  refine ⟨warmStart_tb_eq a f d s ▸ (tb.warmStarted d).reported _, warmStart_riu_eq a f d s ▸ riu.restarted _,
    agrees_of_none ?_ ?_⟩
  · rw [warmStart_riu_eq]
  · rw [warmStart_tb_eq]
    simp only [Timebase.warmStarted, Timebase.letGo]; split <;> simp

/-- The Timebase and the sources after a cold start are those of reset (R16, R36). -/
theorem coldStart_time (a : BitVec 5) (f : Bool) (s : State) :
    (coldStart a f s).tb = State.reset.tb ∧ (coldStart a f s).riu = State.reset.riu := by
  simp [coldStart, coldBlocks]

/-- The time after reset is in range (R16, R36). -/
theorem timeSound_reset : TimeSound State.reset := (timeInRange_iff _).mp (by decide)

end Sys2Proof.Proofs
end

section
/-! PROOFS. Which steps reach the Timebase and the Reference Input Unit, and that every step keeps their ranges, a
hold-back and a due boundary at the end of a second, and the elapsed count from falling. -/

namespace Sys2Proof.Proofs

open Sys2Proof.Machine Sys2Proof.Safety

/-! ### The time is touched by few requests and few events -/

/-- Nothing of the time differs: neither the Timebase, nor the sources, nor whether the part works. -/
structure SameTime (s t : State) : Prop where
  tb : t.tb = s.tb
  riu : t.riu = s.riu
  powered : t.powered = s.powered

/-- Whether the part works is read from the Supply Monitor alone (R192). -/
theorem powered_congr {s t : State} (h : t.spm = s.spm) : t.powered = s.powered := by unfold State.powered; rw [h]

/-- What a block's act does to the time, act by act: SET_TIME, SET_REFERENCE, SET_LOOP and the group T reset alone
touch it (R12, R13, R34, R36). -/
theorem blockAct_time {act : State → State × Answer} (h : BlockAct act) (s : State) :
    SameTime s (act s).1
      ∨ (∃ x f n, x < 2 ^ 32 ∧ act = askSetTime x f n)
      ∨ (∃ x e p d, d < 2 ^ 16 ∧ act = askSetReference x e p d)
      ∨ (∃ k x r, act = askSetLoop k x r)
      ∨ act = askResetT := by
  cases h
  case setTime x f n hx _ _ => exact .inr (.inl ⟨x, f, n, hx, rfl⟩)
  case setReference x e p d _ _ _ hd => exact .inr (.inr (.inl ⟨x, e, p, d, hd, rfl⟩))
  case setLoop k x r _ _ _ => exact .inr (.inr (.inr (.inl ⟨k, x, r, rfl⟩)))
  case resetGroupT => exact .inr (.inr (.inr (.inr rfl)))
  all_goals exact .inl ⟨by simp, by simp, powered_congr (by simp)⟩


/-- The events that reach the time (R3, R4, R6, R8, R10, R196 to R198). -/
def isTimeEvent : Instr → Bool
  | .localSecondBoundary | .holdBackEnd | .dutySecondBoundary | .refPulse _ | .sourceLoss _ | .backupEntry
  | .mainSupplyReturn _ _ | .resetPin _ _ | .watchOscillatorCycle => true
  | _ => false

/-- The entry to HOLDUP writes the Supply Monitor's state, low-supply run and restore timer (R194). -/
theorem enterHoldup_spm (s : State) :
    (enterHoldup s).spm = { s.spm with supply := .holdup, lowRun := 0, restoreBy := none } := by simp [enterHoldup]

/-- A supply reading leaves the supply state in RUN or HOLDUP while the part works (R194, R195). -/
theorem takeReading_powered (v : Nat) (s : State) : (takeReading v s).powered = s.powered := by
  unfold takeReading startRestore
  cases h : s.spm.supply <;> dsimp only <;> (repeat' split) <;>
    simp [State.powered, h, enterHoldup_spm, stopRestore]
  all_goals rfl

/-- A sample leaves it open neither whether the part works (R192, R194). -/
theorem execSampleEvent_powered {c : Channel} {raw : BitVec 10} {s t : State} (h : execSampleEvent c raw s = .next t) :
    t.powered = s.powered := by
  rcases execSampleEvent_cases h with ⟨-, -, -, rfl⟩ | ⟨-, rfl⟩
  · cases c with
    | speed u => exact powered_congr (by simp [takeSample])
    | supply => simp only [takeSample, supplySample, takeReading_powered]; rfl
  · rfl

theorem execPfiEdge_powered {a : Bool} {s t : State} (h : execPfiEdge a s = .next t) : t.powered = s.powered := by
  obtain rfl := Host.Outcome.next.inj h
  simp only [Spm.edge]
  (repeat' split) <;> simp_all [State.powered]

/-- A confirmation of PFI leaves the supply state in RUN or HOLDUP while the part works (R194, R195). -/
theorem takePfi_powered (s : State) : (takePfi s).powered = s.powered := by
  unfold takePfi startRestore
  cases h : s.spm.supply <;> dsimp only <;> (repeat' split) <;>
    simp [State.powered, h, enterHoldup_spm, stopRestore]
  all_goals rfl

theorem execPfiConfirmation_powered {s t : State} (h : execPfiConfirmation s = .next t) :
    t.powered = s.powered := by
  obtain rfl := Host.Outcome.next.inj h
  split
  · rw [takePfi_powered]; rfl
  · rfl

theorem execRestoreExpiry_powered {s t : State} (h : execRestoreExpiry s = .next t) : t.powered = s.powered := by
  obtain rfl := Host.Outcome.next.inj h
  split
  · rename_i due
    have : s.powered = true := by
      unfold restoreDue at due; split at due <;> simp_all
    rw [this]; rfl
  · rfl

theorem execBackupRetentionLost_powered {s t : State} (h : execBackupRetentionLost s = .next t) :
    t.powered = s.powered := by
  obtain rfl := Host.Outcome.next.inj h
  split <;> rfl

/-- Every other event leaves the time as it is. -/
theorem event_sameTime {i : Instr} {s t : State} (ev : requestBytes i = none) (nf : i ≠ .frameEnd)
    (nt : isTimeEvent i = false) (e : exec i s = .next t) : SameTime s t := by
  cases i <;> first
    | (simp [requestBytes] at ev; done)
    | (simp [isTimeEvent] at nt; done)
    | (exact absurd rfl nf)
    | skip
  case replyComplete => constructor <;> simp [execReplyComplete_frame e, State.powered]
  case tripContactEdge => constructor <;> simp [execTripContactEdge_frame e, State.powered]
  case assertionConfirmation => constructor <;> simp [execAssertionConfirmation_frame e, State.powered]
  case releaseConfirmation => constructor <;> simp [execReleaseConfirmation_frame e, State.powered]
  case groupExpiry => constructor <;> simp [execGroupExpiry_frame e, State.powered]
  case unitContactEdge => constructor <;> simp [execUnitContactEdge_frame e, State.powered]
  case unitContactConfirmation => constructor <;> simp [execUnitContactConfirmation_frame e, State.powered]
  case busGrant => constructor <;> simp [execBusGrant_frame e, State.powered]
  case grantTimeout => constructor <;> simp [execGrantTimeout_frame e, State.powered]
  case transferComplete => constructor <;> simp [execTransferComplete_frame e, State.powered]
  case storeWriteCycleDone => constructor <;> simp [execStoreWriteCycleDone_frame e, State.powered]
  case notReadyTimeout => constructor <;> simp [execNotReadyTimeout_frame e, State.powered]
  case readBackComplete => constructor <;> simp [execReadBackComplete_frame e, State.powered]
  case grantWithdrawn => constructor <;> simp [execGrantWithdrawn_frame e, State.powered]
  case storeReadComplete => constructor <;> simp [execStoreReadComplete_frame e, State.powered]
  case commitPeriodExpiry => constructor <;> simp [execCommitPeriodExpiry_frame e, State.powered]
  case presenceExpiry => constructor <;> simp [execPresenceExpiry_frame e, State.powered]
  case linkByteReceived => constructor <;> simp [execLinkByteReceived_frame e, State.powered]
  case sampleEvent =>
    exact ⟨by simp [execSampleEvent_frame e], by simp [execSampleEvent_frame e], execSampleEvent_powered e⟩
  case pfiEdge =>
    exact ⟨by simp [execPfiEdge_frame e], by simp [execPfiEdge_frame e], execPfiEdge_powered e⟩
  case pfiConfirmation =>
    exact ⟨by simp [execPfiConfirmation_frame e], by simp [execPfiConfirmation_frame e], execPfiConfirmation_powered e⟩
  case restoreExpiry =>
    exact ⟨by simp [execRestoreExpiry_frame e], by simp [execRestoreExpiry_frame e], execRestoreExpiry_powered e⟩
  case backupRetentionLost =>
    exact ⟨by simp [execBackupRetentionLost_frame e], by simp [execBackupRetentionLost_frame e], execBackupRetentionLost_powered e⟩

/-! ### What each time event does -/

theorem next_inj {s t : State} (h : (Host.Outcome.next s : Result) = .next t) : t = s := (Host.Outcome.next.inj h).symm

/-- A tally second counts the boundary handed on and leaves the rest of the time as it is (R3). -/
theorem execDutySecondBoundary_time {s t : State} (h : execDutySecondBoundary s = .next t) :
    t.tb = { s.tb with dutyHanded := t.tb.dutyHanded } := by
  obtain rfl := next_inj h
  split <;> simp

/-- Handing a boundary on keeps the time in range (R3). -/
theorem TimeSound.dutyHanded {s t : State} (h : TimeSound s) (e : execDutySecondBoundary s = .next t) :
    TimeSound t := by
  have tb := execDutySecondBoundary_time e
  exact h.setTb (tb ▸ h.tb.dutyHanded _) (by rw [tb]) (execDutySecondBoundary_frame e).1

/-- Dropping the boundaries passed in BACKUP keeps the time in range (R3). -/
theorem TimeSound.skipBackupBoundaries {s : State} (h : TimeSound s) : TimeSound (skipBackupBoundaries s) :=
  h.setTb (h.tb.dutyHanded _) rfl rfl

/-- Every event keeps the time in range. -/
theorem event_timeSound {i : Instr} {s t : State} (ev : requestBytes i = none) (nf : i ≠ .frameEnd)
    (h : TimeSound s) (e : exec i s = .next t) : TimeSound t := by
  by_cases nt : isTimeEvent i = true
  · cases i <;> first
      | (simp [isTimeEvent] at nt; done)
      | skip
    case localSecondBoundary =>
      obtain rfl := next_inj e
      split
      · exact h.boundaryPeriod
      · exact h
    case holdBackEnd =>
      obtain rfl := next_inj e
      split
      · exact h.holdBackEndPeriod
      · exact h
    case dutySecondBoundary => exact h.dutyHanded e
    case refPulse x =>
      obtain rfl := next_inj e
      split
      · split
        · exact h.setSource (h.riu.extra x)
        · exact h.acceptPulse x
      · exact h
    case sourceLoss x =>
      obtain rfl := next_inj e
      split
      · exact (h.setSource (h.riu.lost x)).evalSelection
      · exact h
    case backupEntry =>
      obtain rfl := next_inj e
      split
      · exact h.setTb h.tb.stopped rfl rfl
      · exact h
    case mainSupplyReturn a f =>
      obtain rfl := next_inj e
      split
      · split
        · exact h.skipBackupBoundaries.warmStart a f _
        · obtain ⟨tb, riu⟩ := coldStart_time a f s
          exact timeSound_reset.congr tb riu
      · exact h
    case resetPin a f =>
      obtain rfl := next_inj e
      split
      · exact h.warmStart a f 0
      · exact h
    case watchOscillatorCycle =>
      obtain rfl := next_inj e
      exact h.watchStep
  · have same := event_sameTime ev nf (by simpa using nt) e
    exact h.congr same.tb same.riu

/-- The time that passes keeps the time in range. -/
theorem TimeSound.tick {s : State} (h : TimeSound s) : TimeSound (tick s) := by
  unfold Machine.tick
  split
  · split
    · unfold oscillatorPeriod
      split
      · exact h.holdBackEndPeriod
      · rename_i n hb
        have := h.tb.holdBack _ hb
        exact h.setTb (h.tb.setHoldBack (by rintro _ ⟨⟩; omega)) rfl rfl
      · split
        · exact h.setTb (h.tb.boundaryDue _) rfl rfl
        · exact h.setTb (h.tb.advanced (by decide)) rfl rfl
    · exact h.congr rfl rfl
  · exact h.watchStep

/-- Every request keeps the time in range. -/
theorem block_timeSound {act : State → State × Answer} (b : BlockAct act) {s : State} (h : TimeSound s) :
    TimeSound (act s).1 := by
  rcases blockAct_time b s with same | ⟨x, f, n, hx, rfl⟩ | ⟨x, e, p, d, hd, rfl⟩ | ⟨k, x, r, rfl⟩ | rfl
  · exact h.congr same.tb same.riu
  · exact h.askSetTime hx f n
  · exact h.askSetReference x e p hd
  · exact h.askSetLoop k x r
  · exact h.resetT

/-- Every step keeps the time in range (R1, R2, R4, R6, R7, R12, R19, R22, R23, R28). -/
theorem step_timeSound {s t : State} (h : TimeSound s) (e : step s = .next t) : TimeSound t :=
  step_keeps (P := TimeSound)
    (queue := fun _ _ h => h.congr rfl rfl)
    (reply := fun _ _ _ h => h.congr rfl rfl)
    (block := fun _ _ b _ h => block_timeSound b h)
    (broadcast := fun _ f n _ hx _ _ h => h.broadcastSetTime hx f n)
    (receiver := fun _ _ h => h.congr rfl rfl)
    (count := fun _ h => h.congr rfl rfl)
    (event := fun _ _ _ ev nf h e => event_timeSound ev nf h e)
    (time := fun _ h => h.tick) s t h e

end Sys2Proof.Proofs
end

section
/-! PROOFS. A hold-back and a due boundary stand at the end of a second, and the elapsed count does not fall
(R2, R4, R6). -/

namespace Sys2Proof.Proofs

open Sys2Proof.Machine Sys2Proof.Safety

/-! ### The fraction, the hold-back and the due boundary -/

/-- The place within the second stands as it was, and the part works or not as before. -/
structure SameSecond (s t : State) : Prop where
  frac : t.tb.frac = s.tb.frac
  holdBack : t.tb.holdBack = s.tb.holdBack
  boundaryDue : t.tb.boundaryDue = s.tb.boundaryDue
  powered : t.powered = s.powered

theorem SameTime.second {s t : State} (h : SameTime s t) : SameSecond s t :=
  ⟨by rw [h.tb], by rw [h.tb], by rw [h.tb], h.powered⟩

theorem SameSecond.hold {s t : State} (h : SameSecond s t) (hs : HoldBackSound s) : HoldBackSound t := by
  unfold HoldBackSound at *; rw [h.frac, h.holdBack, h.boundaryDue, h.powered]; exact hs

theorem SameSecond.boundary {s t : State} (h : SameSecond s t) (hs : BoundarySound s) : BoundarySound t := by
  unfold BoundarySound at *; rw [h.frac, h.holdBack, h.boundaryDue]; exact hs

/-- A request but SET_TIME leaves the place within the second as it is. -/
theorem blockAct_second {act : State → State × Answer} (h : BlockAct act) (s : State) :
    (∃ x f n, act = askSetTime x f n) ∨ SameSecond s (act s).1 := by
  rcases blockAct_time h s with h | ⟨x, f, n, -, rfl⟩ | ⟨x, e, p, d, -, rfl⟩ | ⟨k, x, r, rfl⟩ | rfl
  · exact .inr h.second
  · exact .inl ⟨x, f, n, rfl⟩
  all_goals exact .inr ⟨by simp, by simp, by simp, powered_congr (by simp)⟩

/-- Serving a request leaves the place within the second where its block does. -/
theorem serve_sameSecond {code : Nat} {d : Bool} {act : State → State × Answer} {s : State}
    (h : SameSecond s (act s).1) : SameSecond s (serve code d act s) := by
  rcases serve_cases code d act s with ⟨-, e⟩ | ⟨-, -, -, e⟩ | ⟨-, -, e⟩ <;> rw [e]
  · exact ⟨rfl, rfl, rfl, rfl⟩
  · exact ⟨rfl, rfl, rfl, rfl⟩
  · exact ⟨h.frac, h.holdBack, h.boundaryDue, h.powered⟩

/-- A command but SET_TIME leaves the place within the second as it is. -/
theorem command_sameSecond {i : Instr} {s t : State} (c : (requestBytes i).isSome = true)
    (ns : ∀ b x f n, i ≠ .setTime b x f n) (e : exec i s = .next t) : SameSecond s t := by
  cases i <;> first
    | (exfalso; revert c; simp [requestBytes]; done)
    | (exact absurd rfl (ns _ _ _ _))
    | (obtain rfl := next_inj e
       exact serve_sameSecond ⟨by simp, by simp, by simp, powered_congr (by simp)⟩)
    | skip
  case unknownCommand =>
    obtain rfl := next_inj e
    split
    · exact ⟨rfl, rfl, rfl, rfl⟩
    · exact serve_sameSecond ⟨rfl, rfl, rfl, rfl⟩

/-! ### SET_TIME and the pulses -/

/-- The place within the second that any event of its instant leaves: a hold-back at its end, and the boundary due or
not as it was. -/
structure Holds (s t : State) : Prop where
  sound : HoldBackSound t
  boundaryDue : t.tb.boundaryDue = s.tb.boundaryDue

/-- SET_TIME leaves a hold-back at the end of the second, or none (R4, R13). -/
theorem askSetTime_holds {s : State} (h : HoldBackSound s) (x f n : Nat) : Holds s (askSetTime x f n s).1 := by
  refine ⟨?_, by simp⟩
  have pw : (askSetTime x f n s).1.powered = s.powered := powered_congr (by simp)
  unfold HoldBackSound
  rw [pw, (askSetTime_tb x f n s).2.1]
  unfold askSetTime
  (repeat' split) <;> simp only [takeTimeOfDay_frame, evalQuality_tb]
  · exact h
  · exact h
  · exact ⟨by simp, fun b => ⟨by simp, (h.2 b).2⟩⟩

/-- A broadcast SET_TIME leaves a hold-back at the end of the second, or none (R4, R13, R173). -/
theorem broadcastSetTime_holds {s : State} (h : HoldBackSound s) (x f n : Nat) :
    Holds s (broadcastSetTime x f n s) := by
  unfold broadcastSetTime; split
  · exact askSetTime_holds h x f n
  · exact ⟨h, rfl⟩

/-- Any request leaves a hold-back at the end of the second, or none. -/
theorem block_holds {act : State → State × Answer} (b : BlockAct act) {s : State} (h : HoldBackSound s) :
    Holds s (act s).1 := by
  rcases blockAct_second b s with ⟨x, f, n, rfl⟩ | same
  · exact askSetTime_holds h x f n
  · exact ⟨same.hold h, same.boundaryDue⟩

theorem Holds.trans {s t u : State} (h : Holds s t) (h' : Holds t u) : Holds s u :=
  ⟨h'.sound, h'.boundaryDue.trans h.boundaryDue⟩

/-- The end of a frame leaves a hold-back at the end of the second, or none. -/
theorem frameEnd_holds {s t : State} (h : HoldBackSound s) (e : execFrameEnd s = .next t) : Holds s t :=
  frameEnd_keeps (P := Holds s)
    (reply := fun _ _ _ h => ⟨h.sound, h.boundaryDue⟩)
    (block := fun _ _ b _ h => h.trans (block_holds b h.sound))
    (broadcast := fun x f n _ _ _ _ h => h.trans (broadcastSetTime_holds h.sound x f n))
    (receiver := fun _ _ h => ⟨h.sound, h.boundaryDue⟩) (count := fun _ h => ⟨h.sound, h.boundaryDue⟩)
    ⟨h, rfl⟩ e

/-- A command leaves a hold-back at the end of the second, or none. -/
theorem command_holds {i : Instr} {s t : State} (h : HoldBackSound s) (c : (requestBytes i).isSome = true)
    (e : exec i s = .next t) : Holds s t :=
  command_keeps (P := Holds s)
    (reply := fun _ _ _ h => ⟨h.sound, h.boundaryDue⟩)
    (block := fun _ _ b _ h => h.trans (block_holds b h.sound))
    (broadcast := fun x f n _ _ _ _ h => h.trans (broadcastSetTime_holds h.sound x f n))
    ⟨h, rfl⟩ c e

/-- A pulse of the selected source steps out of a hold-back, or leaves the place within the second (R25). -/
theorem selectedPulse_second (e : Int) (s : State) :
    (selectedPulse e s).tb.holdBack = none
      ∨ (selectedPulse e s).tb.holdBack = s.tb.holdBack ∧ (selectedPulse e s).tb.frac = s.tb.frac := by
  unfold selectedPulse
  split
  · simp only [takeOutlier]
    split
    · exact .inl (by simp [stepPhase, evalQuality_tb])
    · refine .inr ?_
      simp only [lockedUncertainty_tb]
      (repeat' split) <;> exact ⟨rfl, rfl⟩
  · exact .inr (by simp)

/-- An accepted pulse leaves a hold-back at the end of the second, or none (R4, R9). -/
theorem acceptPulse_holds {s : State} (h : HoldBackSound s) (pw : s.powered = true) (x : SourceId) :
    Holds s (acceptPulse x s) := by
  refine ⟨⟨?_, fun b => ?_⟩, by simp⟩
  · simp only [acceptPulse]
    split
    · rename_i sel
      rcases selectedPulse_second (phaseError s.now.frac (s.riu.source x).delay) (evalSelection { s with
        riu := s.riu.setSource x ((s.riu.source x).accepted s.elapsed
          (phaseError s.now.frac (s.riu.source x).delay)) }) with none | ⟨hb, fr⟩
      · exact fun hn => absurd none hn
      · rw [hb, fr]; simpa using h.1
    · simpa using h.1
  · rw [powered_congr (s := s) (by simp), pw] at b; cases b

/-- A pulse leaves a hold-back at the end of the second, or none (R4, R8). -/
theorem refPulse_holds {x : SourceId} {s t : State} (h : HoldBackSound s) (e : execRefPulse x s = .next t) :
    Holds s t := by
  obtain rfl := next_inj e
  split
  · rename_i c
    split
    · exact ⟨h, rfl⟩
    · exact acceptPulse_holds h c.1 x
  · exact ⟨h, rfl⟩

/-! ### The boundary and the other time events -/

/-- A hold-back and a due boundary stand at the end of the second. -/
structure SecondSound (s : State) : Prop where
  hold : HoldBackSound s
  boundary : BoundarySound s

theorem SecondSound.same {s t : State} (hs : SecondSound s) (h : SameSecond s t) : SecondSound t :=
  ⟨h.hold hs.hold, h.boundary hs.boundary⟩

/-- With no boundary due only the hold-back and the fraction matter while the part works. -/
theorem secondSound_of_not_due {t : State} (pw : t.powered = true) (due : t.tb.boundaryDue = false)
    (hold : t.tb.holdBack ≠ none → t.tb.frac = 9999999) : SecondSound t :=
  ⟨⟨hold, fun b => by rw [pw] at b; cases b⟩, fun d => by rw [due] at d; cases d⟩

/-- A boundary that can be taken stands at the fraction 9,999,999 with no hold-back in progress (R4). -/
theorem boundaryReady_second {s : State} (h : BoundarySound s) (r : boundaryReady s = true) :
    s.powered = true ∧ s.tb.frac = 9999999 ∧ s.tb.holdBack = none := by
  unfold boundaryReady atBoundary at r
  simp only [Bool.and_eq_true, Bool.or_eq_true, decide_eq_true_eq, Option.isNone_iff_eq_none] at r
  exact ⟨r.1, r.2.elim h id⟩

/-- A boundary begins a hold-back at the fraction where it was taken, or begins none (R4). -/
theorem boundaryPeriod_second (s : State) :
    (boundaryPeriod s).tb.holdBack = s.tb.holdBack ∨ (boundaryPeriod s).tb.frac = s.tb.frac := by
  simp only [boundaryPeriod]
  split
  · left
    simp only [takeTimeOfDay_frame, Timebase.advanced_fields, evalQuality_tb, Timebase.takeTrim, Timebase.grow]
    split <;> rfl
  · right
    simp only [evalQuality_tb, Timebase.takeTrim, Timebase.grow]
    split <;> rfl

/-- The boundary leaves a hold-back at the end of the second (R4). -/
theorem boundaryPeriod_sound {s : State} (h : SecondSound s) (r : boundaryReady s = true) :
    SecondSound (boundaryPeriod s) := by
  obtain ⟨pw, fr, hb⟩ := boundaryReady_second h.boundary r
  refine secondSound_of_not_due (by rw [powered_congr (s := s) (by simp), pw]) (by simp) ?_
  rcases boundaryPeriod_second s with e | e
  · simp [e, hb]
  · exact fun _ => e.trans fr

/-- The end of a hold-back leaves none, and no boundary due (R4). -/
theorem holdBackEndPeriod_sound {s : State} (h : SecondSound s) (pw : s.powered = true)
    (hb : s.tb.holdBack ≠ none) : SecondSound (holdBackEndPeriod s) := by
  refine secondSound_of_not_due (by rw [powered_congr (s := s) (by simp), pw]) ?_ (by simp [holdBackEndPeriod])
  simp only [holdBackEndPeriod_tb]
  by_contra d
  exact hb (h.boundary (by simpa using d)).2

/-- In BACKUP a watch cycle passes with no hold-back and no boundary due (R6). -/
theorem watchStep_sound {s : State} (h : SecondSound s) : SecondSound (watchStep s) := by
  by_cases b : s.spm.supply = .backup ∧ s.spm.retained = true
  · obtain ⟨hb, due⟩ := h.hold.2 (by simp [State.powered, b.1])
    refine ⟨⟨?_, fun _ => ⟨?_, ?_⟩⟩, fun d => ?_⟩ <;> simp_all
  · unfold watchStep; rw [if_neg b]; exact h

/-- A start leaves the place within the second as it was, but that the part works from then on (R197). -/
theorem warmStart_sound {s : State} (h : SecondSound s) (a : BitVec 5) (f : Bool) (d : Nat) :
    SecondSound (warmStart a f d s) := by
  have pw : (warmStart a f d s).powered = true := by
    simp only [warmStart, State.powered, driveOutputs_frame, raise_frame, warmShift_frame, restartInputs_frame]
    unfold holdupIfAsserted
    split
    · rw [enterHoldup_spm]; rfl
    · simp [Spm.restarted]
  refine ⟨⟨by simpa using h.hold.1, fun b => by rw [pw] at b; cases b⟩, ?_⟩
  simpa [BoundarySound] using h.boundary

/-- Every event but a pulse leaves a hold-back and a due boundary at the end of the second. -/
theorem event_secondSound {i : Instr} {s t : State} (ev : requestBytes i = none) (nf : i ≠ .frameEnd)
    (np : ∀ x, i ≠ .refPulse x) (h : SecondSound s) (e : exec i s = .next t) : SecondSound t := by
  by_cases nt : isTimeEvent i = true
  · cases i <;> first
      | (simp [isTimeEvent] at nt; done)
      | skip
    case refPulse x => exact absurd rfl (np x)
    case localSecondBoundary =>
      obtain rfl := next_inj e
      split
      · rename_i r; exact boundaryPeriod_sound h r
      · exact h
    case holdBackEnd =>
      obtain rfl := next_inj e
      split
      · rename_i c; exact holdBackEndPeriod_sound h c.1 (by simp [c.2])
      · exact h
    case dutySecondBoundary =>
      have tb := execDutySecondBoundary_time e
      exact h.same ⟨by rw [tb], by rw [tb], by rw [tb], powered_congr (by simp [execDutySecondBoundary_frame e])⟩
    case sourceLoss x =>
      obtain rfl := next_inj e
      split
      · exact h.same ⟨by simp, by simp, by simp, powered_congr (by simp)⟩
      · exact h
    case backupEntry =>
      obtain rfl := next_inj e
      split
      · exact ⟨⟨by simp [enterBackup, Timebase.stopped], fun _ => ⟨rfl, rfl⟩⟩,
          fun d => by simp [enterBackup, Timebase.stopped] at d⟩
      · exact h
    case mainSupplyReturn a f =>
      obtain rfl := next_inj e
      split
      · split
        · have skipped : SecondSound (skipBackupBoundaries s) := h.same ⟨rfl, rfl, rfl, rfl⟩
          exact warmStart_sound skipped a f _
        · have tb := (coldStart_time a f s).1
          exact ⟨⟨by rw [tb]; simp [State.reset], fun _ => by rw [tb]; exact ⟨rfl, rfl⟩⟩,
            fun d => by rw [tb] at d; cases d⟩
      · exact h
    case resetPin a f =>
      obtain rfl := next_inj e
      split
      · exact warmStart_sound h a f 0
      · exact h
    case watchOscillatorCycle =>
      obtain rfl := next_inj e
      exact watchStep_sound h
  · exact h.same (event_sameTime ev nf (by simpa using nt) e).second

/-- While the part works a due boundary is among the due events (R4). -/
theorem not_due_of_dueEvents {s : State} (pw : s.powered = true) (h : dueEvents s = []) :
    s.tb.boundaryDue = false := by
  by_contra d
  simp [dueEvents, whenDue, pw, d] at h

/-- The passing of time leaves a hold-back and a due boundary at the end of the second (R4, R6). -/
theorem tick_sound {s : State} (h : SecondSound s) : SecondSound (tick s) := by
  unfold tick
  split
  · rename_i pw
    split
    · rename_i nothing
      have nd := not_due_of_dueEvents pw nothing
      unfold oscillatorPeriod
      split
      · rename_i hb; exact holdBackEndPeriod_sound h pw (by simp [hb])
      · rename_i n hb
        exact secondSound_of_not_due pw nd fun _ => h.hold.1 (by simp [hb])
      · rename_i hb
        split
        · rename_i b
          have fr : s.tb.frac = 9999999 := by simp [atBoundary] at b; exact b.1
          exact ⟨⟨fun _ => fr, fun b => absurd (b.symm.trans pw) (by decide)⟩, fun _ => ⟨fr, hb⟩⟩
        · exact secondSound_of_not_due pw (by simpa using nd) (by simp [hb])
    · exact h.same ⟨rfl, rfl, rfl, rfl⟩
  · exact watchStep_sound h

end Sys2Proof.Proofs
end

section
/-! PROOFS. The elapsed count does not fall (R2), and the invariants of the time together. -/

namespace Sys2Proof.Proofs

open Sys2Proof.Machine Sys2Proof.Safety

/-! ### The elapsed count (R2) -/

/-- Time that passes does not make the elapsed count less (R2). -/
theorem le_advanced_elapsed {t : Timebase} (h : t.elapsed ≤ 2 ^ 62) (n : Nat) :
    t.elapsed ≤ (t.advanced n).elapsed := by
  simp only [Timebase.advanced, advanceElapsed, addUpTo]; omega

/-- A request leaves the elapsed count as it is (R13). -/
theorem block_elapsed {act : State → State × Answer} (b : BlockAct act) (s : State) :
    (act s).1.tb.elapsed = s.tb.elapsed := by
  rcases blockAct_time b s with h | ⟨x, f, n, -, rfl⟩ | ⟨x, e, p, d, -, rfl⟩ | ⟨k, x, r, rfl⟩ | rfl
  · rw [h.tb]
  all_goals simp

/-- A frame leaves the elapsed count as it is (R13). -/
theorem frameEnd_elapsed {s t : State} (e : execFrameEnd s = .next t) : t.tb.elapsed = s.tb.elapsed :=
  frameEnd_keeps (P := fun u => u.tb.elapsed = s.tb.elapsed)
    (reply := fun _ _ _ h => h) (block := fun _ t b _ h => (block_elapsed b t).trans h)
    (broadcast := fun x f n t _ _ _ h => by simpa using h)
    (receiver := fun _ _ h => h) (count := fun _ h => h) rfl e

/-- A command leaves the elapsed count as it is (R13). -/
theorem command_elapsed {i : Instr} {s t : State} (c : (requestBytes i).isSome = true) (e : exec i s = .next t) :
    t.tb.elapsed = s.tb.elapsed :=
  command_keeps (P := fun u => u.tb.elapsed = s.tb.elapsed)
    (reply := fun _ _ _ h => h) (block := fun _ t b _ h => (block_elapsed b t).trans h)
    (broadcast := fun x f n t _ _ _ h => by simpa using h) rfl c e

/-- A local second boundary does not make the elapsed count less (R2, R4). -/
theorem le_boundaryPeriod_elapsed {s : State} (h : s.tb.elapsed ≤ 2 ^ 62) :
    s.tb.elapsed ≤ (boundaryPeriod s).tb.elapsed := by
  have kept : (evalQuality { s with tb := { s.tb.takeTrim.grow with boundaryDue := false } }).tb.elapsed
      = s.tb.elapsed := by
    simp only [evalQuality_tb, Timebase.takeTrim, Timebase.grow]; split <;> rfl
  simp only [boundaryPeriod]
  split
  · rw [(takeTimeOfDay_frame _).1]
    exact kept.symm.le.trans (le_advanced_elapsed (kept.le.trans h) _)
  · exact kept.symm.le

/-- The period that ends a hold-back does not make the elapsed count less (R2, R4). -/
theorem le_holdBackEndPeriod_elapsed {s : State} (h : s.tb.elapsed ≤ 2 ^ 62) :
    s.tb.elapsed ≤ (holdBackEndPeriod s).tb.elapsed := by
  simp only [holdBackEndPeriod, takeTimeOfDay_frame]
  exact le_advanced_elapsed h 1

/-- A watch cycle does not make the elapsed count less (R2, R6). -/
theorem le_watchStep_elapsed {s : State} (h : s.tb.elapsed ≤ 2 ^ 62) : s.tb.elapsed ≤ (watchStep s).tb.elapsed := by
  unfold watchStep; split
  · simp only [Timebase.watchCycle]
    exact le_advanced_elapsed h _
  · exact Nat.le_refl _

/-- The passing of time does not make the elapsed count less (R2). -/
theorem le_tick_elapsed {s : State} (h : s.tb.elapsed ≤ 2 ^ 62) : s.tb.elapsed ≤ (tick s).tb.elapsed := by
  unfold tick oscillatorPeriod
  split
  · split
    · split
      · exact le_holdBackEndPeriod_elapsed h
      · exact Nat.le_refl _
      · split
        · exact Nat.le_refl _
        · exact le_advanced_elapsed h 1
    · exact Nat.le_refl _
  · exact le_watchStep_elapsed h

/-- No event but a cold start makes the elapsed count less (R2, R198). -/
theorem le_event_elapsed {i : Instr} {s t : State} (ev : requestBytes i = none) (nf : i ≠ .frameEnd)
    (h : s.tb.elapsed ≤ 2 ^ 62) (e : exec i s = .next t) :
    s.tb.elapsed ≤ t.tb.elapsed
      ∨ ∃ a f, i = .mainSupplyReturn a f ∧ s.spm.supply = .backup ∧ s.spm.retained = false := by
  by_cases nt : isTimeEvent i = true
  · cases i <;> first
      | (simp [isTimeEvent] at nt; done)
      | skip
    case mainSupplyReturn a f =>
      obtain rfl := next_inj e
      by_cases lost : s.spm.supply = .backup ∧ s.spm.retained = false
      · exact .inr ⟨a, f, rfl, lost⟩
      · refine .inl ?_
        split
        · rename_i b
          rw [if_pos (by simpa [b] using lost), (warmStart_tb _ _ _ _).2.2.1]
          rfl
        · exact Nat.le_refl _
    all_goals refine .inl ?_
    case dutySecondBoundary => rw [execDutySecondBoundary_time e]
    all_goals obtain rfl := next_inj e
    case watchOscillatorCycle => exact le_watchStep_elapsed h
    all_goals split
    case localSecondBoundary.isTrue => exact le_boundaryPeriod_elapsed h
    case holdBackEnd.isTrue => exact le_holdBackEndPeriod_elapsed h
    case refPulse.isTrue => split <;> simp
    case sourceLoss.isTrue => simp
    case backupEntry.isTrue => exact Nat.le_refl _
    case resetPin.isTrue => simp
    all_goals exact Nat.le_refl _
  · rw [(event_sameTime ev nf (by simpa using nt) e).tb]
    exact .inl (Nat.le_refl _)

/-! ### Every step -/

/-- A hold-back stays at the end of the second through every step, and a due boundary too, unless a pulse or a SET_TIME
is taken before it. -/
theorem step_second {s t : State} (h : SecondSound s) (e : step s = .next t) :
    HoldBackSound t
      ∧ (BoundarySound t
        ∨ s.tb.boundaryDue = true ∧ ∃ i rest, s.pending = i :: rest
          ∧ (i = .frameEnd ∨ (∃ x, i = .refPulse x) ∨ ∃ b x f n, i = .setTime b x f n)) := by
  unfold step at e
  split at e
  · obtain rfl := next_inj e
    exact ⟨(tick_sound h).hold, .inl (tick_sound h).boundary⟩
  · rename_i i rest hp
    have h' : SecondSound { s with pending := rest } := h.same ⟨rfl, rfl, rfl, rfl⟩
    by_cases early : i = .frameEnd ∨ (∃ x, i = .refPulse x) ∨ ∃ b x f n, i = .setTime b x f n
    · have kept : Holds { s with pending := rest } t := by
        rcases early with rfl | ⟨x, rfl⟩ | ⟨b, x, f, n, rfl⟩
        · exact frameEnd_holds h'.hold e
        · exact refPulse_holds h'.hold e
        · exact command_holds h'.hold rfl e
      refine ⟨kept.sound, ?_⟩
      by_cases due : s.tb.boundaryDue = true
      · exact .inr ⟨due, i, rest, hp, early⟩
      · exact .inl fun d => absurd (kept.boundaryDue.symm.trans d) due
    · push Not at early
      obtain ⟨nf, np, ns⟩ := early
      have sound : SecondSound t := by
        by_cases c : (requestBytes i).isSome = true
        · exact h'.same (command_sameSecond c ns e)
        · exact event_secondSound (by simpa using c) nf np h' e
      exact ⟨sound.hold, .inl sound.boundary⟩

/-- No step but a cold start makes the elapsed count less (R2, R198). -/
theorem step_elapsed {s t : State} (h : s.tb.elapsed ≤ 2 ^ 62) (e : step s = .next t) :
    s.tb.elapsed ≤ t.tb.elapsed
      ∨ ∃ a f rest, s.pending = .mainSupplyReturn a f :: rest ∧ s.spm.supply = .backup ∧ s.spm.retained = false := by
  unfold step at e
  split at e
  · obtain rfl := next_inj e
    exact .inl (le_tick_elapsed h)
  · rename_i i rest hp
    by_cases c : (requestBytes i).isSome = true
    · exact .inl (command_elapsed c e).symm.le
    · by_cases nf : i = .frameEnd
      · subst nf; exact .inl (frameEnd_elapsed e).symm.le
      · refine (le_event_elapsed (s := { s with pending := rest }) (by simpa using c) nf h e).imp id ?_
        rintro ⟨a, f, rfl, lost⟩
        exact ⟨a, f, rest, hp, lost⟩

/-- Settles O7: the ranges by an invariant over the Timebase and the sources, the second and the elapsed count by cases
on the step. -/
theorem stepKeepsTimeInRange : Obligations.StepKeepsTimeInRange := by
  refine ⟨fun s t h e => ?_, fun s t hold boundary e => step_second ⟨hold, boundary⟩ e, fun s t h e => step_elapsed h e⟩
  rw [timeInRange_iff] at *
  exact step_timeSound h e

end Sys2Proof.Proofs
end

section
/-! PROOFS. The reference inputs: the selection, a loss, a pulse and the settings (R8 to R12, R18). -/

namespace Sys2Proof.Proofs

open Sys2Proof.Machine Sys2Proof.Safety

/-! ### The choice (R11) -/

/-- A source may be selected when it is enabled and QUALIFIED (R11). -/
theorem eligible_iff (v : Source) : v.eligible = true ↔ v.enable = true ∧ v.state = .qualified := by
  simp [Source.eligible]

/-- The choice falls on a source that may be selected and that no other one precedes (R11). -/
theorem choice_eq_some {r : Riu} (h : r.refA.priority ≠ r.refB.priority) (x : SourceId) :
    r.choice = some x ↔
      (r.source x).eligible = true
        ∧ ((r.source (otherSource x)).eligible = true → (r.source x).priority < (r.source (otherSource x)).priority) := by
  unfold Riu.choice
  cases x <;> cases hA : r.refA.eligible <;> cases hB : r.refB.eligible <;>
    simp [Riu.source, otherSource, hA, hB]
  all_goals omega

/-- There is no choice when no source may be selected (R11). -/
theorem choice_eq_none (r : Riu) : r.choice = none ↔ ∀ x, (r.source x).eligible = false := by
  have both : (∀ x, (r.source x).eligible = false) ↔ r.refA.eligible = false ∧ r.refB.eligible = false :=
    ⟨fun h => ⟨h .refA, h .refB⟩, fun h x => by cases x; exacts [h.1, h.2]⟩
  rw [both]
  unfold Riu.choice
  cases r.refA.eligible <;> cases r.refB.eligible <;> simp
  split <;> simp

/-! ### A source record written, and the selection evaluated -/

/-- The state with one source record written. -/
def withSource (s : State) (x : SourceId) (v : Source) : State := { s with riu := s.riu.setSource x v }

theorem evalSelection_source (s : State) (x : SourceId) : (evalSelection s).riu.source x = s.riu.source x := by
  rw [evalSelection_riu]; cases x <;> rfl

theorem evalSelection_choice (s : State) : (evalSelection s).riu.selection = (evalSelection s).riu.choice := by
  rw [evalSelection_riu]; rfl

/-- Evaluating the selection touches the Timebase, the selection and the notices alone (R11). -/
theorem evalSelection_only (s : State) :
    evalSelection s = { s with
      tb := (evalSelection s).tb, riu := (evalSelection s).riu, lnu := (evalSelection s).lnu } := by
  apply State.ext <;> simp

/-- The Timebase is told of the change of the selection that a source record's change brings (R11, R26). -/
theorem withSource_told {s : State} (ag : SelectionAgrees s) (x : SourceId) (v : Source) :
    SelectionTold s (evalSelection (withSource s x v)) :=
  selectionTold_congr (s := withSource s x v) (by simp [withSource]) rfl rfl
    (evalSelection_told (agrees_congr (s := s) (by simp [withSource]) rfl ag))

theorem withSource_source (s : State) (x y : SourceId) (v : Source) :
    (evalSelection (withSource s x v)).riu.source y = if y = x then v else s.riu.source y := by
  rw [evalSelection_source]; simp [withSource]

theorem withSource_only (s : State) (x : SourceId) (v : Source) :
    evalSelection (withSource s x v) = { s with
      tb := (evalSelection (withSource s x v)).tb, riu := (evalSelection (withSource s x v)).riu
      lnu := (evalSelection (withSource s x v)).lnu } :=
  evalSelection_only _

/-! ### The loss of a source (R10) -/

/-- A loss that is due makes its source ABSENT and evaluates the selection (R10). -/
theorem execSourceLoss_due {s : State} {x : SourceId} {p : Nat} (pw : s.powered = true)
    (st : (s.riu.source x).state ≠ .absent) (lp : (s.riu.source x).lastPulse = some p)
    (due : p + 15000000 ≤ s.elapsed) :
    exec (.sourceLoss x) s
      = .next (evalSelection (withSource s x { s.riu.source x with state := .absent, run := 0 })) := by
  have lost : (s.riu.source x).lossDue s.elapsed = true := by simp [Source.lossDue, lp, due, st]
  simp [exec, execSourceLoss, pw, lost, withSource]

/-- Settles O22: the choice by cases on which sources may be selected, the phase error by its arithmetic, and the loss
by what the Timebase is told of a change of the selection. -/
theorem selectionIsEvaluated : Obligations.SelectionIsEvaluated := by
  refine ⟨fun r h => ⟨fun x => ?_, ?_⟩, fun f d hf hd => ⟨?_, ?_, ?_, ?_⟩, fun s x p pw ag st lp due => ?_⟩
  · simp only [choice_eq_some h, eligible_iff, and_assoc, and_imp]
  · simp only [choice_eq_none, ← eligible_iff, Bool.not_eq_true]
  · exact (phaseError_range hf hd).1
  · exact (phaseError_range hf hd).2
  · simp only [phaseError]; split <;> split <;> omega
  · rintro rfl; simp only [phaseError]; split <;> split <;> omega
  · exact ⟨_, execSourceLoss_due pw st lp due, by simp [withSource_source],
      by simp [withSource_source, otherSource_ne], evalSelection_choice _, withSource_told ag _ _,
      withSource_only _ _ _⟩

/-! ### A pulse (R8, R9, R18) -/

/-- The source record after a pulse that counts as an extra one (R8). -/
theorem execRefPulse_extra {s : State} {x : SourceId} {p : Nat} (pw : s.powered = true)
    (en : (s.riu.source x).enable = true) (lp : (s.riu.source x).lastPulse = some p)
    (early : s.elapsed < p + 5000000) :
    exec (.refPulse x) s
      = .next (withSource s x { s.riu.source x with extra := bump 255 (s.riu.source x).extra }) := by
  have extra : (s.riu.source x).isExtra s.elapsed = true := by simp [Source.isExtra, lp, early]
  simp [exec, execRefPulse, pw, en, extra, withSource]

/-- Any other pulse of an enabled source is accepted (R8). -/
theorem execRefPulse_accepted {s : State} {x : SourceId} (pw : s.powered = true)
    (en : (s.riu.source x).enable = true)
    (late : ∀ p, (s.riu.source x).lastPulse = some p → p + 5000000 ≤ s.elapsed) :
    exec (.refPulse x) s = .next (acceptPulse x s) := by
  have extra : (s.riu.source x).isExtra s.elapsed = false := by
    unfold Source.isExtra; split
    · rename_i p lp; simpa using late p lp
    · rfl
  simp [exec, execRefPulse, pw, en, extra]

/-- The source record of an accepted pulse: what it measures (R9, R18). -/
theorem accepted_measures (v : Source) (now : Nat) (e : Int) :
    (v.accepted now e).lastPulse = some now ∧ (v.accepted now e).lastError = some e
      ∧ (v.accepted now e).extra = v.extra := by
  simp only [Source.accepted]; (repeat' split) <;> exact ⟨rfl, rfl, rfl⟩

/-- A spaced pulse adds to the run, of which the eighth qualifies the source (R9). -/
theorem accepted_spaced {v : Source} {now p : Nat} (e : Int) (lp : v.lastPulse = some p)
    (lo : p + 9998000 ≤ now) (hi : now ≤ p + 10002000) :
    (v.run < 7 → (v.accepted now e).run = v.run + 1 ∧ (v.accepted now e).state = .candidate)
      ∧ (7 ≤ v.run → (v.accepted now e).run = 8 ∧ (v.accepted now e).state = .qualified) := by
  have spaced : v.isSpaced now = true := by simp [Source.isSpaced, lp, lo, hi]
  simp only [Source.accepted, spaced, if_true]
  constructor
  · intro h; rw [if_pos h]; exact ⟨rfl, rfl⟩
  · intro h; rw [if_neg (by omega)]; exact ⟨rfl, rfl⟩

/-- A pulse that is not spaced begins a new run (R9). -/
theorem accepted_unspaced {v : Source} {now : Nat} (e : Int)
    (far : ∀ p, v.lastPulse = some p → now < p + 9998000 ∨ p + 10002000 < now) :
    (v.accepted now e).run = 1 ∧ (v.accepted now e).state = .candidate := by
  have spaced : v.isSpaced now = false := by
    unfold Source.isSpaced; split
    · rename_i p lp
      have := far p lp
      simp only [Bool.and_eq_false_iff, decide_eq_false_iff_not]; omega
    · rfl
  simp [Source.accepted, spaced]

/-- The state in which an accepted pulse has been measured and the selection evaluated (R9, R11). -/
def measured (x : SourceId) (s : State) : State :=
  evalSelection (withSource s x
    ((s.riu.source x).accepted s.elapsed (phaseError s.now.frac (s.riu.source x).delay)))

/-- An accepted pulse goes on to the loop if its source is selected then (R9). -/
theorem acceptPulse_eq (x : SourceId) (s : State) :
    acceptPulse x s =
      if (measured x s).riu.selection = some x then
        selectedPulse (phaseError s.now.frac (s.riu.source x).delay) (measured x s)
      else measured x s := rfl

/-- The loop leaves the sources and the selection as they were evaluated (R9). -/
theorem acceptPulse_riu (x : SourceId) (s : State) : (acceptPulse x s).riu = (measured x s).riu := by
  rw [acceptPulse_eq]; split <;> simp

/-- A pulse touches the Timebase, the sources, the time of day and the notices alone (R9). -/
theorem acceptPulse_only (x : SourceId) (s : State) :
    acceptPulse x s = { s with
      tb := (acceptPulse x s).tb, riu := (acceptPulse x s).riu, shc := (acceptPulse x s).shc
      lnu := (acceptPulse x s).lnu } := by
  apply State.ext <;> simp

theorem measured_source (x y : SourceId) (s : State) :
    (measured x s).riu.source y =
      if y = x then (s.riu.source x).accepted s.elapsed (phaseError s.now.frac (s.riu.source x).delay)
      else s.riu.source y := withSource_source _ _ _ _

/-- Settles O23: an early pulse is an extra one; any other is measured by `Source.accepted`, and goes on to the loop
only where its source is selected then. -/
theorem pulsesAreAcceptedOrExtra : Obligations.PulsesAreAcceptedOrExtra := by
  intro s x pw en ag v
  refine ⟨fun p lp early => ?_, fun late => ⟨_, execRefPulse_accepted pw en late, ?_⟩⟩
  · rw [execRefPulse_extra pw en lp early]; rfl
  · have mine : (acceptPulse x s).riu.source x
        = v.accepted s.elapsed (phaseError s.now.frac v.delay) := by
      rw [acceptPulse_riu, measured_source, if_pos rfl]
    obtain ⟨hp, he, hx⟩ := accepted_measures v s.elapsed (phaseError s.now.frac v.delay)
    rw [mine]
    refine ⟨hp, he, hx, ?_, fun far => accepted_unspaced _ far, ?_, ?_, by simp, ?_, acceptPulse_only x s⟩
    · rintro ⟨p, lp, lo, hi⟩; exact accepted_spaced _ lp lo hi
    · rw [acceptPulse_riu, measured_source, if_neg (otherSource_ne x)]
    · rw [acceptPulse_riu]; exact evalSelection_choice _
    · rw [acceptPulse_riu]
      intro other
      rw [acceptPulse_eq, if_neg other]
      exact ⟨withSource_told ag _ _, by simp [measured, withSource]⟩

/-! ### SET_REFERENCE (R12) -/

/-- An enable code of 0 or 1 gives its value (R12). -/
theorem flagOf?_of_le {e : Byte} (h : e.toNat ≤ 1) : flagOf? e.toNat = some (e == 1#8) := by
  have : e = 0#8 ∨ e = 1#8 := by
    have : e.toNat = 0 ∨ e.toNat = 1 := by omega
    exact this.imp (fun h => BitVec.eq_of_toNat_eq h) (fun h => BitVec.eq_of_toNat_eq h)
  rcases this with rfl | rfl <;> rfl

/-- A code with two values refuses any other (R12). -/
theorem flagOf?_of_gt {n : Nat} (h : 1 < n) : flagOf? n = none := by
  unfold flagOf?; split <;> first | omega | rfl

/-- A key of a source but 1 and 2 names none (R12). -/
theorem sourceOf?_eq_none {n : Nat} (h : n = 0 ∨ 2 < n) : sourceOf? n = none := by
  unfold sourceOf?; split <;> first | omega | rfl

/-- The state with the settings of one source written, and the selection evaluated (R12). -/
def configured (s : State) (x : SourceId) (en : Bool) (p d : Nat) : State :=
  evalSelection { s with riu := s.riu.configure x en p d }

/-- SET_REFERENCE with codes that have a meaning (R12). -/
theorem askSetReference_eq {a e : Nat} {x : SourceId} {en : Bool} (hx : sourceOf? a = some x)
    (he : flagOf? e = some en) (p d : Nat) (s : State) :
    askSetReference a e p d s =
      (configured s x en (clamp 1 2 p) d,
       { status := okOrClamped (clamp 1 2 p != p)
         body := settingsBytes (configured s x en (clamp 1 2 p) d).riu.refA
           ++ settingsBytes (configured s x en (clamp 1 2 p) d).riu.refB }) := by
  simp [askSetReference, hx, he, configured]

/-- SET_REFERENCE with a key or a code that has no meaning (R12). -/
theorem askSetReference_refused {a e : Nat} (h : a = 0 ∨ 2 < a ∨ 1 < e) (p d : Nat) (s : State) :
    askSetReference a e p d s = (s, refuse .outOfRange) := by
  unfold askSetReference
  split
  · rename_i x en hx he
    rcases h with h | h | h
    · rw [sourceOf?_eq_none (.inl h)] at hx; cases hx
    · rw [sourceOf?_eq_none (.inr h)] at hx; cases hx
    · rw [flagOf?_of_gt h] at he; cases he
  · rfl

theorem configured_source (s : State) (x y : SourceId) (en : Bool) (p d : Nat) :
    (configured s x en p d).riu.source y = (s.riu.configure x en p d).source y := evalSelection_source _ _

theorem configured_told {s : State} (ag : SelectionAgrees s) (x : SourceId) (en : Bool) (p d : Nat) :
    SelectionTold s (configured s x en p d) :=
  have same : (s.riu.configure x en p d).selection = s.riu.selection := configure_selection _ _ _ _ _
  selectionTold_congr (s := { s with riu := s.riu.configure x en p d }) same rfl rfl
    (evalSelection_told (agrees_congr (s := s) same rfl ag))

theorem configured_only (s : State) (x : SourceId) (en : Bool) (p d : Nat) :
    configured s x en p d = { s with
      tb := (configured s x en p d).tb, riu := (configured s x en p d).riu, lnu := (configured s x en p d).lnu } :=
  evalSelection_only _

/-- The status of a request with one clamped setting (R177). -/
theorem okOrClamped_ne (a b : Nat) : okOrClamped (a != b) = if a = b then .ok else .clamped := by
  by_cases h : a = b <;> simp [okOrClamped, h]

/-- A request taken in RUN is answered, and its block's state sent on (R175, R177). -/
theorem serve_taken {s : State} (h : Taken s) (code : Nat) (d : Bool) (act : State → State × Answer) :
    serve code d act s = sendReply code (act s).2 (act s).1 := serve_run h.1 h.2

/-- What a block's act is that refuses a request and changes nothing (R176). -/
theorem serve_refused {s : State} (h : Taken s) {code : Nat} {d : Bool} {act : State → State × Answer} {st : Status}
    (e : act s = (s, refuse st)) : serve code d act s = sendReply code { status := st, body := [] } s := by
  rw [serve_taken h, e]; rfl

/-- A reply sent from a state with the same link address is the reply to the request (R175, R185). -/
theorem replied_sendReply {code : Nat} {a : Answer} {s t : State} (h : t.lnu.address = s.lnu.address) :
    Replied code a s (sendReply code a t) := ⟨rfl, rfl, by rw [← h]; rfl⟩

/-- Settles O19: the settings by `Riu.configure`, the selection by what the Timebase is told. -/
theorem setReferenceWritesTheSettings : Obligations.SetReferenceWritesTheSettings := by
  refine ⟨fun s x e p d tk ag he => ?_, fun s k e p d tk h => ?_⟩
  · intro code v p' settings
    have key : sourceOf? code.toNat = some x := by cases x <;> rfl
    have act : askSetReference code.toNat e.toNat p.toNat d.toNat s = _ :=
      askSetReference_eq key (flagOf?_of_le he) p.toNat d.toNat s
    have hp : clamp 1 2 p.toNat = p' := rfl
    rw [hp] at act
    have in12 : 1 ≤ p' ∧ p' ≤ 2 := by omega
    have mine : (configured s x (e == 1#8) p' d.toNat).riu.source x
        = if v.enable = (e == 1#8) then { v with enable := e == 1#8, priority := p', delay := d.toNat }
          else { v with enable := e == 1#8, priority := p', delay := d.toNat }.fresh := by
      rw [configured_source, configure_source]
    have other : (configured s x (e == 1#8) p' d.toNat).riu.source (otherSource x)
        = if (s.riu.source (otherSource x)).priority = p' then
            { s.riu.source (otherSource x) with priority := 3 - p' }
          else s.riu.source (otherSource x) := by
      rw [configured_source, configure_other]
    have sel : (configured s x (e == 1#8) p' d.toNat).riu.selection
        = (configured s x (e == 1#8) p' d.toNat).riu.choice := evalSelection_choice _
    have prio : ((configured s x (e == 1#8) p' d.toNat).riu.source x).priority = p' := by
      rw [configured_source, configure_priority]
    have apart (sum : v.priority + (s.riu.source (otherSource x)).priority = 3) (one : v.priority = 1 ∨ v.priority = 2) :
        ((configured s x (e == 1#8) p' d.toNat).riu.source (otherSource x)).priority = 3 - p' := by
      rw [configured_source, configure_otherPriority _ _ sum one in12]
    have told := configured_told ag x (e == 1#8) p' d.toNat
    have only := configured_only s x (e == 1#8) p' d.toNat
    have addr : (configured s x (e == 1#8) p' d.toNat).lnu.address = s.lnu.address := by simp [configured]
    rw [okOrClamped_ne] at act
    generalize configured s x (e == 1#8) p' d.toNat = t at *
    have answered : exec (.setReference code e p d) s = .next (sendReply 0x13
        { status := if p' = p.toNat then .ok else .clamped, body := settings t.riu.refA ++ settings t.riu.refB } t) :=
      congrArg Host.Outcome.next ((serve_taken tk _ _ _).trans (by rw [act]; rfl))
    refine ⟨_, answered, replied_sendReply addr, ?_⟩
    generalize ({ status := _, body := _ } : Answer) = a
    have riu : (sendReply 0x13 a t).riu = t.riu := rfl
    rw [riu]
    refine ⟨?_, ?_, ?_, ?_, fun h => ?_, fun h => ?_, fun sum one => ?_, ?_, sel, told, ?_⟩
    · rw [mine]; split <;> rfl
    · exact prio
    · rw [mine]; split <;> rfl
    · rw [mine]; split <;> rfl
    · rw [mine, if_neg h]; exact ⟨rfl, rfl, rfl, rfl⟩
    · rw [mine, if_pos h]; exact ⟨rfl, rfl, rfl, rfl⟩
    · rw [prio, apart sum one]; omega
    · rw [other]; split <;> rfl
    · conv_lhs => rw [only]
      rfl
  · exact congrArg Host.Outcome.next (serve_refused tk (askSetReference_refused h p.toNat d.toNat s))

/-! ### SET_LOOP and the group T reset (R15, R34, R36) -/

/-- Settles O21: the reset writes the sources and the discipline record, and raises SOURCE_CHANGE. -/
theorem groupTResetRestartsTheLoop : Obligations.GroupTResetRestartsTheLoop := by
  intro s tk
  have answered : exec .resetGroupT s = .next (sendReply 0x72 { status := .ok, body := [] } (resetT s)) :=
    congrArg Host.Outcome.next (serve_taken tk _ _ _)
  refine ⟨_, answered, replied_sendReply (by simp), ?_⟩
  unfold resetT
  cases h : s.riu.selection <;> exact ⟨rfl, rfl, rfl, rfl⟩

end Sys2Proof.Proofs
end

section
/-! PROOFS. A new time of day: SET_TIME, the local second boundary and the end of a hold-back (R4, R13, R23, R29, R154). -/

namespace Sys2Proof.Proofs

open Sys2Proof.Machine Sys2Proof.Safety

/-! ### What the Shift Controller makes of a new time of day (R154 to R156) -/

/-- The crossing of a point reads the quality and the shift context alone, and writes the shift context (R155, R156). -/
theorem crossPoint_shc_congr {s t : State} (tb : s.tb = t.tb) (shc : s.shc = t.shc) (x : Point × Nat) :
    (crossPoint s x).shc = (crossPoint t x).shc := by
  have lamp (u : State) : (evalHandoverLamp u).shc = u.shc := by simp
  cases h : x.1 <;> simp only [crossPoint, h]
  · simp only [crossOpening, openWindow, tb, shc]
    (repeat' split) <;> simp_all
  · simp only [crossDue, shc]; split <;> simp_all
  · simp only [crossOverdue, shc]; split <;> simp_all

/-- Crossing points one after another reads the Timebase and the shift context alone (R154). -/
theorem foldl_crossPoint_shc_congr (l : List (Point × Nat)) {s t : State} (tb : s.tb = t.tb) (shc : s.shc = t.shc) :
    (l.foldl crossPoint s).shc = (l.foldl crossPoint t).shc := by
  induction l generalizing s t with
  | nil => exact shc
  | cons x l ih => exact ih (by simp [tb]) (crossPoint_shc_congr tb shc x)

/-- A new time of day reads the Timebase and the shift context alone, and writes the shift context (R154). -/
theorem takeTimeOfDay_shc_congr {s t : State} (tb : s.tb = t.tb) (shc : s.shc = t.shc) :
    (takeTimeOfDay s).shc = (takeTimeOfDay t).shc := by
  have crossed : (crossPoints s).shc = (crossPoints t).shc := by
    have adv : advance s = advance t := by simp only [advance, tb, shc]
    simp only [crossPoints, adv, shc, apply_ite State.shc, foldl_crossPoint_shc_congr _ tb shc]
  simp only [takeTimeOfDay, seeTime, crossed, tb]

/-- The Shift Controller has taken the time of a state in which it took it before the reply was sent (R154). -/
theorem tookTime_of {s u t : State} (shc : u.shc = s.shc) (tb : t.tb = u.tb) (took : t.shc = (takeTimeOfDay u).shc) :
    TookTime s t := took.trans (takeTimeOfDay_shc_congr tb.symm shc)

/-- A state whose Timebase is written, with the class derived and the time of day taken anew (R33, R154). -/
def newTime (s : State) (x : Timebase) : State := takeTimeOfDay (evalQuality { s with tb := x })

theorem newTime_tb (s : State) (x : Timebase) : (newTime s x).tb = { x with reported := x.quality } := by
  simp [newTime, evalQuality_tb]

/-- The class derived from a Timebase does not depend on the class reported (R32). -/
theorem newTime_quality (s : State) (x : Timebase) : (newTime s x).tb.quality = x.quality := by rw [newTime_tb]; rfl

/-- The shift context after a new time is the one that takes the time from the Timebase written (R154). -/
theorem newTime_shc (s : State) (x : Timebase) :
    (newTime s x).shc = (takeTimeOfDay (evalQuality { s with tb := x })).shc := by rw [newTime]

theorem newTime_evalQuality (s : State) (x : Timebase) :
    (newTime s x).tb = (evalQuality { s with tb := x }).tb
      ∧ (evalQuality { s with tb := x }).shc = s.shc := by
  simp only [newTime, takeTimeOfDay_frame, evalQuality_frame, and_self]

/-- A state with the Timebase and the shift context of a new time has taken it (R154). -/
theorem newTime_took {s : State} {x : Timebase} {t : State} (tb : t.tb = (newTime s x).tb)
    (shc : t.shc = (newTime s x).shc) : TookTime s t :=
  tookTime_of (newTime_evalQuality s x).2 (tb.trans (newTime_evalQuality s x).1) (shc.trans (newTime_shc s x))

theorem newTime_seen (s : State) (x : Timebase) :
    (newTime s x).shc.seenSeconds = x.seconds % 86400 ∧ (newTime s x).shc.seenFrac = x.frac := by
  have := takeTimeOfDay_seen (evalQuality { s with tb := x })
  rw [evalQuality_tb] at this
  rw [newTime]; exact this

/-- A state that keeps the other blocks differs from another in the Timebase, the shift context and the link alone. -/
theorem only_time {s t : State} (kept : t.riu = s.riu ∧ t.tiu = s.tiu ∧ t.ct = s.ct ∧ t.tgr = s.tgr ∧ t.usm = s.usm
    ∧ t.rha = s.rha ∧ t.asc = s.asc ∧ t.spm = s.spm ∧ t.pending = s.pending) :
    t = { s with tb := t.tb, shc := t.shc, lnu := t.lnu } := by
  apply State.ext <;> simp only [kept]

/-- What only the link of a state with a new time differs in, differs from the old state in the time and the link. -/
theorem only_trans {s u t : State} (hu : u = { s with tb := u.tb, shc := u.shc, lnu := u.lnu })
    (ht : t = { u with lnu := t.lnu }) : t = { s with tb := u.tb, shc := u.shc, lnu := t.lnu } := by
  conv_lhs => rw [ht, hu]

theorem newTime_only (s : State) (x : Timebase) :
    newTime s x = { s with tb := (newTime s x).tb, shc := (newTime s x).shc, lnu := (newTime s x).lnu } :=
  only_time (by simp only [newTime, takeTimeOfDay_frame, evalQuality_frame, and_self])

/-- Taking the time of day leaves the link's sending as it is (R154, R175). -/
theorem newTime_link (s : State) (x : Timebase) :
    (newTime s x).lnu.answering = s.lnu.answering ∧ (newTime s x).lnu.tx = s.lnu.tx
      ∧ (newTime s x).lnu.address = s.lnu.address := by
  simp only [newTime, takeTimeOfDay_frame, evalQuality_frame, and_self]

/-! ### SET_TIME (R13, R31) -/

/-- The Timebase that SET_TIME writes with no source selected (R13, R31). -/
def wholeTime (t : Timebase) (x f u : Nat) : Timebase :=
  { t with seconds := x, frac := f, uncertainty := u, growthRem := 0, holdBack := none, timeSet := true }

/-- The Timebase that SET_TIME writes with a source selected (R13). -/
def secondsOnly (t : Timebase) (x : Nat) : Timebase := { t with seconds := x, timeSet := true }

theorem askSetTime_whole {s : State} {f : Nat} (hf : f ≤ 9999999) (sel : s.riu.selection = none) (x n : Nat) :
    askSetTime x f n s =
      (newTime s (wholeTime s.tb x f (clamp 10000 maxUncertainty n)),
       setTimeAnswer (okOrClamped (clamp 10000 maxUncertainty n != n)) true
        (newTime s (wholeTime s.tb x f (clamp 10000 maxUncertainty n)))) := by
  simp [askSetTime, Nat.not_lt.mpr hf, sel, newTime, wholeTime]

theorem askSetTime_secondsOnly {s : State} {f : Nat} (hf : f ≤ 9999999) (sel : s.riu.selection ≠ none) (x n : Nat) :
    askSetTime x f n s =
      (newTime s (secondsOnly s.tb x), setTimeAnswer .ok false (newTime s (secondsOnly s.tb x))) := by
  obtain ⟨y, sel⟩ := Option.ne_none_iff_exists'.mp sel
  simp [askSetTime, Nat.not_lt.mpr hf, sel, newTime, secondsOnly]

/-- SET_TIME's answer shows the counts and the uncertainty it left (R13, R191). -/
theorem setTimeAnswer_newTime (st : Status) (b : Bool) (s : State) (x : Timebase) :
    setTimeAnswer st b (newTime s x) =
      { status := st
        body := toBytes 4 x.seconds ++ toBytes 4 x.frac ++ toBytes 1 b.toNat ++ toBytes 4 x.uncertainty } := by
  rw [setTimeAnswer, newTime_tb]

/-- A state that differs in the link alone has the same Timebase and shift context. -/
theorem link_fields {t u : State} (h : t = { u with lnu := t.lnu }) : t.tb = u.tb ∧ t.shc = u.shc := by
  rw [h]; exact ⟨rfl, rfl⟩

/-- What holds of a state in which a new time has been taken holds of it once the reply is sent (R175). -/
theorem newTime_set (s : State) (x : Timebase) (t : State) (only : t = { newTime s x with lnu := t.lnu }) :
    t.tb = { x with reported := t.tb.quality } ∧ TookTime s t
      ∧ t.shc.seenSeconds = x.seconds % 86400 ∧ t.shc.seenFrac = x.frac
      ∧ t = { s with tb := t.tb, shc := t.shc, lnu := t.lnu } := by
  obtain ⟨ht, shc⟩ := link_fields only
  refine ⟨?_, newTime_took ht shc, ?_, ?_, ?_⟩
  · rw [ht, newTime_quality, newTime_tb]
  · rw [shc, (newTime_seen s x).1]
  · rw [shc, (newTime_seen s x).2]
  · rw [ht, shc]
    exact only_trans (newTime_only s x) only

/-- A broadcast SET_TIME is acted on in a part that works, sends no reply and is not in hold-up (R173, R175). -/
theorem broadcastSetTime_on {s : State}
    (h : s.powered = true ∧ s.lnu.answering = false ∧ s.spm.supply ≠ .holdup) (x f n : Nat) :
    broadcastSetTime x f n s = (askSetTime x f n s).1 := by rw [broadcastSetTime, if_pos h]

/-- The state in which the time `x` has been set and taken, and nothing else has changed but the link (R13, R154). -/
def TimeSetTo (s : State) (x : Timebase) (t : State) : Prop :=
  t.tb = { x with reported := t.tb.quality } ∧ TookTime s t
    ∧ t.shc.seenSeconds = x.seconds % 86400 ∧ t.shc.seenFrac = x.frac
    ∧ t = { s with tb := t.tb, shc := t.shc, lnu := t.lnu }

/-- Setting the time answers so, sets this time and leaves the link alone until the reply is sent (R13). -/
def SetsTime (act : State → State × Answer) (s : State) (x : Timebase) (a : Answer) : Prop :=
  ∃ t, act s = (t, a)
    ∧ (t.lnu.answering = s.lnu.answering ∧ t.lnu.tx = s.lnu.tx ∧ t.lnu.address = s.lnu.address)
    ∧ ∀ l, TimeSetTo s x { t with lnu := l }

theorem setsTime_of {act : State → State × Answer} {s : State} {x : Timebase} {a : Answer}
    (h : act s = (newTime s x, a)) : SetsTime act s x a :=
  ⟨_, h, newTime_link s x, fun _ => newTime_set s x _ rfl⟩

theorem SetsTime.served {act : State → State × Answer} {s : State} {x : Timebase} {a : Answer} (h : SetsTime act s x a)
    (l : s.listening = true) (run : s.spm.supply = .run) (code : Nat) :
    ∃ t, serve code false act s = t ∧ Replied code a s t ∧ TimeSetTo s x t := by
  obtain ⟨t, acts, ⟨-, -, address⟩, set⟩ := h
  refine ⟨sendReply code a t, ?_, replied_sendReply address, set _⟩
  rw [serve_run l run, acts]

theorem SetsTime.broadcast {act : State → State × Answer} {s : State} {x : Timebase} {a : Answer}
    (h : SetsTime act s x a) :
    ∃ t, (act s).1 = t ∧ t.lnu.answering = s.lnu.answering ∧ t.lnu.tx = s.lnu.tx ∧ TimeSetTo s x t := by
  obtain ⟨t, acts, ⟨answering, tx, -⟩, set⟩ := h
  exact ⟨t, by rw [acts], answering, tx, set t.lnu⟩

theorem askSetTime_setsWhole {s : State} {f : Nat} (hf : f ≤ 9999999) (sel : s.riu.selection = none) (x n : Nat) :
    SetsTime (askSetTime x f n) s (wholeTime s.tb x f (clamp 10000 maxUncertainty n))
      { status := if clamp 10000 maxUncertainty n = n then .ok else .clamped
        body := toBytes 4 x ++ toBytes 4 f ++ toBytes 1 1 ++ toBytes 4 (clamp 10000 maxUncertainty n) } := by
  refine setsTime_of ((askSetTime_whole hf sel x n).trans ?_)
  rw [setTimeAnswer_newTime, okOrClamped_ne]; rfl

theorem askSetTime_setsSeconds {s : State} {f : Nat} (hf : f ≤ 9999999) (sel : s.riu.selection ≠ none) (x n : Nat) :
    SetsTime (askSetTime x f n) s (secondsOnly s.tb x)
      { status := .ok
        body := toBytes 4 x ++ toBytes 4 s.tb.frac ++ toBytes 1 0 ++ toBytes 4 s.tb.uncertainty } := by
  refine setsTime_of ((askSetTime_secondsOnly hf sel x n).trans ?_)
  rw [setTimeAnswer_newTime]; rfl

theorem exec_setTime (x f n : BitVec 32) (s : State) :
    exec (.setTime false x f n) s = .next (serve 0x11 false (askSetTime x.toNat f.toNat n.toNat) s) := rfl

theorem exec_setTime_broadcast (x f n : BitVec 32) (s : State) :
    exec (.setTime true x f n) s = .next (broadcastSetTime x.toNat f.toNat n.toNat s) := rfl

/-- Settles O18: each form of SET_TIME takes a new time; addressed it is answered, broadcast it is not. -/
theorem setTimeSetsTheTime : Obligations.SetTimeSetsTheTime := by
  intro s x f n hf run v whole secondsAlone
  have setsWhole (sel : s.riu.selection = none) := askSetTime_setsWhole hf sel x.toNat n.toNat
  have setsSeconds (sel : s.riu.selection ≠ none) := askSetTime_setsSeconds hf sel x.toNat n.toNat
  refine ⟨fun l sel => ?_, fun l sel => ?_, fun quiet => ?_⟩
  · obtain ⟨t, ht, replied, set⟩ := (setsWhole sel).served l run 0x11
    exact ⟨t, by rw [exec_setTime, ht], replied, set⟩
  · obtain ⟨t, ht, replied, set⟩ := (setsSeconds sel).served l run 0x11
    exact ⟨t, by rw [exec_setTime, ht], replied, set⟩
  · have on : s.powered = true ∧ s.lnu.answering = false ∧ s.spm.supply ≠ .holdup := by
      simp [State.powered, run, quiet]
    rw [exec_setTime_broadcast, broadcastSetTime_on on]
    by_cases sel : s.riu.selection = none
    · obtain ⟨t, ht, answering, tx, set⟩ := (setsWhole sel).broadcast
      exact ⟨t, by rw [ht], answering.trans quiet, tx, fun _ => set, fun h => absurd sel h⟩
    · obtain ⟨t, ht, answering, tx, set⟩ := (setsSeconds sel).broadcast
      exact ⟨t, by rw [ht], answering.trans quiet, tx, fun h => absurd h sel, fun _ => set⟩

end Sys2Proof.Proofs
end

section
/-! PROOFS. The local second boundary, the end of a hold-back and the passing of time (R1, R2, R4, R6, R23, R29). -/

namespace Sys2Proof.Proofs

open Sys2Proof.Machine Sys2Proof.Safety

/-! ### The local second boundary (R4, R23, R29) -/

theorem takeTimeOfDay_took {s u : State} (shc : u.shc = s.shc) : TookTime s (takeTimeOfDay u) :=
  tookTime_of shc (takeTimeOfDay_frame u).1 rfl

/-- The uncertainty grows in FREE and HOLDOVER alone (R29). -/
theorem grow_eq (t : Timebase) :
    t.grow = { t with
      uncertainty := if t.state = .free ∨ t.state = .holdover
        then min (t.uncertainty + (t.growthRem + t.holdRate) / 100) 4000000000 else t.uncertainty
      growthRem := if t.state = .free ∨ t.state = .holdover
        then (t.growthRem + t.holdRate) % 100 else t.growthRem } := by
  rcases t with ⟨_, _, _, _, _, _, _, _, _, state, _⟩
  cases state <;> rfl

/-- The Timebase that a boundary leaves before its insertion or its hold-back (R23, R29, R33). -/
def boundaryTime (t : Timebase) : Timebase :=
  { t.takeTrim.grow with boundaryDue := false, reported := t.takeTrim.grow.quality }

/-- The state in which a boundary has taken the trim and grown the uncertainty (R23, R29, R33). -/
def boundaryBegun (s : State) : State :=
  evalQuality { s with tb := { s.tb.takeTrim.grow with boundaryDue := false } }

theorem boundaryBegun_only (s : State) :
    boundaryBegun s = { s with tb := boundaryTime s.tb, lnu := (boundaryBegun s).lnu } := by
  apply State.ext <;> simp only [boundaryBegun, evalQuality_frame, evalQuality_tb, boundaryTime, Timebase.quality]

/-- A trim of 0 or more is inserted, and the new time taken (R4, R154). -/
theorem boundaryPeriod_insertion {s : State} (h : 0 ≤ s.tb.applied) :
    boundaryPeriod s = takeTimeOfDay { boundaryBegun s with
      tb := (boundaryBegun s).tb.advanced (1 + s.tb.applied.toNat) } := by
  rw [boundaryPeriod, if_pos h, boundaryBegun]

/-- A trim below 0 begins a hold-back (R4). -/
theorem boundaryPeriod_holdBack {s : State} (h : s.tb.applied < 0) :
    boundaryPeriod s = { boundaryBegun s with
      tb := { (boundaryBegun s).tb with holdBack := some (s.tb.applied.natAbs - 1) } } := by
  rw [boundaryPeriod, if_neg (by omega), boundaryBegun]

/-- A change of the Timebase and the link and then a new time changes the time and the link alone (R154). -/
theorem takeTimeOfDay_only {s u : State} (h : u = { s with tb := u.tb, lnu := u.lnu }) :
    takeTimeOfDay u = { s with tb := (takeTimeOfDay u).tb, shc := (takeTimeOfDay u).shc, lnu := (takeTimeOfDay u).lnu } := by
  refine only_time ?_
  rw [h]
  simp only [takeTimeOfDay_frame, and_self]

/-- What a boundary leaves is that of its insertion or of its hold-back (R4). -/
theorem boundaryPeriod_cases (s : State) :
    (boundaryPeriod s).tb = (if 0 ≤ s.tb.applied then (boundaryTime s.tb).advanced (1 + s.tb.applied.toNat)
        else { boundaryTime s.tb with holdBack := some (s.tb.applied.natAbs - 1) })
      ∧ (0 ≤ s.tb.applied → TookTime s (boundaryPeriod s))
      ∧ (s.tb.applied < 0 → (boundaryPeriod s).shc = s.shc)
      ∧ boundaryPeriod s = { s with
          tb := (boundaryPeriod s).tb, shc := (boundaryPeriod s).shc, lnu := (boundaryPeriod s).lnu } := by
  have begun := boundaryBegun_only s
  have shc : (boundaryBegun s).shc = s.shc := by rw [begun]
  have tb : (boundaryBegun s).tb = boundaryTime s.tb := by rw [begun]
  by_cases h : 0 ≤ s.tb.applied
  · rw [boundaryPeriod_insertion h, if_pos h, tb]
    generalize boundaryBegun s = b at *
    refine ⟨(takeTimeOfDay_frame _).1, fun _ => takeTimeOfDay_took shc, fun h' => absurd h (by omega),
      takeTimeOfDay_only ?_⟩
    rw [begun]
  · rw [boundaryPeriod_holdBack (by omega), if_neg h, tb]
    generalize boundaryBegun s = b at *
    refine ⟨rfl, fun h' => absurd h' h, fun _ => shc, ?_⟩
    rw [begun]

/-- The end of a hold-back counts 1 cu and takes the new time (R4, R154). -/
theorem holdBackEndPeriod_takes (s : State) :
    (holdBackEndPeriod s).tb = { s.tb.advanced 1 with holdBack := none }
      ∧ TookTime s (holdBackEndPeriod s)
      ∧ holdBackEndPeriod s = { s with tb := (holdBackEndPeriod s).tb, shc := (holdBackEndPeriod s).shc
                                       lnu := (holdBackEndPeriod s).lnu } := by
  rw [holdBackEndPeriod]
  exact ⟨(takeTimeOfDay_frame _).1, takeTimeOfDay_took rfl, takeTimeOfDay_only rfl⟩

/-- From a fraction in range 1 cu passes into the next second exactly at 9,999,999 (R1). -/
theorem advanced_one {t : Timebase} (h : t.frac ≤ 9999999) :
    t.advanced 1 = { t with
      seconds := if decide (t.frac = 9999999) then (t.seconds + 1) % 4294967296 else t.seconds
      frac := if decide (t.frac = 9999999) then 0 else t.frac + 1
      elapsed := min (t.elapsed + 1) (2 ^ 62) } := by
  rcases Nat.lt_or_eq_of_le h with h | h
  · simp [Timebase.advanced, advanceElapsed, show ¬ 9999999 < t.frac + 1 by omega, show t.frac ≠ 9999999 by omega, addUpTo]
  · simp [Timebase.advanced, advanceElapsed, h, nextSecond, addUpTo]

theorem holdBackEnd_passes {s : State} (h : s.tb.frac ≤ 9999999) :
    let passes := decide (s.tb.frac = 9999999)
    (holdBackEndPeriod s).tb = { s.tb with
        seconds := if passes then (s.tb.seconds + 1) % 4294967296 else s.tb.seconds
        frac := if passes then 0 else s.tb.frac + 1
        elapsed := min (s.tb.elapsed + 1) (2 ^ 62), holdBack := none } := by
  rw [(holdBackEndPeriod_takes s).1, advanced_one h]

/-- The trim, its remainder and the uncertainty that a boundary leaves (R23, R29, R33). -/
theorem boundaryTime_eq (t : Timebase) :
    boundaryTime t = { t with
      boundaryDue := false, trimRem := t.trimRem + t.trim - 100 * t.applied, trim := t.freq
      uncertainty := if t.state = .free ∨ t.state = .holdover
        then min (t.uncertainty + (t.growthRem + t.holdRate) / 100) 4000000000 else t.uncertainty
      growthRem := if t.state = .free ∨ t.state = .holdover
        then (t.growthRem + t.holdRate) % 100 else t.growthRem
      reported := (boundaryTime t).quality } := by
  rw [boundaryTime, grow_eq]; rfl

/-- A boundary's counts are its own; the rest of the Timebase is as it left the trim and the uncertainty (R23, R29). -/
theorem boundaryPeriod_rest (s : State) :
    (boundaryPeriod s).tb = { s.tb with
        seconds := (boundaryPeriod s).tb.seconds, frac := (boundaryPeriod s).tb.frac
        elapsed := (boundaryPeriod s).tb.elapsed, holdBack := (boundaryPeriod s).tb.holdBack
        boundaryDue := false, trimRem := s.tb.trimRem + s.tb.trim - 100 * s.tb.applied, trim := s.tb.freq
        uncertainty := if s.tb.state = .free ∨ s.tb.state = .holdover
          then min (s.tb.uncertainty + (s.tb.growthRem + s.tb.holdRate) / 100) 4000000000 else s.tb.uncertainty
        growthRem := if s.tb.state = .free ∨ s.tb.state = .holdover
          then (s.tb.growthRem + s.tb.holdRate) % 100 else s.tb.growthRem
        reported := (boundaryTime s.tb).quality }
      ∧ (boundaryPeriod s).tb.quality = (boundaryTime s.tb).quality := by
  have quality : (boundaryPeriod s).tb.quality = (boundaryTime s.tb).quality := by
    rw [(boundaryPeriod_cases s).1]; split <;> rfl
  refine ⟨?_, quality⟩
  have begun := boundaryTime_eq s.tb
  rw [(boundaryPeriod_cases s).1]
  generalize (boundaryTime s.tb).quality = q at *
  rw [begun]
  split <;> rfl

/-- A boundary's counts before its insertion are those it found (R4). -/
theorem boundaryTime_counts (t : Timebase) :
    (boundaryTime t).seconds = t.seconds ∧ (boundaryTime t).frac = t.frac ∧ (boundaryTime t).elapsed = t.elapsed
      ∧ (boundaryTime t).holdBack = t.holdBack := by
  rw [boundaryTime_eq]; exact ⟨rfl, rfl, rfl, rfl⟩

/-- The counts `1 + n` cu later (R1, R2). -/
theorem advanced_counts (t : Timebase) (n : Nat) :
    (t.advanced (1 + n)).seconds = (if 9999999 < t.frac + 1 + n then (t.seconds + 1) % 4294967296 else t.seconds)
      ∧ (t.advanced (1 + n)).frac = (if 9999999 < t.frac + 1 + n then t.frac + 1 + n - 10000000 else t.frac + 1 + n)
      ∧ (t.advanced (1 + n)).elapsed = min (t.elapsed + (1 + n)) (2 ^ 62) := by
  simp [Timebase.advanced, nextSecond, advanceElapsed, addUpTo, Nat.add_assoc]

/-- An insertion's counts are those of the Timebase it found, advanced (R4). -/
theorem boundaryTime_advanced (t : Timebase) (n : Nat) :
    ((boundaryTime t).advanced n).seconds = (t.advanced n).seconds
      ∧ ((boundaryTime t).advanced n).frac = (t.advanced n).frac
      ∧ ((boundaryTime t).advanced n).elapsed = (t.advanced n).elapsed
      ∧ ((boundaryTime t).advanced n).holdBack = t.holdBack := by
  obtain ⟨seconds, frac, elapsed, hold⟩ := boundaryTime_counts t
  simp only [Timebase.advanced, seconds, frac, elapsed, hold, and_self]

/-- While an insertion is due the present counts are those after it (R5). -/
theorem present_insertion {t : Timebase} (due : t.boundaryDue = true) (h : 0 ≤ t.applied) :
    t.present = t.advanced (1 + t.applied.toNat) := if_pos ⟨due, h⟩

/-- A hold-back that is due leaves the present counts as they stand (R5). -/
theorem present_holdBack {t : Timebase} (h : t.applied < 0) : t.present = t := if_neg fun c => absurd c.2 (by omega)

/-- Settles O25: what the boundary makes of the trim, then the insertion or the hold-back, each a new time. -/
theorem secondBoundaryAppliesTheTrim : Obligations.SecondBoundaryAppliesTheTrim := by
  refine ⟨fun s pw at' => ?_, fun s pw hb fr => ?_⟩
  · intro sum applied count grows grown
    have ready : boundaryReady s = true := by
      rcases at' with d | ⟨fr, hb⟩ <;> simp [boundaryReady, atBoundary, *]
    have acts : exec .localSecondBoundary s = .next (boundaryPeriod s) := by
      show Host.Outcome.next (if boundaryReady s then boundaryPeriod s else s) = _
      rw [if_pos ready]
    obtain ⟨tb, took, stands, only⟩ := boundaryPeriod_cases s
    obtain ⟨rest, quality⟩ := boundaryPeriod_rest s
    generalize boundaryPeriod s = t at *
    refine ⟨t, acts, ?_, fun h => ?_, fun h => ?_, only⟩
    · rw [quality]; exact rest
    · change 0 ≤ s.tb.applied at h
      rw [if_pos h] at tb
      obtain ⟨seconds, frac, elapsed, hold⟩ := boundaryTime_advanced s.tb (1 + s.tb.applied.toNat)
      obtain ⟨seconds', frac', elapsed'⟩ := advanced_counts s.tb s.tb.applied.toNat
      rw [← tb] at seconds frac elapsed hold
      refine ⟨elapsed.trans elapsed', hold, frac.trans frac', seconds.trans seconds', took h, fun due => ?_⟩
      rw [State.now, Timebase.stamp, State.elapsed, present_insertion due h]
      exact ⟨seconds.symm, frac.symm, elapsed.symm⟩
    · change s.tb.applied < 0 at h
      rw [if_neg (Int.not_le.mpr h)] at tb
      obtain ⟨seconds, frac, elapsed, -⟩ := boundaryTime_counts s.tb
      rw [State.now, Timebase.stamp, State.elapsed, present_holdBack h, tb]
      exact ⟨seconds, frac, elapsed, rfl, stands h, rfl, rfl, rfl⟩
  · have acts : exec .holdBackEnd s = .next (holdBackEndPeriod s) := by
      show Host.Outcome.next (if s.powered = true ∧ s.tb.holdBack = some 0 then _ else _) = _
      rw [if_pos ⟨pw, hb⟩]
    obtain ⟨-, took, only⟩ := holdBackEndPeriod_takes s
    exact ⟨_, acts, holdBackEnd_passes fr, took, only⟩

end Sys2Proof.Proofs
end

section
/-! PROOFS. What the part does when no step waits: the events that are due, the oscillator's period and the watch
oscillator's cycles (R1, R2, R4, R6). -/

namespace Sys2Proof.Proofs

open Sys2Proof.Machine Sys2Proof.Safety

/-! ### The events that are due -/

theorem mem_whenDue {due : Bool} {i j : Instr} : j ∈ whenDue due i ↔ due = true ∧ j = i := by
  cases due <;> simp [whenDue]

theorem mem_dueLosses {s : State} {j : Instr} :
    j ∈ dueLosses s ↔ ∃ x, (s.riu.source x).lossDue s.elapsed = true ∧ j = .sourceLoss x := by
  simp only [dueLosses, List.mem_map, List.mem_filter, eq_comm (a := j)]
  exact exists_congr fun x => by cases x <;> simp

theorem mem_dueContacts {s : State} {j : Instr} :
    j ∈ dueContacts s ↔ ∃ u k, contactDue s u k = true ∧ j = .unitContactConfirmation u k := by
  have all (k : ContactId) : k ∈ allContacts := by cases k <;> decide
  simp [dueContacts, all, eq_comm (a := j)]

theorem mem_dueInputs {s : State} {j : Instr} :
    j ∈ dueInputs s ↔ (∃ u i, assertionDue s u i = true ∧ j = .assertionConfirmation u i)
      ∨ ∃ u i, releaseDue s u i = true ∧ j = .releaseConfirmation u i := by
  simp [dueInputs, exists_or]

theorem mem_dueGroups {s : State} {j : Instr} :
    j ∈ dueGroups s ↔ ∃ u, groupDue s u = true ∧ j = .groupExpiry u := by
  simp [dueGroups, eq_comm (a := j)]

theorem dueLosses_nodup (s : State) : (dueLosses s).Nodup :=
  ((by decide : [SourceId.refA, .refB].Nodup).filter _).map fun _ _ => Instr.sourceLoss.inj

theorem dueContacts_nodup (s : State) : (dueContacts s).Nodup := by
  refine List.nodup_flatMap.mpr ⟨fun u _ => ?_, (by decide : allUnits.Nodup).imp fun ne => ?_⟩
  · exact ((by decide : allContacts.Nodup).filter _).map fun _ _ h => (Instr.unitContactConfirmation.inj h).2
  · intro x hx hy
    obtain ⟨_, _, rfl⟩ := List.mem_map.mp hx
    obtain ⟨_, _, same⟩ := List.mem_map.mp hy
    exact ne (Instr.unitContactConfirmation.inj same).1.symm

theorem dueInputs_nodup (s : State) : (dueInputs s).Nodup := by
  refine List.nodup_flatMap.mpr ⟨fun x _ => ?_, (by decide : inputOrder.Nodup).imp fun ne => ?_⟩
  · split <;> split <;> simp
  · intro e hx hy
    simp only [List.mem_append, List.mem_ite_nil_right, List.mem_singleton] at hx hy
    rcases hx with ⟨-, rfl⟩ | ⟨-, rfl⟩ <;> simp_all [Prod.ext_iff]

theorem dueGroups_nodup (s : State) : (dueGroups s).Nodup :=
  ((by decide : allUnits.Nodup).filter _).map fun _ _ => Instr.groupExpiry.inj

theorem whenDue_nodup (due : Bool) (i : Instr) : (whenDue due i).Nodup := by cases due <;> simp [whenDue]

/-- A list without duplicates and one event that is not in it have no duplicates. -/
theorem nodup_append_whenDue {l : List Instr} (h : l.Nodup) {due : Bool} {i : Instr} (hi : i ∉ l) :
    (l ++ whenDue due i).Nodup := by
  refine h.append (whenDue_nodup due i) fun x hx hw => ?_
  obtain ⟨-, rfl⟩ := mem_whenDue.mp hw
  exact hi hx

/-- Each event that is due is taken once: the parts of the list hold different events. -/
theorem dueEvents_nodup (s : State) : (dueEvents s).Nodup := by
  unfold dueEvents
  have toGroups : (whenDue (s.powered && s.tb.boundaryDue) .localSecondBoundary ++ dueLosses s ++ dueContacts s
      ++ whenDue (pfiDue s) .pfiConfirmation ++ dueInputs s ++ dueGroups s).Nodup := by
    refine (((((whenDue_nodup _ _).append (dueLosses_nodup s) ?_).append (dueContacts_nodup s) ?_).append
      (whenDue_nodup _ _) ?_).append (dueInputs_nodup s) ?_).append (dueGroups_nodup s) ?_
    all_goals
      intro x hx hy
      simp only [List.mem_append, mem_whenDue, mem_dueLosses, mem_dueContacts, mem_dueInputs, mem_dueGroups] at hx hy
      grind
  refine nodup_append_whenDue (nodup_append_whenDue (nodup_append_whenDue (nodup_append_whenDue
    (nodup_append_whenDue (nodup_append_whenDue toGroups ?_) ?_) ?_) ?_) ?_) ?_
  all_goals simp [mem_whenDue, mem_dueLosses, mem_dueContacts, mem_dueInputs, mem_dueGroups]

theorem lossDue_iff (x : Source) (now : Nat) :
    x.lossDue now = true ↔ x.state ≠ .absent ∧ ∃ p, x.lastPulse = some p ∧ p + 15000000 ≤ now := by
  cases h : x.lastPulse <;> simp [Source.lossDue, h]

section
variable {s : State} (pw : s.powered = true)
include pw

theorem contactDue_iff (u : UnitId) (k : ContactId) : contactDue s u k = true ↔ Due s (.unitContactConfirmation u k) := by
  cases h : ((s.unit u).contact k).pending <;> simp [contactDue, Due, h, pw, State.reached]

theorem assertionDue_iff (u : UnitId) (i : InputId) : assertionDue s u i = true ↔ Due s (.assertionConfirmation u i) := by
  cases h : (s.input u i).filter <;> simp [assertionDue, Due, h, pw, State.reached, TripInput.confirmAt, filterTime]
  exact decide_eq_true_iff

theorem releaseDue_iff (u : UnitId) (i : InputId) : releaseDue s u i = true ↔ Due s (.releaseConfirmation u i) := by
  cases h : (s.input u i).filter <;> simp [releaseDue, Due, h, pw, State.reached, TripInput.confirmAt, filterTime]
  exact decide_eq_true_iff

theorem groupDue_iff (u : UnitId) : groupDue s u = true ↔ Due s (.groupExpiry u) := by
  cases h : s.tgr.groups.get u <;> simp [groupDue, Due, h, pw, State.reached]

theorem pfiDue_iff : pfiDue s = true ↔ Due s .pfiConfirmation := by
  cases h : s.spm.pfiPending <;> simp [pfiDue, Due, h, pw, State.reached]

theorem grantWaitOver_iff : grantWaitOver s = true ↔ Due s .grantTimeout := by
  cases h : s.asc.inFlight <;> simp [grantWaitOver, inPhase, Due, h, pw, State.reached]

theorem cycleWaitOver_iff : cycleWaitOver s = true ↔ Due s .notReadyTimeout := by
  cases h : s.asc.inFlight with
  | none => simp [cycleWaitOver, Due, h]
  | some x =>
    cases h' : x.cycleBy <;>
      simp [cycleWaitOver, inPhase, Due, h, h', pw, State.reached, Transaction.isRead, and_assoc]

theorem presenceDue_iff : presenceDue s = true ↔ Due s .presenceExpiry := by
  cases h : s.shc.presenceBy <;> simp [presenceDue, Due, h, pw, State.reached]

theorem restoreDue_iff : restoreDue s = true ↔ Due s .restoreExpiry := by
  cases h : s.spm.restoreBy <;> simp [restoreDue, Due, h, pw, State.reached]

theorem dutyDue_iff : dutyDue s = true ↔ Due s .dutySecondBoundary := by simp [dutyDue, Due, pw]

theorem periodDue_iff : periodDue s = true ↔ Due s .commitPeriodExpiry := by simp [periodDue, Due, pw, State.reached]

/-- In a part that works the events taken are those that are due. -/
theorem mem_dueEvents (j : Instr) : j ∈ dueEvents s ↔ Due s j := by
  simp only [dueEvents, List.mem_append, mem_whenDue, mem_dueLosses, mem_dueContacts, mem_dueInputs, mem_dueGroups,
    lossDue_iff, contactDue_iff pw, assertionDue_iff pw, releaseDue_iff pw, groupDue_iff pw, pfiDue_iff pw,
    grantWaitOver_iff pw, cycleWaitOver_iff pw, presenceDue_iff pw, restoreDue_iff pw, dutyDue_iff pw, periodDue_iff pw]
  cases j <;> simp [Due, pw]

end

/-! ### The oscillator's period (R1, R2, R4) -/

theorem tick_nothing_due {s : State} (pw : s.powered = true) (h : ∀ i, ¬ Due s i) : tick s = oscillatorPeriod s := by
  have none : dueEvents s = [] := List.eq_nil_iff_forall_not_mem.mpr fun j hj => h j ((mem_dueEvents pw j).mp hj)
  rw [tick, if_pos pw, none]

theorem tick_due {s : State} (pw : s.powered = true) {i : Instr} (h : Due s i) :
    tick s = { s with pending := s.pending ++ dueEvents s } := by
  have some := List.ne_nil_of_mem ((mem_dueEvents pw i).mpr h)
  rw [tick, if_pos pw]
  split
  · contradiction
  · rfl

theorem oscillatorPeriod_counts {s : State} (hb : s.tb.holdBack = none) (fr : s.tb.frac < 9999999) :
    oscillatorPeriod s = { s with tb := { s.tb with
      frac := s.tb.frac + 1, elapsed := min (s.tb.elapsed + 1) (2 ^ 62) } } := by
  have : atBoundary s = false := by simp [atBoundary, show s.tb.frac ≠ 9999999 by omega]
  rw [oscillatorPeriod, hb]
  simp [this, advanced_one fr.le, show s.tb.frac ≠ 9999999 by omega]

theorem oscillatorPeriod_boundary {s : State} (hb : s.tb.holdBack = none) (fr : s.tb.frac = 9999999) :
    oscillatorPeriod s = { s with tb := { s.tb with boundaryDue := true } } := by
  rw [oscillatorPeriod, hb]
  simp [atBoundary, hb, fr]

theorem oscillatorPeriod_holds {s : State} {n : Nat} (hb : s.tb.holdBack = some (n + 1)) :
    oscillatorPeriod s = { s with tb := { s.tb with holdBack := some n } } := by
  rw [oscillatorPeriod, hb]

theorem oscillatorPeriod_holdBackEnd {s : State} (hb : s.tb.holdBack = some 0) :
    oscillatorPeriod s = holdBackEndPeriod s := by
  rw [oscillatorPeriod, hb]

theorem step_of_pending_nil {s : State} (h : s.pending = []) : step s = .next (tick s) := by rw [step, h]

/-! ### The watch oscillator (R6) -/

theorem watchCycle_eq (t : Timebase) :
    let cu := if 32768 ≤ t.backupAcc + 5760 then 306 else 305
    let carry := decide (9999999 < t.frac + cu)
    t.watchCycle = { t with
      seconds := if carry then (t.seconds + 1) % 4294967296 else t.seconds
      frac := if carry then t.frac + cu - 10000000 else t.frac + cu
      elapsed := min (t.elapsed + cu) (2 ^ 62)
      backupAcc := if cu = 306 then t.backupAcc + 5760 - 32768 else t.backupAcc + 5760 } := by
  by_cases h : 32768 ≤ t.backupAcc + 5760 <;>
    simp [Timebase.watchCycle, Timebase.advanced, advanceElapsed, addUpTo, nextSecond, h]

theorem watchStep_retained {s : State} (h : s.spm.supply = .backup) (r : s.spm.retained = true) :
    watchStep s = { s with tb := s.tb.watchCycle } := if_pos ⟨h, r⟩

/-- Cycle after cycle the accumulator carries one clock unit in 32,768 parts (R6). -/
theorem watchCycle_iterate {t : Timebase} (start : t.backupAcc = 0) (n : Nat) (room : t.elapsed + 306 * n ≤ 2 ^ 62) :
    (Timebase.watchCycle^[n] t).elapsed = t.elapsed + 305 * n + 5760 * n / 32768
      ∧ (Timebase.watchCycle^[n] t).backupAcc = 5760 * n % 32768 := by
  induction n with
  | zero => simp [start]
  | succ n ih =>
    obtain ⟨elapsed, acc⟩ := ih (by omega)
    rw [Function.iterate_succ_apply', watchCycle_eq]
    by_cases carry : 32768 ≤ 5760 * n % 32768 + 5760 <;>
      simp only [elapsed, acc, carry, if_true, if_false, Nat.reduceEqDiff] <;> omega

/-- Settles O2: the due events by `mem_dueEvents`, the period by the hold-back and the fraction, the watch cycles by
induction. -/
theorem timePassesWhenNothingWaits : Obligations.TimePassesWhenNothingWaits := by
  refine ⟨fun s empty pw => ⟨fun i due => ?_, fun nothing => ?_⟩, fun s b => ⟨fun empty => ?_, fun lost => ?_, fun r => ?_⟩,
    fun t n start room => ?_⟩
  · refine ⟨dueEvents s, ?_, dueEvents_nodup s, mem_dueEvents pw⟩
    rw [step_of_pending_nil empty, tick_due pw due, empty, List.nil_append]
  · rw [step_of_pending_nil empty, tick_nothing_due pw nothing]
    refine ⟨fun hb fr => ?_, fun hb fr => ?_, fun n hb => ?_, fun hb fr => ?_⟩
    · rw [oscillatorPeriod_counts hb fr]
    · rw [oscillatorPeriod_boundary hb fr]
    · rw [oscillatorPeriod_holds hb]
    · obtain ⟨-, took, only⟩ := holdBackEndPeriod_takes s
      exact ⟨_, by rw [oscillatorPeriod_holdBackEnd hb], holdBackEnd_passes fr, took, only⟩
  · have off : s.powered = false := by simp [State.powered, b]
    rw [step_of_pending_nil empty, tick, off]; rfl
  · show Host.Outcome.next (watchStep s) = _
    rw [watchStep, if_neg (by simp [lost])]
  · show Host.Outcome.next (watchStep s) = _
    rw [watchStep_retained b r, watchCycle_eq]
  · obtain ⟨elapsed, acc⟩ := watchCycle_iterate start n room
    exact ⟨elapsed, acc, fun hn => by subst hn; rw [elapsed]⟩

end Sys2Proof.Proofs
end

section
/-! PROOFS. Requests that are refused: keys and codes out of range, and case numbers that no slot holds (R176). -/

namespace Sys2Proof.Proofs

open Sys2Proof.Machine Sys2Proof.Safety

/-! ### Keys and codes that name nothing -/

theorem unitOf?_eq_none {n : Nat} (h : n = 0 ∨ 8 < n) : unitOf? n = none := by
  unfold unitOf?; split <;> first | omega | rfl

theorem inputOf?_eq_none {n : Nat} (h : n = 0 ∨ 4 < n) : inputOf? n = none := by
  unfold inputOf?; split <;> first | omega | rfl

theorem kindOf?_eq_none {n : Nat} (h : 4 < n) : kindOf? n = none := by
  unfold kindOf?; split <;> first | omega | rfl

theorem classOf?_eq_none {n : Nat} (h : 3 < n) : classOf? n = none := by
  unfold classOf?; split <;> first | omega | rfl

theorem unitOf?_unitNumber {n : Nat} {u : UnitId} (h : n = unitNumber u) : unitOf? n = some u := by
  subst h; cases u <;> rfl

theorem teamValid_eq_false {n : Nat} (h : n = 0 ∨ 15 < n) : teamValid n = false := by
  unfold teamValid; rcases h with rfl | h
  · rfl
  · simp [show ¬ n ≤ 15 by omega]

theorem shiftNumberFull_of_le {s : State} (h : 4294967295 ≤ s.shc.number) : shiftNumberFull s = true :=
  decide_eq_true h

/-! ### What each block answers to them -/

theorem askSetTime_refused {f : Nat} (h : 9999999 < f) (x n : Nat) (s : State) :
    askSetTime x f n s = (s, refuse .outOfRange) := if_pos h

theorem askSetInput_refused {k i e c x : Nat} (h : (k = 0 ∨ 8 < k) ∨ i = 0 ∨ 4 < i ∨ 1 < e ∨ 3 < c ∨ 1 < x)
    (p n : Nat) (s : State) : askSetInput k i e c x p n s = (s, refuse .outOfRange) := by
  unfold askSetInput
  split
  · rename_i hk hi he hc hx
    rcases h with h | h | h | h | h | h
    · rw [unitOf?_eq_none h] at hk; cases hk
    · rw [inputOf?_eq_none (.inl h)] at hi; cases hi
    · rw [inputOf?_eq_none (.inr h)] at hi; cases hi
    · rw [flagOf?_of_gt h] at he; cases he
    · rw [classOf?_eq_none h] at hc; cases hc
    · rw [flagOf?_of_gt h] at hx; cases hx
  · rfl

theorem askReadInput_refused {k i f : Nat} (h : (k = 0 ∨ 8 < k) ∨ i = 0 ∨ 4 < i ∨ 1 < f) (s : State) :
    askReadInput k i f s = (s, refuse .outOfRange) := by
  unfold askReadInput
  split
  · rename_i hk hi hf
    rcases h with h | h | h | h
    · rw [unitOf?_eq_none h] at hk; cases hk
    · rw [inputOf?_eq_none (.inl h)] at hi; cases hi
    · rw [inputOf?_eq_none (.inr h)] at hi; cases hi
    · rw [flagOf?_of_gt h] at hf; cases hf
  · rfl

theorem askAckCase_refused {n b : Nat} (h : n = 0 ∨ b = 0) (s : State) :
    askAckCase n b s = (s, refuse .outOfRange) := if_pos h

theorem askClearCase_refused {n b : Nat} (h : n = 0 ∨ b = 0) (s : State) :
    askClearCase n b s = (s, refuse .outOfRange) := if_pos h

theorem askRetireCase_refused {n : Nat} (h : n = 0) (s : State) :
    askRetireCase n s = (s, refuse .outOfRange) := if_pos h

/-- The case commands find no case of a number that no slot holds (R66, R67, R68). -/
theorem caseCommands_missing {s : State} {n : Nat} (hn : n ≠ 0) (h : s.findCase n = none) :
    (∀ b, b ≠ 0 → askAckCase n b s = (s, refuse .noSuchRecord) ∧ askClearCase n b s = (s, refuse .noSuchRecord))
      ∧ askRetireCase n s = (s, refuse .noSuchRecord) := by
  refine ⟨fun b hb => ⟨?_, ?_⟩, ?_⟩
  · simp [askAckCase, hn, hb, h]
  · simp [askClearCase, hn, hb, h]
  · simp [askRetireCase, hn, h]

theorem askClearOverflow_refused {k : Nat} (h : k = 0 ∨ 8 < k) (s : State) :
    askClearOverflow k s = (s, refuse .outOfRange) := by rw [askClearOverflow, unitOf?_eq_none h]

/-- The account commands refuse a unit or a kind that is none (R113). -/
theorem accountCommands_refused {k kind : Nat} (h : (k = 0 ∨ 8 < k) ∨ 4 < kind) (s : State) :
    askReadAccount k kind s = (s, refuse .outOfRange)
      ∧ (∀ l i, askPresetAccount k kind l i s = (s, refuse .outOfRange))
      ∧ askRetireAccount k kind s = (s, refuse .outOfRange)
      ∧ askReinstateAccount k kind s = (s, refuse .outOfRange) := by
  have none : unitOf? k = none ∨ kindOf? kind = none := h.imp unitOf?_eq_none kindOf?_eq_none
  unfold askReadAccount askPresetAccount askRetireAccount askReinstateAccount
  rcases none with none | none <;> rw [none] <;> cases unitOf? k <;> exact ⟨rfl, fun _ _ => rfl, rfl, rfl⟩

theorem askSignOn_refused {b m : Nat} {s : State} (h : b = 0 ∨ teamValid m = false ∨ shiftNumberFull s = true) :
    askSignOn b m s = (s, refuse .outOfRange) := if_pos h

theorem askAccept_refused {b m : Nat} {s : State} (h : b = 0 ∨ teamValid m = false ∨ shiftNumberFull s = true)
    (v : Nat) : askAccept b v m s = (s, refuse .outOfRange) := if_pos h

theorem askPresence_refused {b : Nat} (h : b = 0) (s : State) :
    askPresence b s = (s, refuse .outOfRange) := if_pos h

/-- Settles O17: each command by what its block answers, which `serve_refused` sends on. -/
theorem keysOutOfRangeAreRefused : Obligations.KeysOutOfRangeAreRefused := by
  intro s tk no missing noUnit noTeam
  have sent {code : Nat} {d : Bool} {act : State → State × Answer} {st : Status} (e : act s = (s, refuse st)) :
      (Host.Outcome.next (serve code d act s) : Result) = .next (sendReply code { status := st, body := [] } s) :=
    congrArg Host.Outcome.next (serve_refused tk e)
  refine ⟨fun x f n h => ⟨sent (askSetTime_refused h _ _ s), ?_⟩, fun k e p d h => sent (askSetReference_refused h _ _ s),
    fun k i e c x p n h => sent (askSetInput_refused h _ _ s), fun k i f h => sent (askReadInput_refused h s),
    fun n b => ⟨fun h => ?_, fun h => sent (askRetireCase_refused h s), fun hn h => ?_⟩,
    fun k h => sent (askClearOverflow_refused h s), fun k kind l i h => ?_, fun b v m h => ?_,
    fun b h => sent (askPresence_refused h s)⟩
  · show Host.Outcome.next (broadcastSetTime _ _ _ s) = _
    rw [broadcastSetTime, askSetTime_refused h, ite_self]
  · exact ⟨sent (askAckCase_refused h s), sent (askClearCase_refused h s)⟩
  · obtain ⟨ackClear, retire⟩ := caseCommands_missing hn h
    exact ⟨fun hb => ⟨sent (ackClear _ hb).1, sent (ackClear _ hb).2⟩, sent retire⟩
  · obtain ⟨read, preset, retire, reinstate⟩ := accountCommands_refused h s
    exact ⟨sent read, sent (preset _ _), sent retire, sent reinstate⟩
  · have refused := h.imp_right (Or.imp teamValid_eq_false shiftNumberFull_of_le)
    exact ⟨sent (askSignOn_refused refused), sent (askAccept_refused refused _)⟩

end Sys2Proof.Proofs
end

section
/-! PROOFS. The reads: what each answers, and that it changes no record (R191). -/

namespace Sys2Proof.Proofs

open Sys2Proof.Machine Sys2Proof.Safety

/-! ### The lengths of the bodies (R191) -/

theorem memberBytes_length {w : Nat} {f : Member → List Byte} (h : ∀ m, (f m).length = w) (l : List Member) :
    (memberBytes w f l).length = 4 * w := by
  simp only [memberBytes, List.length_append, flatMap_length f w h, List.length_take, zeros_length]
  rcases Nat.le_total l.length 4 with le | le
  · rw [Nat.min_eq_right le, ← Nat.mul_comm w, ← Nat.mul_add, Nat.add_sub_cancel' le, Nat.mul_comm]
  · rw [Nat.min_eq_left le, Nat.sub_eq_zero_of_le le]; omega

theorem openGroupBytes_length (g : Option OpenGroup) : (openGroupBytes g).length = 122 := by
  cases g with
  | none => simp [openGroupBytes]
  | some g => simp [openGroupBytes, memberBytes_length]

theorem closedGroupBytes_length (g : Option ClosedGroup) : (closedGroupBytes g).length = 121 := by
  cases g with
  | none => simp [closedGroupBytes]
  | some g => simp [closedGroupBytes, memberBytes_length]

theorem optElapsed_length (t : Option Stamp) : (optElapsed t).length = 8 := by cases t <;> simp [optElapsed]

theorem presenceBytes_length (s : State) : (presenceBytes s).length = 8 := by
  unfold presenceBytes; split <;> simp

theorem perUnit_toList_length {α : Type} (p : PerUnit α) : p.toList.length = 8 := rfl

theorem tallies_length (l : List (PerKind Nat)) : (l.flatMap tallyBytes).length = 20 * l.length := by
  rw [flatMap_length tallyBytes 20 tallyBytes_length]

theorem numbers_length (l : List Nat) : (l.flatMap (toBytes 2)).length = 2 * l.length := by
  rw [flatMap_length _ 2 (toBytes_length 2)]

theorem rosterBytes_length (l : List Nat) :
    ((l.take 6).flatMap (toBytes 2)).length + (zeros (2 * (6 - l.length))).length = 12 := by
  rw [numbers_length, zeros_length, List.length_take]; omega

theorem shiftBody_length (s : State) : (shiftBody s).length = 239 := by
  have roster := rosterBytes_length s.shc.roster
  unfold shiftBody
  generalize nextBoundary s = b
  simp only [List.length_append, toBytes_length, optNum_length, optStamp_length, presenceBytes_length, tallies_length,
    perUnit_toList_length]
  omega

theorem summaryBytes_length (x : ShiftSummary) : (summaryBytes x).length = 203 := by
  simp [summaryBytes, perUnit_toList_length]

theorem itemBytes_length (x : StoreItem) : (itemBytes x).length = 3 := by cases x <;> simp [itemBytes]

theorem queueBytes_length (q : List (UnitId × Kind)) : (queueBytes q).length = 32 := by
  rw [queueBytes, List.length_append, flatMap_length _ 2 (by simp), zeros_length, List.length_take]; omega

theorem flightBytes_length (t : Option Transaction) : (flightBytes t).length = 4 := by
  cases t <;> simp [flightBytes, itemBytes_length]

theorem lastCommitBytes_length (c : Option LastCommit) : (lastCommitBytes c).length = 20 := by
  cases c <;> simp [lastCommitBytes]

theorem lastFailureBytes_length (f : Option LastFailure) : (lastFailureBytes f).length = 21 := by
  cases f <;> simp [lastFailureBytes, itemBytes_length]

theorem unitBody_length (r : UnitRecord) (supply : Option Nat) : (unitBody r supply).length = 23 := by
  simp [unitBody, bandBytes]

theorem statusCounts_length (s : State) : (statusCounts s).length = 5 := by simp [statusCounts]

theorem listAnswer_length (l : List Case) : (listAnswer l).body.length = 2 + 50 * min 4 l.length := by
  simp only [listAnswer, List.length_append, toBytes_length, flatMap_length _ 50 caseRecord_length, List.length_take]

theorem handoverHead_length (p : Nat) (s : State) : (handoverHead p s).length = 8 := by simp [handoverHead]

/-! ### What each read answers -/

/-- A read that leaves the state as it is answers in RUN and in HOLDUP, and changes no record (R178). -/
theorem serve_read {s : State} (l : s.listening = true) {code : Nat} {act : State → State × Answer} {a : Answer}
    (h : act s = (s, a)) : serve code true act s = sendReply code a s := by
  rw [serve_always l, h]

/-- A read that answers OK with a body of this length and beginning answers so at once. -/
theorem serve_body {s : State} (l : s.listening = true) {code n m : Nat} {act : State → State × Answer}
    {b first : List Byte} (h : act s = (s, { status := .ok, body := b })) (len : b.length = n)
    (begins : b.take m = first) :
    ∃ b, b.length = n ∧ b.take m = first
      ∧ (Host.Outcome.next (serve code true act s) : Result) = .next (sendReply code { status := .ok, body := b } s) :=
  ⟨b, len, begins, by rw [serve_read l h]⟩

theorem readTimebase_body (s : State) : ∃ b, askReadTimebase s = (s, { status := .ok, body := b }) ∧ b.length = 58
    ∧ b.take 2 = toBytes 1 (tbStateCode s.tb.state) ++ toBytes 1 (selectionCode s.riu.selection) :=
  ⟨_, rfl, by simp, by simp [List.take_append, List.take_of_length_le]⟩

theorem readStoreStatus_body (s : State) : ∃ b, askReadStoreStatus s = (s, { status := .ok, body := b }) ∧ b.length = 98
    ∧ b.take 1 = toBytes 1 s.asc.frozen.toNat :=
  ⟨_, rfl, by simp [queueBytes_length, flightBytes_length, lastCommitBytes_length, lastFailureBytes_length,
    statusCounts_length], by simp⟩

theorem shiftBody_take (s : State) : (shiftBody s).take 1 = toBytes 1 (shiftStateCode s.shc.state) := by
  unfold shiftBody
  generalize nextBoundary s = b
  simp

theorem summaryBytes_take (x : ShiftSummary) : (summaryBytes x).take 4 = toBytes 4 x.number := by
  simp [summaryBytes]

theorem askReadPreviousShift_none {s : State} (h : s.shc.previous = none) :
    askReadPreviousShift s = (s, refuse .noSuchRecord) := by rw [askReadPreviousShift, h]

theorem askReadPreviousShift_some {s : State} {x : ShiftSummary} (h : s.shc.previous = some x) :
    askReadPreviousShift s = (s, { status := .ok, body := summaryBytes x }) := by rw [askReadPreviousShift, h]

theorem readHandover_zero (s : State) : ∃ b, askReadHandover 0 s = (s, { status := .ok, body := b })
    ∧ b.length = 25 + 5 * (liveCases s).length ∧ b.take 2 = toBytes 2 s.shc.version := by
  refine ⟨_, rfl, ?_, ?_⟩
  · rw [List.length_append, List.length_append, List.length_append, handoverHead_length, toBytes_length,
      flatMap_length handoverEntry 5 (by simp [handoverEntry]), flatMap_length _ 2 (by simp)]
    change 8 + 1 + 5 * (liveCases s).length + 2 * 8 = _
    omega
  · simp [handoverHead]

theorem readHandover_tallies {p : Nat} (h : p = 1 ∨ p = 2) (s : State) :
    ∃ b, askReadHandover p s = (s, { status := .ok, body := b })
      ∧ b.length = 88 ∧ b.take 2 = toBytes 2 s.shc.version := by
  rcases h with rfl | rfl
  all_goals
    refine ⟨_, rfl, ?_, ?_⟩
    · simp [handoverHead_length, perUnit_toList_length]
    · simp [handoverHead]

theorem askReadHandover_refused {p : Nat} (h : 2 < p) (s : State) : askReadHandover p s = (s, refuse .outOfRange) := by
  unfold askReadHandover; split <;> first | omega | rfl

/-- The reads of one unit answer of that unit (R72, R94, R110). -/
theorem readOverflow_body {k : Nat} {u : UnitId} (h : k = unitNumber u) (s : State) :
    ∃ b, askReadOverflow k s = (s, { status := .ok, body := b }) ∧ b.length = 38
      ∧ b.take 2 = toBytes 2 (s.ct.overflow.get u).count := by
  rw [askReadOverflow, unitOf?_unitNumber h]
  exact ⟨_, rfl, by simp, by simp⟩

theorem readGroup_body {k : Nat} {u : UnitId} (h : k = unitNumber u) (s : State) :
    ∃ b, askReadGroup k s = (s, { status := .ok, body := b }) ∧ b.length = 247
      ∧ b.take 1 = toBytes 1 s.tgr.windowExp := by
  rw [askReadGroup, unitOf?_unitNumber h]
  exact ⟨_, rfl, by simp [openGroupBytes_length, closedGroupBytes_length],
    by simp⟩

theorem readUnit_body {k : Nat} {u : UnitId} (h : k = unitNumber u) (s : State) :
    ∃ b, askReadUnit k s = (s, { status := .ok, body := b }) ∧ b.length = 23
      ∧ b.take 1 = toBytes 1 (modeCode (s.unit u).mode) := by
  rw [askReadUnit, unitOf?_unitNumber h]
  exact ⟨_, rfl, unitBody_length _ _, by simp [unitBody]⟩

theorem unitReads_refused {k : Nat} (h : k = 0 ∨ 8 < k) (s : State) :
    askReadOverflow k s = (s, refuse .outOfRange) ∧ askReadGroup k s = (s, refuse .outOfRange)
      ∧ askReadUnit k s = (s, refuse .outOfRange) := by
  unfold askReadOverflow askReadGroup askReadUnit
  rw [unitOf?_eq_none h]; exact ⟨rfl, rfl, rfl⟩

theorem readCase_body {n : Nat} (hn : n ≠ 0) {s : State} {u : UnitId} {j : SlotId} {c : Case}
    (h : s.findCase n = some (u, j, c)) :
    ∃ b, askReadCase n s = (s, { status := .ok, body := b }) ∧ b.length = 74 ∧ b.take 2 = toBytes 2 c.number := by
  rw [askReadCase, if_neg hn, h]
  exact ⟨_, rfl, by simp [optElapsed_length], by simp [caseRecord]⟩

theorem askReadCase_missing {n : Nat} (hn : n ≠ 0) {s : State} (h : s.findCase n = none) :
    askReadCase n s = (s, refuse .noSuchRecord) := by rw [askReadCase, if_neg hn, h]

theorem askListCases_unit {k : Nat} {u : UnitId} (h : k = unitNumber u) (cursor : Nat) (s : State) :
    askListCases k cursor s = (s, listAnswer (listedCases (some u) cursor s)) := by
  rw [askListCases, if_neg (by subst h; cases u <;> decide), unitOf?_unitNumber h]

theorem askListCases_refused {k : Nat} (h : 8 < k) (cursor : Nat) (s : State) :
    askListCases k cursor s = (s, refuse .outOfRange) := by
  rw [askListCases, if_neg (by omega), unitOf?_eq_none (.inr h)]

/-- Settles O16: each read by its body's length and beginning, or by what refuses it. -/
theorem readsAnswerAndChangeNoRecord : Obligations.ReadsAnswerAndChangeNoRecord := by
  intro s l
  have read {code : Nat} {act : State → State × Answer} {a : Answer} (h : act s = (s, a)) :
      (Host.Outcome.next (serve code true act s) : Result) = .next (sendReply code a s) :=
    congrArg Host.Outcome.next (serve_read l h)
  have body {code n m : Nat} {act : State → State × Answer} {first : List Byte}
      (h : ∃ b, act s = (s, { status := .ok, body := b }) ∧ b.length = n ∧ b.take m = first) :
      ∃ b, b.length = n ∧ b.take m = first
        ∧ (Host.Outcome.next (serve code true act s) : Result) = .next (sendReply code { status := .ok, body := b } s) := by
    obtain ⟨b, h, len, begins⟩ := h
    exact serve_body l h len begins
  refine ⟨read rfl, body (readTimebase_body s), body (readStoreStatus_body s),
    body ⟨_, rfl, shiftBody_length s, shiftBody_take s⟩, fun h => read (askReadPreviousShift_none h),
    fun x h => body ⟨_, askReadPreviousShift_some h, summaryBytes_length x, summaryBytes_take x⟩,
    body (readHandover_zero s), fun p h => body (readHandover_tallies (by rcases h with rfl | rfl <;> decide) s),
    fun p h => read (askReadHandover_refused h s),
    fun k u h => ⟨body (readOverflow_body h s), body (readGroup_body h s), body (readUnit_body h s)⟩,
    fun k h => ?_, fun n u j c hn h => body (readCase_body hn h), fun n hn h => read (askReadCase_missing hn h),
    read (if_pos rfl), fun cursor => ⟨_, listAnswer_length _, read rfl⟩,
    fun k u cursor h => ⟨_, listAnswer_length _, read (askListCases_unit h _ s)⟩,
    fun k cursor h => read (askListCases_refused h _ s)⟩
  obtain ⟨overflow, group, unit⟩ := unitReads_refused h s
  exact ⟨read overflow, read group, read unit⟩

end Sys2Proof.Proofs
end

section
/-! PROOFS. The tally second: which accounts it advances, and how far (R114, R115, R116, R118, R129). -/

namespace Sys2Proof.Proofs

open Sys2Proof.Machine Sys2Proof.Safety

/-! ### One increment of a seconds account -/

/-- An account that an increment finds neither loading nor retired (R116, R129). -/
def takesCount (a : Account) : Bool := !isOutstanding a.status && !a.retired

/-- A seconds account that has counted, with the change of its persistence state (R114, R120). -/
def countedAccount (a : Account) : Account :=
  { a.incremented with status := if a.incremented = a then a.status else afterSeconds a.status }

theorem countedAccount_same {a : Account} (h : a.incremented = a) : countedAccount a = a := by
  rw [countedAccount, if_pos h, h]

theorem countedAccount_changed {a : Account} (h : a.incremented ≠ a) :
    countedAccount a = { a.incremented with status := afterSeconds a.status } := by rw [countedAccount, if_neg h]

/-- A seconds account after an increment (R114, R120, R129). -/
def secondCounted (a : Account) : Account :=
  match a.status with
  | .loading p => { a with status := .loading (bump 65535 p) }
  | _ =>
    if a.retired then a
    else countedAccount a

/-- A shift tally after an increment of its account (R118). -/
def tallyCounted (a : Account) (n : Nat) : Nat := if takesCount a then bump limit32 n else n

/-- A seconds change is one of the persistence state alone (R120). -/
theorem countChange_seconds {k : Kind} (h : isSecondsKind k = true) (u : UnitId) (s : State) :
    countChange u k s = s.setStatus u k (afterSeconds (s.account u k).status) := by
  rw [countChange, if_pos h, secondsChange]

theorem increment_only {k : Kind} (h : isSecondsKind k = true) (u : UnitId) (s : State) :
    increment u k s = { s with rha := (increment u k s).rha } := by
  simp only [increment, countChange_seconds h]
  split
  · rfl
  · split
    · rfl
    · split <;> rfl

theorem increment_loading {u : UnitId} {k : Kind} {s : State} {p : Nat} (h : (s.account u k).status = .loading p) :
    increment u k s = s.setStatus u k (.loading (bump 65535 p)) := by simp only [increment, h]

theorem increment_retired {u : UnitId} {k : Kind} {s : State} (h : isOutstanding (s.account u k).status = false)
    (r : (s.account u k).retired = true) : increment u k s = s := by
  simp only [increment, r, if_true]
  split
  · rename_i e; rw [e] at h; cases h
  · rfl

theorem increment_counts {u : UnitId} {k : Kind} {s : State} (seconds : isSecondsKind k = true)
    (h : isOutstanding (s.account u k).status = false) (r : (s.account u k).retired = false) :
    (∀ v l, (increment u k s).account v l = if v = u ∧ l = k then countedAccount (s.account u k) else s.account v l)
      ∧ ∀ v l, (increment u k s).tally v l = if v = u ∧ l = k then bump limit32 (s.tally u k) else s.tally v l := by
  simp only [increment, countChange_seconds seconds, r]
  split
  · rename_i e; rw [e] at h; cases h
  · by_cases same : (s.account u k).incremented = s.account u k
    · simp [same, countedAccount_same same]
    · rw [countedAccount_changed same]
      simp only [same, if_false, Bool.false_eq_true, State.account_setStatus, State.account_setTally,
        State.account_setAccount, State.tally_setStatus, State.tally_setTally, State.tally_setAccount, and_self, if_true]
      refine ⟨fun v l => ?_, fun v l => trivial⟩
      split <;> rfl

theorem secondCounted_loading {a : Account} {p : Nat} (h : a.status = .loading p) :
    secondCounted a = { a with status := .loading (bump 65535 p) } := by rw [secondCounted, h]

theorem secondCounted_retired {a : Account} (h : isOutstanding a.status = false) (r : a.retired = true) :
    secondCounted a = a := by
  rw [secondCounted]
  split
  · rename_i e; rw [e] at h; cases h
  · rw [if_pos r]

theorem secondCounted_counts {a : Account} (h : isOutstanding a.status = false) (r : a.retired = false) :
    secondCounted a = countedAccount a := by
  rw [secondCounted]
  split
  · rename_i e; rw [e] at h; cases h
  · rw [if_neg (by simp [r])]

/-- An increment of a seconds account changes that account and its tally alone (R114, R118, R120, R129). -/
theorem increment_records {k : Kind} (seconds : isSecondsKind k = true) (u v : UnitId) (l : Kind) (s : State) :
    (increment u k s).account v l = (if v = u ∧ l = k then secondCounted (s.account u k) else s.account v l)
      ∧ (increment u k s).tally v l
        = if v = u ∧ l = k then tallyCounted (s.account u k) (s.tally u k) else s.tally v l := by
  cases out : isOutstanding (s.account u k).status with
  | true =>
    obtain ⟨p, h⟩ : ∃ p, (s.account u k).status = .loading p := by
      cases h : (s.account u k).status <;> first | exact ⟨_, rfl⟩ | rw [h] at out; cases out
    rw [increment_loading h, secondCounted_loading h]
    simp only [State.account_setStatus, State.tally_setStatus, tallyCounted, takesCount, out, Bool.not_true,
      Bool.false_and, Bool.false_eq_true, if_false, true_and]
    split
    · rename_i own; rw [own.1, own.2]
    · rfl
  | false =>
    cases r : (s.account u k).retired with
    | true =>
      rw [increment_retired out r, secondCounted_retired out r]
      simp only [tallyCounted, takesCount, r, Bool.not_true, Bool.and_false, Bool.false_eq_true, if_false]
      constructor <;> split <;> rename_i own <;> first | rw [own.1, own.2] | rfl
    | false =>
      rw [(increment_counts seconds out r).1, (increment_counts seconds out r).2, secondCounted_counts out r]
      simp only [tallyCounted, takesCount, out, r, Bool.not_false, Bool.and_self, if_true, and_self]

/-! ### The tally second -/

/-- The increments of a list of seconds accounts of one unit advance those accounts and no other (R115). -/
theorem foldl_increment_records (u : UnitId) {l : List Kind} (nodup : l.Nodup)
    (seconds : ∀ k ∈ l, isSecondsKind k = true) (v : UnitId) (k : Kind) (s : State) :
    (l.foldl (fun s k => increment u k s) s).account v k
        = (if v = u ∧ k ∈ l then secondCounted (s.account v k) else s.account v k)
      ∧ (l.foldl (fun s k => increment u k s) s).tally v k
        = if v = u ∧ k ∈ l then tallyCounted (s.account v k) (s.tally v k) else s.tally v k := by
  induction l generalizing s with
  | nil => simp
  | cons x l ih =>
    obtain ⟨fresh, nodup⟩ := List.nodup_cons.mp nodup
    obtain ⟨account, tally⟩ := increment_records (seconds x List.mem_cons_self) u v k s
    obtain ⟨restAccount, restTally⟩ := ih nodup (fun k hk => seconds k (List.mem_cons_of_mem _ hk)) (increment u x s)
    rw [List.foldl_cons, restAccount, restTally, account, tally]
    by_cases hv : v = u
    · by_cases hk : k = x
      · subst hv hk; simp [fresh]
      · simp [hv, hk]
    · simp [hv]

theorem foldl_increment_only (u : UnitId) {l : List Kind} (seconds : ∀ k ∈ l, isSecondsKind k = true) (s : State) :
    l.foldl (fun s k => increment u k s) s = { s with rha := (l.foldl (fun s k => increment u k s) s).rha } := by
  induction l generalizing s with
  | nil => rfl
  | cons x l ih =>
    rw [List.foldl_cons, ih (fun k hk => seconds k (List.mem_cons_of_mem _ hk)),
      increment_only (seconds x List.mem_cons_self)]

/-- A unit advances seconds kinds alone, each once (R115). -/
theorem tallyKinds_sound (m : UnitMode) (rotating : Bool) :
    (tallyKinds m rotating).Nodup ∧ ∀ k ∈ tallyKinds m rotating, isSecondsKind k = true := by
  cases m <;> cases rotating <;> decide

/-- The kinds that a unit of a state advances in a tally second (R115). -/
def advances (s : State) (u : UnitId) : List Kind := tallyKinds (s.unit u).mode (s.unit u).rotating

theorem tallyUnit_records (u v : UnitId) (k : Kind) (s : State) :
    (tallyUnit s u).account v k
        = (if v = u ∧ k ∈ advances s u then secondCounted (s.account v k) else s.account v k)
      ∧ (tallyUnit s u).tally v k
        = if v = u ∧ k ∈ advances s u then tallyCounted (s.account v k) (s.tally v k) else s.tally v k :=
  foldl_increment_records u (tallyKinds_sound _ _).1 (tallyKinds_sound _ _).2 v k s

theorem tallyUnit_only (s : State) (u : UnitId) : tallyUnit s u = { s with rha := (tallyUnit s u).rha } :=
  foldl_increment_only u (tallyKinds_sound _ _).2 s

/-- The tally second of a list of units advances the accounts of those units and no other (R115). -/
theorem foldl_tallyUnit_records {l : List UnitId} (nodup : l.Nodup) (v : UnitId) (k : Kind) (s : State) :
    (l.foldl tallyUnit s).account v k
        = (if v ∈ l ∧ k ∈ advances s v then secondCounted (s.account v k) else s.account v k)
      ∧ (l.foldl tallyUnit s).tally v k
        = if v ∈ l ∧ k ∈ advances s v then tallyCounted (s.account v k) (s.tally v k) else s.tally v k := by
  induction l generalizing s with
  | nil => simp
  | cons u l ih =>
    obtain ⟨fresh, nodup⟩ := List.nodup_cons.mp nodup
    obtain ⟨account, tally⟩ := tallyUnit_records u v k s
    obtain ⟨restAccount, restTally⟩ := ih nodup (tallyUnit s u)
    have modes : advances (tallyUnit s u) v = advances s v := by
      rw [advances, advances, State.unit, State.unit, (tallyUnit_frame u s).2.2.2.2.2.1]
    rw [List.foldl_cons, restAccount, restTally, account, tally, modes]
    by_cases hv : v = u
    · subst hv; simp [fresh]
    · simp [hv]

theorem foldl_tallyUnit_only (l : List UnitId) (s : State) :
    l.foldl tallyUnit s = { s with rha := (l.foldl tallyUnit s).rha } := by
  induction l generalizing s with
  | nil => rfl
  | cons u l ih => rw [List.foldl_cons, ih, tallyUnit_only]

theorem tallySecond_records (v : UnitId) (k : Kind) (s : State) :
    (tallySecond s).account v k = (if k ∈ advances s v then secondCounted (s.account v k) else s.account v k)
      ∧ (tallySecond s).tally v k
        = if k ∈ advances s v then tallyCounted (s.account v k) (s.tally v k) else s.tally v k := by
  have := foldl_tallyUnit_records (l := allUnits) (by decide) v k s
  simp only [mem_allUnits, true_and] at this
  exact this

theorem tallySecond_only (s : State) : tallySecond s = { s with rha := (tallySecond s).rha } :=
  foldl_tallyUnit_only allUnits s

/-! ### What a tally second makes of one account -/

theorem bump_eq_min (limit n : Nat) : bump limit n = min (n + 1) (max n limit) := by
  unfold bump; split <;> omega

/-- An increment changes nothing exactly at the limits (R114). -/
theorem incremented_eq_iff (a : Account) : a.incremented = a ↔ AtLimits a := by
  obtain ⟨l, i, p, r, su, sa, st⟩ := a
  simp only [Account.incremented, AtLimits, bump, limit32, Account.mk.injEq]
  by_cases hl : l < 4294967295 <;> by_cases hi : i < 4294967295 <;> simp [hl, hi, Nat.not_lt.mp]

theorem countedAccount_eq (a : Account) : countedAccount a = { a with
    lifetime := if a.lifetime < 4294967295 then a.lifetime + 1 else a.lifetime
    interval := if a.interval < 4294967295 then a.interval + 1 else a.interval
    saturated := a.saturated || decide (4294967295 ≤ a.lifetime)
    status := (countedAccount a).status } := rfl

theorem countedAccount_status (a : Account) :
    (AtLimits a → (countedAccount a).status = a.status)
      ∧ (¬ AtLimits a → (countedAccount a).status =
          if a.status = .clean then .dirty else if a.status = .writing .none then .writing .seconds else a.status) := by
  rw [← incremented_eq_iff]
  refine ⟨fun same => by rw [countedAccount_same same], fun changed => ?_⟩
  rw [countedAccount_changed changed]
  show afterSeconds a.status = _
  cases hs : a.status with
  | writing w => cases w <;> rfl
  | _ => rfl

/-- The kinds that a unit advances are those that its mode and its rotating indication call for (R115). -/
theorem mem_advances (s : State) (u : UnitId) (k : Kind) :
    k ∈ advances s u ↔
      (k = .gen ∧ (s.unit u).mode = .generating) ∨ (k = .pump ∧ (s.unit u).mode = .pumping)
        ∨ (k = .rotate ∧ ((s.unit u).mode = .spinning ∨ (s.unit u).mode = .generating ∨ (s.unit u).mode = .pumping
            ∨ ((s.unit u).mode = .tripped ∧ ((s.unit u).speed = .rolling ∨ (s.unit u).speed = .atSpeed)))) := by
  have turning : (s.unit u).rotating = true ↔ (s.unit u).speed = .rolling ∨ (s.unit u).speed = .atSpeed := by
    simp [UnitRecord.rotating]
  rw [advances, ← turning]
  cases (s.unit u).mode <;> cases (s.unit u).rotating <;> cases k <;> decide

/-- Settles O41: `tallySecond_records` says which accounts take a count, `countedAccount` what the count is. -/
theorem tallySecondFollowsTheMode : Obligations.TallySecondFollowsTheMode := by
  intro s pw passed
  have due : dutyDue s = true := by simp [dutyDue, pw, passed]
  have acts : exec .dutySecondBoundary s
      = .next (tallySecond { s with tb := { s.tb with dutyHanded := s.tb.dutyHanded + 1 } }) := by
    show Host.Outcome.next (if dutyDue s then _ else _) = _
    rw [if_pos due]
  refine ⟨_, acts, tallySecond_only _, fun u k => ?_⟩
  obtain ⟨account, tally⟩ := tallySecond_records u k { s with tb := { s.tb with dutyHanded := s.tb.dutyHanded + 1 } }
  generalize tallySecond { s with tb := { s.tb with dutyHanded := s.tb.dutyHanded + 1 } } = t at *
  change t.account u k = (if k ∈ advances s u then secondCounted (s.account u k) else s.account u k) at account
  change t.tally u k = (if k ∈ advances s u then tallyCounted (s.account u k) (s.tally u k) else s.tally u k) at tally
  intro r a turning counts
  have takes : k ∈ advances s u ↔ counts := mem_advances s u k
  refine ⟨fun h => ?_, fun h n loading => ?_, fun h out r => ?_⟩
  · rcases h with no | ⟨retired, out⟩
    · rw [account, tally, if_neg (mt takes.mp no), if_neg (mt takes.mp no)]
      exact ⟨rfl, rfl⟩
    · rw [account, tally, secondCounted_retired out retired, tallyCounted, takesCount, retired]
      simp [a]
  · rw [if_pos (takes.mpr h), secondCounted_loading loading, bump_eq_min] at account
    rw [if_pos (takes.mpr h), tallyCounted, takesCount, loading] at tally
    exact ⟨account, tally⟩
  · rw [if_pos (takes.mpr h), secondCounted_counts out r] at account
    rw [if_pos (takes.mpr h), tallyCounted, takesCount, out, r] at tally
    obtain ⟨limit, below⟩ := countedAccount_status a
    refine ⟨⟨?_, tally⟩, ?_, ?_⟩
    · rw [account]; exact countedAccount_eq a
    · rw [account]; exact limit
    · rw [account]; exact below

end Sys2Proof.Proofs
end

section
/-! PROOFS. What a part in BACKUP does: nothing but to count watch cycles and follow its pins (R6, R196). -/

namespace Sys2Proof.Proofs

open Sys2Proof.Machine Sys2Proof.Safety

/-- The events that a part in BACKUP takes: its pins, its watch oscillator, its retention and its supply (R6, R196). -/
def takenInBackup : Instr → Bool
  | .tripContactEdge .. | .unitContactEdge .. | .pfiEdge .. | .backupRetentionLost | .watchOscillatorCycle
  | .mainSupplyReturn .. => true
  | _ => false

/-- A part that is not powered hears no command (R175). -/
theorem command_unpowered {s : State} (off : s.powered = false) {i : Instr} (c : (requestBytes i).isSome = true) :
    exec i s = .next s := by
  have unheard (code : Nat) (d : Bool) (act : State → State × Answer) : serve code d act s = s :=
    serve_unheard (by simp [State.listening, off])
  cases i <;> first
    | exact congrArg Host.Outcome.next (unheard _ _ _)
    | (exfalso; revert c; simp [requestBytes]; done)
    | skip
  case setTime b x f n =>
    show Host.Outcome.next (if b then broadcastSetTime _ _ _ s else serve _ _ _ s) = _
    rw [unheard, broadcastSetTime, if_neg (c := _ ∧ _) (by simp [off]), ite_self]
  case unknownCommand code =>
    show Host.Outcome.next (if _ then s else serve _ _ _ s) = _
    rw [unheard, ite_self]

/-- Nothing falls due in a part that is not powered, but the loss of a source, which has no effect there (R196). -/
theorem nothing_due_unpowered {s : State} (off : s.powered = false) :
    boundaryReady s = false ∧ dutyDue s = false ∧ (∀ u, groupDue s u = false) ∧ (∀ u k, contactDue s u k = false)
      ∧ (∀ u i, assertionDue s u i = false ∧ releaseDue s u i = false) ∧ periodDue s = false ∧ presenceDue s = false
      ∧ pfiDue s = false ∧ restoreDue s = false := by
  unfold boundaryReady dutyDue groupDue contactDue assertionDue releaseDue periodDue presenceDue pfiDue restoreDue
  simp only [off, Bool.false_and, true_and]
  refine ⟨fun u => ?_, fun u k => ?_, fun u i => ⟨?_, ?_⟩, ?_, ?_, ?_⟩ <;> split <;> rfl

/-- No transaction makes progress in a part that is not powered (R196). -/
theorem inPhase_unpowered {s : State} (off : s.powered = false) :
    (∀ p, inPhase s p = false) ∧ grantWaitOver s = false ∧ cycleWaitOver s = false := by
  have phase (p : Phase) : inPhase s p = false := by unfold inPhase; split <;> simp [off]
  refine ⟨phase, ?_, ?_⟩
  · unfold grantWaitOver; split <;> simp [phase]
  · unfold cycleWaitOver; (repeat' split) <;> simp [phase]

/-- A part that is not powered takes no event but those of BACKUP (R196). -/
theorem event_unpowered {s : State} (off : s.powered = false) {i : Instr} (c : requestBytes i = none)
    (h : takenInBackup i = false) : exec i s = .next s := by
  obtain ⟨boundary, duty, group, contact, input, period, presence, pfi, restore⟩ := nothing_due_unpowered off
  obtain ⟨phase, grant, cycle⟩ := inPhase_unpowered off
  cases i <;> first
    | (simp [requestBytes] at c; done)
    | (simp [takenInBackup] at h; done)
    | refine congrArg Host.Outcome.next ?_
  case assertionConfirmation u i => split <;> simp [(input u i).1]
  case releaseConfirmation u i => split <;> simp [(input u i).2]
  case busGrant => split <;> simp [phase]
  case grantTimeout => split <;> simp [grant]
  case transferComplete => split <;> simp [phase]
  case storeWriteCycleDone => split <;> simp [phase]
  case notReadyTimeout => split <;> simp [cycle]
  case readBackComplete => split <;> simp [phase]
  case grantWithdrawn => split <;> simp [phase]
  case storeReadComplete => split <;> simp [phase]
  all_goals exact if_neg (by simp [off, boundary, duty, group, contact, period, presence, pfi, restore])

/-- Nothing but its own steps changes a part in BACKUP (R196). -/
theorem exec_unpowered {s : State} (off : s.powered = false) {i : Instr} (h : takenInBackup i = false) :
    exec i s = .next s := by
  cases c : requestBytes i with
  | some x => exact command_unpowered off (by simp [c])
  | none => exact event_unpowered off c h

/-! ### The pins, the watch oscillator and the retention -/

/-- What a part in BACKUP may change: the counts, the levels at the pins and the retention record (R6, R196). -/
structure OnlyTimeAndPins (s t : State) : Prop where
  only : t = { s with tb := t.tb, tiu := t.tiu, usm := t.usm, spm := t.spm }
  testMode : t.tiu.testMode = s.tiu.testMode
  inputs : ∀ u k, t.input u k = { s.input u k with closed := (t.input u k).closed }
  supplyReading : t.usm.supplyReading = s.usm.supplyReading
  scan : t.usm.scan = s.usm.scan
  units : ∀ u, t.unit u = { s.unit u with
    breaker := { (s.unit u).breaker with level := (t.unit u).breaker.level }
    pumpMode := { (s.unit u).pumpMode with level := (t.unit u).pumpMode.level } }
  supply : t.spm = { s.spm with pfiLevel := t.spm.pfiLevel, retained := t.spm.retained }

theorem OnlyTimeAndPins.refl (s : State) : OnlyTimeAndPins s s :=
  ⟨rfl, rfl, fun _ _ => rfl, rfl, rfl, fun _ => rfl, rfl⟩

theorem OnlyTimeAndPins.time (s : State) (x : Timebase) : OnlyTimeAndPins s { s with tb := x } :=
  ⟨rfl, rfl, fun _ _ => rfl, rfl, rfl, fun _ => rfl, rfl⟩

theorem OnlyTimeAndPins.pfi (s : State) (b : Bool) :
    OnlyTimeAndPins s { s with spm := { s.spm with pfiLevel := b } } :=
  ⟨rfl, rfl, fun _ _ => rfl, rfl, rfl, fun _ => rfl, rfl⟩

theorem OnlyTimeAndPins.retention (s : State) (b : Bool) :
    OnlyTimeAndPins s { s with spm := { s.spm with retained := b } } :=
  ⟨rfl, rfl, fun _ _ => rfl, rfl, rfl, fun _ => rfl, rfl⟩

theorem OnlyTimeAndPins.input (s : State) (u : UnitId) (i : InputId) (b : Bool) :
    OnlyTimeAndPins s (s.setInput u i { s.input u i with closed := b }) := by
  refine ⟨rfl, rfl, fun v j => ?_, rfl, rfl, fun _ => rfl, rfl⟩
  by_cases own : v = u ∧ j = i
  · obtain ⟨rfl, rfl⟩ := own; simp
  · simp [own]

theorem OnlyTimeAndPins.contact (s : State) (u : UnitId) (k : ContactId) (b : Bool) :
    OnlyTimeAndPins s (s.setUnit u ((s.unit u).setContact k { (s.unit u).contact k with level := b })) := by
  refine ⟨rfl, rfl, fun _ _ => rfl, rfl, rfl, fun v => ?_, rfl⟩
  by_cases own : v = u
  · subst own; cases k <;> simp [UnitRecord.setContact, UnitRecord.contact]
  · simp [own]

/-- A step of a part in BACKUP other than the return of the supply (R6, R196). -/
theorem backup_step {i : Instr} {s t : State} (b : s.spm.supply = .backup) (back : ∀ a f, i ≠ .mainSupplyReturn a f)
    (e : exec i s = .next t) : OnlyTimeAndPins s t ∧ (i ≠ .watchOscillatorCycle → t.tb = s.tb) := by
  have off : s.powered = false := by simp [State.powered, b]
  by_cases h : takenInBackup i = false
  · rw [exec_unpowered off h] at e
    obtain rfl := next_inj e
    exact ⟨.refl _, fun _ => rfl⟩
  · cases i <;> first | (simp [takenInBackup] at h; done) | skip
    case mainSupplyReturn a f => exact absurd rfl (back a f)
    case tripContactEdge u i c =>
      obtain rfl := next_inj e
      split
      · exact ⟨.refl s, fun _ => rfl⟩
      · rw [if_neg (by simp [off])]; exact ⟨.input s u i c, fun _ => rfl⟩
    case unitContactEdge u k c =>
      obtain rfl := next_inj e
      split
      · exact ⟨.refl s, fun _ => rfl⟩
      · rw [if_neg (by simp [off])]; exact ⟨.contact s u k c, fun _ => rfl⟩
    case pfiEdge c =>
      obtain rfl := next_inj e
      split
      · exact ⟨.refl s, fun _ => rfl⟩
      · rw [if_neg (by simp [off])]; exact ⟨.pfi s c, fun _ => rfl⟩
    case backupRetentionLost =>
      obtain rfl := next_inj e
      rw [if_pos b]; exact ⟨.retention s false, fun _ => rfl⟩
    case watchOscillatorCycle =>
      obtain rfl := next_inj e
      refine ⟨?_, fun no => absurd rfl no⟩
      unfold watchStep
      split
      · exact .time s _
      · exact .refl s

/-- Settles O6: `backup_step` says what each step changes. -/
theorem backupChangesOnlyTimeAndPins : Obligations.BackupChangesOnlyTimeAndPins := by
  intro i s t b back e
  obtain ⟨⟨only, testMode, inputs, supplyReading, scan, units, supply⟩, time⟩ := backup_step b back e
  exact ⟨only, time, testMode, inputs, supplyReading, scan, units, supply⟩

end Sys2Proof.Proofs
end

section
/-! PROOFS. The settings of each block, and the operations that leave them as they are: the period of the commits in the
Account Store Controller, the roster and the timing in the Shift Controller, the bands and calibrations of the units,
the group window, the configurations of the trip inputs and the settings of the sources. -/

namespace Sys2Proof.Proofs

open Sys2Proof.Machine Sys2Proof.Safety

/-! ### The commit period (R149) -/

@[simp] theorem requestQueue_periodExp (u : UnitId) (k : Kind) (s : State) :
    (requestQueue u k s).asc.periodExp = s.asc.periodExp := by
  unfold requestQueue; (repeat' split) <;> simp

@[simp] theorem queueChange_periodExp (u : UnitId) (k : Kind) (s : State) :
    (queueChange u k s).asc.periodExp = s.asc.periodExp := by
  unfold queueChange; (repeat' split) <;> simp

@[simp] theorem countChange_periodExp (u : UnitId) (k : Kind) (s : State) :
    (countChange u k s).asc.periodExp = s.asc.periodExp := by
  unfold countChange; split <;> simp

@[simp] theorem increment_periodExp (u : UnitId) (k : Kind) (s : State) :
    (increment u k s).asc.periodExp = s.asc.periodExp := by
  simp only [increment]; (repeat' split) <;> simp

@[simp] theorem deliver_periodExp (u : UnitId) (k : Kind) (a : Account) (s : State) :
    (deliver u k a s).asc.periodExp = s.asc.periodExp := by
  simp only [deliver, applyPending]; (repeat' split) <;> simp

@[simp] theorem beginTransaction_periodExp (i : StoreItem) (o : Origin) (r : List Byte) (s : State) :
    (beginTransaction i o r s).asc.periodExp = s.asc.periodExp := rfl

@[simp] theorem beginAccountWrite_periodExp (u : UnitId) (k : Kind) (o : Origin) (s : State) :
    (beginAccountWrite u k o s).asc.periodExp = s.asc.periodExp := rfl

@[simp] theorem release_periodExp (s : State) : (release s).asc.periodExp = s.asc.periodExp := rfl

@[simp] theorem setLoad_periodExp (l : Load) (s : State) : (setLoad l s).asc.periodExp = s.asc.periodExp := rfl

@[simp] theorem raiseFault_periodExp (s : State) : (raiseFault s).asc.periodExp = s.asc.periodExp := rfl

@[simp] theorem takeTrigger_periodExp (s : State) : (takeTrigger s).asc.periodExp = s.asc.periodExp := by
  unfold takeTrigger beginCommit; (repeat' split) <;> rfl

@[simp] theorem commitEnd_periodExp (done : Bool) (s : State) :
    (commitEnd done s).asc.periodExp = s.asc.periodExp := by
  simp only [commitEnd, takeRecommit, takeFreeze]; (repeat' split) <;> simp

@[simp] theorem chooseNext_periodExp (fuel : Nat) (s : State) :
    (chooseNext fuel s).asc.periodExp = s.asc.periodExp := by
  induction fuel generalizing s with
  | zero => rfl
  | succ n ih => unfold chooseNext; (repeat' split) <;> simp [ih]

@[simp] theorem serveStore_periodExp (s : State) : (serveStore s).asc.periodExp = s.asc.periodExp :=
  chooseNext_periodExp 3 s

@[simp] theorem commitTrigger_periodExp (s : State) : (commitTrigger s).asc.periodExp = s.asc.periodExp := by
  simp [commitTrigger]

@[simp] theorem countOne_periodExp (u : UnitId) (k : Kind) (s : State) :
    (countOne u k s).asc.periodExp = s.asc.periodExp := by simp [countOne]

@[simp] theorem endLoad_periodExp (s : State) : (endLoad s).asc.periodExp = s.asc.periodExp := by
  simp only [endLoad, takeRecommit, serveStore_periodExp]; split <;> simp

@[simp] theorem loadNextRead_periodExp (l : Load) (s : State) :
    (loadNextRead l s).asc.periodExp = s.asc.periodExp := by
  unfold loadNextRead; split <;> simp

@[simp] theorem loadNextInit_periodExp (l : Load) (s : State) :
    (loadNextInit l s).asc.periodExp = s.asc.periodExp := by
  unfold loadNextInit; (repeat' split) <;> simp

@[simp] theorem beginReload_periodExp (s : State) : (beginReload s).asc.periodExp = s.asc.periodExp := by
  simp [beginReload]

@[simp] theorem afterRecord_periodExp (s : State) : (afterRecord s).asc.periodExp = s.asc.periodExp := by
  unfold afterRecord; (repeat' split) <;> simp

@[simp] theorem itemEnd_periodExp (i : StoreItem) (w : Bool) (s : State) :
    (itemEnd i w s).asc.periodExp = s.asc.periodExp := by
  unfold itemEnd writeEnd; (repeat' split) <;> simp

@[simp] theorem commitRecordWritten_periodExp (i : StoreItem) (s : State) :
    (commitRecordWritten i s).asc.periodExp = s.asc.periodExp := by
  simp only [commitRecordWritten]; split <;> simp

@[simp] theorem transactionWritten_periodExp (t : Transaction) (s : State) :
    (transactionWritten t s).asc.periodExp = s.asc.periodExp := by
  simp only [transactionWritten, initWritten]; (repeat' split) <;> simp

@[simp] theorem transactionFailed_periodExp (t : Transaction) (r : FailReason) (s : State) :
    (transactionFailed t r s).asc.periodExp = s.asc.periodExp := by
  simp only [transactionFailed, initFailure, readMissed]; (repeat' split) <;> simp

@[simp] theorem readDelivered_periodExp (l : Load) (i : StoreItem) (b : List Byte) (s : State) :
    (readDelivered l i b s).asc.periodExp = s.asc.periodExp := by
  simp only [readDelivered]; (repeat' split) <;> simp

/-! ### The roster and the timing (R152, R153) -/

/-- The settings of the Shift Controller (R152, R153). -/
def shiftSettings (h : Shc) : List Nat × Nat × Nat × Option Nat × Bool :=
  (h.roster, h.lead, h.grace, h.presenceExp, h.auto)

@[simp] theorem setAlarm_shiftSettings (b : Bool) (s : State) :
    shiftSettings (setAlarm b s).shc = shiftSettings s.shc := rfl

@[simp] theorem bumpVersion_shiftSettings (s : State) :
    shiftSettings (bumpVersion s).shc = shiftSettings s.shc := rfl

@[simp] theorem restartPresence_shiftSettings (s : State) :
    shiftSettings (restartPresence s).shc = shiftSettings s.shc := rfl

@[simp] theorem showPresence_shiftSettings (n : Nat) (s : State) :
    shiftSettings (showPresence n s).shc = shiftSettings s.shc := by
  unfold showPresence; split <;> rfl

theorem crossPoint_shiftSettings (s : State) (x : Point × Nat) :
    shiftSettings (crossPoint s x).shc = shiftSettings s.shc := by
  unfold crossPoint crossOpening crossDue crossOverdue; (repeat' split) <;> rfl

theorem foldl_crossPoint_shiftSettings (l : List (Point × Nat)) (s : State) :
    shiftSettings (l.foldl crossPoint s).shc = shiftSettings s.shc := by
  induction l generalizing s with
  | nil => rfl
  | cons x l ih => rw [List.foldl_cons, ih, crossPoint_shiftSettings]

@[simp] theorem seeTime_shiftSettings (x f : Nat) (s : State) :
    shiftSettings (seeTime x f s).shc = shiftSettings s.shc := rfl

@[simp] theorem takeTimeOfDay_shiftSettings (s : State) :
    shiftSettings (takeTimeOfDay s).shc = shiftSettings s.shc := by
  have crossed : shiftSettings (crossPoints s).shc = shiftSettings s.shc := by
    unfold crossPoints; split
    · exact foldl_crossPoint_shiftSettings _ s
    · rfl
  rw [takeTimeOfDay, seeTime_shiftSettings, crossed]

@[simp] theorem report_shiftSettings (us : List UnitId) (s : State) :
    shiftSettings (report us s).shc = shiftSettings s.shc := by
  simp [report]

@[simp] theorem incrementShift_shiftSettings (b : Bool) (d t : Nat) (k : Option Nat) (s : State) :
    shiftSettings (incrementShift b d t k s).shc = shiftSettings s.shc := by
  simp only [incrementShift, evalHandoverLamp_frame, evalCaseLamp_frame, raise_frame, restartPresence_shiftSettings,
    bumpVersion_shiftSettings, commitTrigger_frame]
  rfl

@[simp] theorem resetS_shiftSettings (s : State) : shiftSettings (resetS s).shc = shiftSettings s.shc := rfl

@[simp] theorem presenceLapse_shiftSettings (s : State) :
    shiftSettings (presenceLapse s).shc = shiftSettings s.shc := rfl

@[simp] theorem warmShift_shiftSettings (s : State) : shiftSettings (warmShift s).shc = shiftSettings s.shc := by
  have restarted (t : State) :
      shiftSettings (if dutyHeld t.shc then restartPresence t else t).shc = shiftSettings t.shc := by
    split <;> rfl
  simp only [warmShift, restarted, takeTimeOfDay_shiftSettings]

end Sys2Proof.Proofs
end

section
/-! PROOFS. The bands, the calibrations and the group window, and the settings that a trip, a release and a start leave
as they are (R51, R95, R108, R109, R197). -/

namespace Sys2Proof.Proofs

open Sys2Proof.Machine Sys2Proof.Safety

/-! ### The bands and calibrations (R108, R109) -/

/-- The settings of a unit (R108, R109). -/
def unitSettings (r : UnitRecord) : Bands × Bool × Nat := (r.bands, r.calMinus, r.calMagnitude)

/-- The settings of every unit. -/
def bandSettings (x : Usm) (u : UnitId) : Bands × Bool × Nat := unitSettings (x.units.get u)

theorem checkTripped_unitSettings (r : UnitRecord) : unitSettings r.checkTripped = unitSettings r := by
  unfold UnitRecord.checkTripped; split <;> rfl

/-- Writing a unit's record with the same settings leaves the settings of every unit as they are. -/
theorem setUnit_bandSettings {u : UnitId} {r : UnitRecord} {s : State} (h : unitSettings r = unitSettings (s.unit u)) :
    bandSettings (s.setUnit u r).usm = bandSettings s.usm := by
  funext v
  show unitSettings ((s.setUnit u r).unit v) = unitSettings (s.unit v)
  rw [State.unit_setUnit]
  split
  · rename_i own; rw [own, h]
  · rfl

@[simp] theorem setTripped_bandSettings (u : UnitId) (s : State) :
    bandSettings (setTripped u s).usm = bandSettings s.usm := setUnit_bandSettings rfl

@[simp] theorem reportUnit_bandSettings (s : State) (u : UnitId) :
    bandSettings (reportUnit s u).usm = bandSettings s.usm :=
  setUnit_bandSettings (checkTripped_unitSettings _)

@[simp] theorem report_bandSettings (us : List UnitId) (s : State) :
    bandSettings (report us s).usm = bandSettings s.usm := by
  have fold (s : State) : bandSettings (us.foldl reportUnit s).usm = bandSettings s.usm := by
    induction us generalizing s with
    | nil => rfl
    | cons u us ih => rw [List.foldl_cons, ih, reportUnit_bandSettings]
  exact fold (bumpVersion s)

@[simp] theorem overflowAssertion_bandSettings (a : Assertion) (s : State) :
    bandSettings (overflowAssertion a s).usm = bandSettings s.usm := by
  simp only [overflowAssertion, raiseFor_frame]; split <;> simp

@[simp] theorem tripIfStops_bandSettings (a : Assertion) (s : State) :
    bandSettings (tripIfStops a s).usm = bandSettings s.usm := by
  unfold tripIfStops; split <;> simp

@[simp] theorem settleSpeed_bandSettings (u : UnitId) (h : SpeedState) (r : UnitRecord) (s : State)
    (hr : unitSettings r = unitSettings (s.unit u)) :
    bandSettings (settleSpeed u h r s).usm = bandSettings s.usm := by
  have set : unitSettings (UnitRecord.evaluated (UnitRecord.checkTripped { r with
      armed := r.armed && !countsStart h r })) = unitSettings (s.unit u) :=
    (checkTripped_unitSettings _).trans hr
  simp only [settleSpeed]
  split
  · rw [(countOne_frame _ _ _).2.2.2.2.2.1, setUnit_bandSettings set]
  · exact setUnit_bandSettings set

/-- A sample of a speed channel leaves the settings of the units as they are (R97 to R102). -/
theorem speedSample_bandSettings (u : UnitId) (raw : Nat) (s : State) :
    bandSettings (speedSample u raw s).usm = bandSettings s.usm := by
  simp only [speedSample, evalSpeed, recoverSpeed]
  (repeat' split) <;> first
    | exact setUnit_bandSettings rfl
    | exact settleSpeed_bandSettings _ _ _ _ rfl

/-! ### The group window (R95) -/

@[simp] theorem setGroup_windowExp (u : UnitId) (g : Option OpenGroup) (s : State) :
    (setGroup u g s).tgr.windowExp = s.tgr.windowExp := rfl

@[simp] theorem updateCase_windowExp (u : UnitId) (n : Nat) (f : Case → Case) (s : State) :
    (updateCase u n f s).tgr.windowExp = s.tgr.windowExp := rfl

@[simp] theorem closeGroup_windowExp (u : UnitId) (r : CloseReason) (s : State) :
    (closeGroup u r s).tgr.windowExp = s.tgr.windowExp := by
  unfold closeGroup; split <;> rfl

@[simp] theorem openGroup_windowExp (a : Assertion) (n : Nat) (s : State) :
    (openGroup a n s).tgr.windowExp = s.tgr.windowExp := rfl

@[simp] theorem joinGroup_windowExp (a : Assertion) (n : Nat) (g : OpenGroup) (s : State) :
    (joinGroup a n g s).tgr.windowExp = s.tgr.windowExp := by
  simp only [joinGroup]; split <;> rfl

@[simp] theorem closeIfDue_windowExp (u : UnitId) (s : State) :
    (closeIfDue u s).tgr.windowExp = s.tgr.windowExp := by
  unfold closeIfDue; (repeat' split) <;> simp

/-! ### What a trip, a release, a report and a start leave as they are -/

/-- The settings of the store, the shift, the units and the groups stand. -/
structure SettingsStand (s t : State) : Prop where
  period : t.asc.periodExp = s.asc.periodExp
  shift : shiftSettings t.shc = shiftSettings s.shc
  units : bandSettings t.usm = bandSettings s.usm
  window : t.tgr.windowExp = s.tgr.windowExp

namespace SettingsStand

theorem refl (s : State) : SettingsStand s s := ⟨rfl, rfl, rfl, rfl⟩

theorem trans {s t u : State} (h : SettingsStand s t) (h' : SettingsStand t u) : SettingsStand s u :=
  ⟨h'.period.trans h.period, h'.shift.trans h.shift, h'.units.trans h.units, h'.window.trans h.window⟩

theorem report (us : List UnitId) (s : State) : SettingsStand s (report us s) := by constructor <;> simp

theorem commitTrigger (s : State) : SettingsStand s (commitTrigger s) := by constructor <;> simp

theorem placeByOpening (a : Assertion) (n : Nat) (s : State) : SettingsStand s (placeByOpening a n s) := by
  constructor <;> simp [Machine.placeByOpening]

theorem placeCase (a : Assertion) (n held : Nat) (s : State) : SettingsStand s (placeCase a n held s) := by
  unfold Machine.placeCase
  (repeat' split) <;> first
    | exact refl s
    | exact placeByOpening a n s
    | exact trans (by constructor <;> simp) (placeByOpening a n _)
    | constructor <;> simp

theorem assertionResult (a : Assertion) (s : State) : SettingsStand s (assertionResult a s) := by
  simp only [Machine.assertionResult]
  (repeat' split) <;> first
    | exact trans (by constructor <;> simp) (placeCase a _ _ _)
    | constructor <;> simp

theorem takeAssertion (a : Assertion) (s : State) : SettingsStand s (takeAssertion a s) :=
  (assertionResult a s).trans (by constructor <;> simp [Machine.takeAssertion])

theorem takeRelease (u : UnitId) (i : InputId) (x : Option Stamp) (s : State) :
    SettingsStand s (takeRelease u i x s) := by
  unfold Machine.takeRelease
  (repeat' split) <;> first
    | exact refl s
    | constructor <;> simp

theorem handOnRestart (x : Stamp) (s : State) (y : UnitId × InputId) : SettingsStand s (handOnRestart x s y) := by
  simp only [Machine.handOnRestart]
  (repeat' split) <;> first
    | exact refl s
    | exact takeAssertion _ s
    | exact takeRelease _ _ _ s

theorem restartInputs (s : State) : SettingsStand s (restartInputs s) := by
  have fold (x : Stamp) (l : List (UnitId × InputId)) (s : State) :
      SettingsStand s (l.foldl (Machine.handOnRestart x) s) := by
    induction l generalizing s with
    | nil => exact refl s
    | cons y l ih => exact (handOnRestart x s y).trans (ih _)
  exact trans (t := { s with tiu := rebuildInputs s.tiu }) ⟨rfl, rfl, rfl, rfl⟩ (fold s.now inputOrder _)

theorem warmGroups (s : State) : SettingsStand s (warmGroups s) := by
  have fold (l : List UnitId) (s : State) :
      SettingsStand s (l.foldl (fun s u => closeGroup u .warmStart s) s) := by
    induction l generalizing s with
    | nil => exact refl s
    | cons u l ih => exact trans (by constructor <;> simp) (ih _)
  simp only [Machine.warmGroups]
  split
  · exact refl s
  · exact (fold _ s).trans (report _ _)

theorem warmAccounts (s : State) : SettingsStand s (warmAccounts s) := by
  have fold (l : List (UnitId × Kind)) (s : State) : SettingsStand s (l.foldl warmAccount s) := by
    induction l generalizing s with
    | nil => exact refl s
    | cons x l ih =>
      refine trans ?_ (ih _)
      simp only [warmAccount]
      (repeat' split) <;> constructor <;> simp
  exact fold walkOrder s

theorem resumeLoad (s : State) : SettingsStand s (resumeLoad s) := by
  unfold Machine.resumeLoad
  (repeat' split) <;> first
    | exact refl s
    | constructor <;> simp

theorem warmStore (s : State) : SettingsStand s (warmStore s) :=
  trans (t := restartPeriod { s with asc := s.asc.warmStarted }) ⟨rfl, rfl, rfl, rfl⟩
    ((resumeLoad _).trans (commitTrigger _))

theorem holdupIfAsserted (s : State) : SettingsStand s (holdupIfAsserted s) := by
  unfold Machine.holdupIfAsserted enterHoldup
  split
  · refine trans ?_ (commitTrigger _)
    exact ⟨rfl, rfl, rfl, rfl⟩
  · exact refl s

theorem warmShift (s : State) : SettingsStand s (warmShift s) := by constructor <;> simp

/-- The units at a warm start keep their bands and calibrations (R111). -/
theorem restarted_bandSettings (x : Usm) : bandSettings x.restarted = bandSettings x := by
  funext u
  show unitSettings ((x.units.map UnitRecord.restarted).get u) = unitSettings (x.units.get u)
  rw [PerUnit.get_map]; rfl

theorem warmStart (a : BitVec 5) (f : Bool) (d : Nat) (s : State) : SettingsStand s (warmStart a f d s) := by
  have begun (s : State) : SettingsStand s
      { warmTimebase d { s with lnu := s.lnu.restarted a f, spm := s.spm.restarted } with
        usm := (warmTimebase d { s with lnu := s.lnu.restarted a f, spm := s.spm.restarted }).usm.restarted } := by
    constructor <;> simp [restarted_bandSettings]
  have ended (s : State) : SettingsStand s (driveOutputs (raise .warmStart s)) := by constructor <;> simp
  exact (begun s).trans ((warmGroups _).trans ((warmAccounts _).trans ((warmStore _).trans ((holdupIfAsserted _).trans
    ((restartInputs _).trans ((warmShift _).trans (ended _)))))))

end SettingsStand

end Sys2Proof.Proofs
end

section
/-! PROOFS. Which command writes which setting of the station, and that every other step leaves it as it is. -/

namespace Sys2Proof.Proofs

open Sys2Proof.Machine Sys2Proof.Safety

/-! ### The settings of the sources (R12) and of the trip inputs (R53) -/

/-- The settings of each source (R12). -/
def sourceSettings (r : Riu) (x : SourceId) : Bool × Nat × Nat :=
  ((r.source x).enable, (r.source x).priority, (r.source x).delay)

/-- The configured settings of each input (R53). -/
def inputConfigs (x : Tiu) (u : UnitId) (i : InputId) : InputSettings := ((x.inputs.get u).get i).config

/-- Writing a source's record with the same settings leaves the settings of both as they are. -/
theorem setSource_sourceSettings {r : Riu} {x : SourceId} {v : Source} (enable : v.enable = (r.source x).enable)
    (priority : v.priority = (r.source x).priority) (delay : v.delay = (r.source x).delay) :
    sourceSettings (r.setSource x v) = sourceSettings r := by
  funext y
  simp only [sourceSettings, Riu.source_setSource]
  split
  · rename_i own; rw [own, enable, priority, delay]
  · rfl

@[simp] theorem evalSelection_sourceSettings (s : State) :
    sourceSettings (evalSelection s).riu = sourceSettings s.riu := by
  rw [evalSelection_riu]; funext y; cases y <;> rfl

/-- Writing an input with the same configuration leaves the configuration of every input as it is. -/
theorem setInput_inputConfigs {s : State} {u : UnitId} {i : InputId} {x : TripInput}
    (h : x.config = (s.input u i).config) : inputConfigs (s.setInput u i x).tiu = inputConfigs s.tiu := by
  funext v j
  show ((s.setInput u i x).input v j).config = (s.input v j).config
  rw [State.input_setInput]
  split
  · rename_i own; rw [h, own.1, own.2]
  · rfl

theorem rebuildInputs_inputConfigs (x : Tiu) : inputConfigs (rebuildInputs x) = inputConfigs x := by
  funext u i
  simp only [inputConfigs, rebuildInputs, PerUnit.get_map, PerInput.get_map, TripInput.rebuilt]

theorem dropPendingInputs_inputConfigs (x : Tiu) : inputConfigs (dropPendingInputs x) = inputConfigs x := by
  funext u i
  simp only [inputConfigs, dropPendingInputs, PerUnit.get_map, PerInput.get_map]

/-! ### All settings -/

/-- Every setting of the station stands. -/
structure AllStand (s t : State) : Prop extends SettingsStand s t where
  sources : sourceSettings t.riu = sourceSettings s.riu
  loop : t.tb.loopExp = s.tb.loopExp ∧ t.tb.stepThreshold = s.tb.stepThreshold ∧ t.tb.holdRate = s.tb.holdRate
  inputs : inputConfigs t.tiu = inputConfigs s.tiu
  testMode : t.tiu.testMode = s.tiu.testMode
  masks : t.lnu.masks = s.lnu.masks
  link : t.lnu.address = s.lnu.address ∧ t.lnu.fast = s.lnu.fast

/-- The settings of the station, each with one writer. -/
inductive Setting where
  | sources | loop | inputs | testMode | window | bands | calibration | period | roster | timing | masks | link
deriving DecidableEq

/-- A setting stands. -/
def Setting.stands (s t : State) : Setting → Prop
  | .sources => ∀ x, (t.riu.source x).enable = (s.riu.source x).enable
      ∧ (t.riu.source x).priority = (s.riu.source x).priority ∧ (t.riu.source x).delay = (s.riu.source x).delay
  | .loop => t.tb.loopExp = s.tb.loopExp ∧ t.tb.stepThreshold = s.tb.stepThreshold ∧ t.tb.holdRate = s.tb.holdRate
  | .inputs => ∀ u j, (t.input u j).config = (s.input u j).config
  | .testMode => t.tiu.testMode = s.tiu.testMode
  | .window => t.tgr.windowExp = s.tgr.windowExp
  | .bands => ∀ u, (t.unit u).bands = (s.unit u).bands
  | .calibration => ∀ u, (t.unit u).calMinus = (s.unit u).calMinus ∧ (t.unit u).calMagnitude = (s.unit u).calMagnitude
  | .period => t.asc.periodExp = s.asc.periodExp
  | .roster => t.shc.roster = s.shc.roster
  | .timing => t.shc.lead = s.shc.lead ∧ t.shc.grace = s.shc.grace ∧ t.shc.presenceExp = s.shc.presenceExp
      ∧ t.shc.auto = s.shc.auto
  | .masks => t.lnu.masks = s.lnu.masks
  | .link => t.lnu.address = s.lnu.address ∧ t.lnu.fast = s.lnu.fast

theorem AllStand.stands {s t : State} (h : AllStand s t) (x : Setting) : x.stands s t := by
  obtain ⟨⟨period, shift, units, window⟩, sources, loop, inputs, testMode, masks, link⟩ := h
  simp only [shiftSettings, Prod.mk.injEq] at shift
  have unit (u : UnitId) : (t.unit u).bands = (s.unit u).bands ∧ (t.unit u).calMinus = (s.unit u).calMinus
      ∧ (t.unit u).calMagnitude = (s.unit u).calMagnitude := by
    have := congrFun units u
    simp only [bandSettings, unitSettings, Prod.mk.injEq] at this
    exact this
  cases x with
  | sources => exact fun y => by simpa only [sourceSettings, Prod.mk.injEq] using congrFun sources y
  | loop => exact loop
  | inputs => exact fun u j => congrFun (congrFun inputs u) j
  | testMode => exact testMode
  | window => exact window
  | bands => exact fun u => (unit u).1
  | calibration => exact fun u => (unit u).2
  | period => exact period
  | roster => exact shift.1
  | timing => exact shift.2
  | masks => exact masks
  | link => exact link

namespace AllStand

theorem refl (s : State) : AllStand s s := ⟨.refl s, rfl, ⟨rfl, rfl, rfl⟩, rfl, rfl, rfl, rfl, rfl⟩

theorem trans {s t u : State} (h : AllStand s t) (h' : AllStand t u) : AllStand s u where
  toSettingsStand := h.toSettingsStand.trans h'.toSettingsStand
  sources := h'.sources.trans h.sources
  loop := ⟨h'.loop.1.trans h.loop.1, h'.loop.2.1.trans h.loop.2.1, h'.loop.2.2.trans h.loop.2.2⟩
  inputs := h'.inputs.trans h.inputs
  testMode := h'.testMode.trans h.testMode
  masks := h'.masks.trans h.masks
  link := ⟨h'.link.1.trans h.link.1, h'.link.2.trans h.link.2⟩

end AllStand

/-- The setting that a command writes, or the RESET pin. -/
def writer : Instr → Option Setting
  | .setReference .. => some .sources
  | .setLoop .. => some .loop
  | .setInput .. => some .inputs
  | .setTestMode .. => some .testMode
  | .setGroupWindow .. => some .window
  | .setSpeedBands .. => some .bands
  | .setSpeedCal .. => some .calibration
  | .setStore .. => some .period
  | .setRoster .. => some .roster
  | .setShiftTiming .. => some .timing
  | .setNoticeMask .. => some .masks
  | .resetPin .. => some .link
  | _ => none

/-! ### The commands -/

/-- Sending a reply leaves every setting as it is (R175). -/
theorem sendReply_allStand {s t : State} (h : AllStand s t) (code : Nat) (a : Answer) :
    AllStand s (sendReply code a t) :=
  ⟨⟨h.period, h.shift, h.units, h.window⟩, h.sources, h.loop, h.inputs, h.testMode, h.masks, h.link⟩

/-- A request leaves the settings as they are that its block leaves so. -/
theorem serve_allStand {act : State → State × Answer} {s : State} (h : AllStand s (act s).1) (code : Nat) (d : Bool) :
    AllStand s (serve code d act s) := by
  rcases serve_cases code d act s with ⟨-, e⟩ | ⟨-, -, -, e⟩ | ⟨-, -, e⟩ <;> rw [e]
  · exact .refl s
  · exact sendReply_allStand (.refl s) _ _
  · exact sendReply_allStand h _ _

theorem sendReply_stands {s t : State} {x : Setting} (h : x.stands s t) (code : Nat) (a : Answer) :
    x.stands s (sendReply code a t) := by
  cases x <;> exact h

theorem serve_stands {act : State → State × Answer} {s : State} {x : Setting} (h : x.stands s (act s).1) (code : Nat)
    (d : Bool) : x.stands s (serve code d act s) := by
  rcases serve_cases code d act s with ⟨-, e⟩ | ⟨-, -, -, e⟩ | ⟨-, -, e⟩ <;> rw [e]
  · exact (AllStand.refl s).stands x
  · exact sendReply_stands ((AllStand.refl s).stands x) _ _
  · exact sendReply_stands h _ _

/-- A block leaves the settings as they are that its frame and the settings of the four blocks name. -/
theorem allStand_of {s t : State} (stand : SettingsStand s t) (sources : sourceSettings t.riu = sourceSettings s.riu)
    (loop : t.tb.loopExp = s.tb.loopExp ∧ t.tb.stepThreshold = s.tb.stepThreshold ∧ t.tb.holdRate = s.tb.holdRate)
    (tiu : t.tiu = s.tiu) (masks : t.lnu.masks = s.lnu.masks)
    (link : t.lnu.address = s.lnu.address ∧ t.lnu.fast = s.lnu.fast) : AllStand s t :=
  ⟨stand, sources, loop, by rw [tiu], by rw [tiu], masks, link⟩

theorem askSetTime_shiftSettings (x f n : Nat) (s : State) :
    shiftSettings (askSetTime x f n s).1.shc = shiftSettings s.shc := by
  unfold askSetTime
  (repeat' split) <;> simp only [takeTimeOfDay_shiftSettings, evalQuality_frame]

@[simp] theorem changeCase_bandSettings (u : UnitId) (i : SlotId) (c : Case) (s : State) :
    bandSettings (changeCase u i c s).usm = bandSettings s.usm := by
  simp [changeCase]

@[simp] theorem changeCase_shiftSettings (u : UnitId) (i : SlotId) (c : Case) (s : State) :
    shiftSettings (changeCase u i c s).shc = shiftSettings s.shc := by
  simp [changeCase]

theorem askAckCase_stand (n b : Nat) (s : State) : SettingsStand s (askAckCase n b s).1 := by
  unfold askAckCase
  (repeat' split) <;> constructor <;> simp

theorem askClearCase_stand (n b : Nat) (s : State) : SettingsStand s (askClearCase n b s).1 := by
  unfold askClearCase
  (repeat' split) <;> constructor <;> simp

theorem askRetireCase_stand (n : Nat) (s : State) : SettingsStand s (askRetireCase n s).1 := by
  unfold askRetireCase
  (repeat' split) <;> constructor <;> simp

theorem askClearOverflow_stand (n : Nat) (s : State) : SettingsStand s (askClearOverflow n s).1 := by
  unfold askClearOverflow
  (repeat' split) <;> constructor <;> simp

theorem commandChange_stand (u : UnitId) (k : Kind) (a : Account) (s : State) :
    SettingsStand s (commandChange u k a s) := by
  constructor <;> simp [commandChange]

theorem askPresetAccount_stand (u k l i : Nat) (s : State) : SettingsStand s (askPresetAccount u k l i s).1 := by
  simp only [askPresetAccount]
  (repeat' split) <;> first | exact .refl s | exact commandChange_stand _ _ _ s

theorem askRetireAccount_stand (u k : Nat) (s : State) : SettingsStand s (askRetireAccount u k s).1 := by
  simp only [askRetireAccount]
  (repeat' split) <;> first | exact .refl s | exact commandChange_stand _ _ _ s

theorem askReinstateAccount_stand (u k : Nat) (s : State) : SettingsStand s (askReinstateAccount u k s).1 := by
  simp only [askReinstateAccount]
  (repeat' split) <;> first | exact .refl s | exact commandChange_stand _ _ _ s

theorem askCommit_stand (s : State) : SettingsStand s (askCommit s).1 := by
  simp only [askCommit]
  split <;> first | exact .refl s | exact .commitTrigger s

theorem incrementShift_stand (b : Bool) (d t : Nat) (k : Option Nat) (s : State) :
    SettingsStand s (incrementShift b d t k s) :=
  ⟨by simp [incrementShift], by simp, by simp, by simp⟩

theorem askSignOn_stand (b m : Nat) (s : State) : SettingsStand s (askSignOn b m s).1 := by
  simp only [askSignOn]
  (repeat' split) <;> first | exact .refl s | exact incrementShift_stand _ _ _ _ s

theorem askAccept_stand (b v m : Nat) (s : State) : SettingsStand s (askAccept b v m s).1 := by
  simp only [askAccept]
  (repeat' split) <;> first | exact .refl s | exact incrementShift_stand _ _ _ _ s

theorem askPresence_stand (b : Nat) (s : State) : SettingsStand s (askPresence b s).1 := by
  simp only [askPresence]
  (repeat' split) <;> first | exact .refl s | exact ⟨rfl, rfl, rfl, rfl⟩

theorem askOffer_stand (b : Nat) (s : State) : SettingsStand s (askOffer b s).1 := by
  simp only [askOffer]
  (repeat' split) <;> constructor <;> simp <;> rfl

theorem askWithdraw_stand (b : Nat) (s : State) : SettingsStand s (askWithdraw b s).1 := by
  simp only [askWithdraw]
  (repeat' split) <;> constructor <;> simp <;> rfl

theorem resetC_stand (s : State) : SettingsStand s (resetC s) := by
  constructor <;> simp [resetC]

theorem resetA_stand (s : State) : SettingsStand s (resetA s) := by
  refine ⟨?_, by simp, by simp, by simp⟩
  simp only [resetA]
  split <;> simp [Asc.abandonCommit]

theorem askResetA_stand (s : State) : SettingsStand s (askResetA s).1 := by
  unfold askResetA
  split
  · exact .refl s
  · exact resetA_stand s

theorem askReadInput_inputs (u i f : Nat) (s : State) :
    inputConfigs (askReadInput u i f s).1.tiu = inputConfigs s.tiu
      ∧ (askReadInput u i f s).1.tiu.testMode = s.tiu.testMode := by
  simp only [askReadInput]
  (repeat' split) <;> first | exact ⟨rfl, rfl⟩ | exact ⟨setInput_inputConfigs rfl, rfl⟩

theorem resetT_sourceSettings (s : State) : sourceSettings (resetT s).riu = sourceSettings s.riu := by
  simp only [resetT]
  split <;> (funext x; cases x <;> rfl)

/-- A command that writes no setting leaves every setting as it is. -/
theorem command_allStand {i : Instr} {s t : State} (c : (requestBytes i).isSome = true) (w : writer i = none)
    (e : exec i s = .next t) : AllStand s t := by
  cases i <;> first
    | (exfalso; revert c; simp [requestBytes]; done)
    | (simp [writer] at w; done)
    | skip
  case setTime b x f n =>
    have set : AllStand s (askSetTime x.toNat f.toNat n.toNat s).1 :=
      allStand_of ⟨by simp, askSetTime_shiftSettings _ _ _ s, by simp, by simp⟩ (by simp) (by simp) (by simp) (by simp)
        (by simp)
    obtain rfl := next_inj e
    split
    · unfold broadcastSetTime
      split
      · exact set
      · exact .refl s
    · exact serve_allStand set _ _
  case unknownCommand code =>
    obtain rfl := next_inj e
    split
    · exact .refl s
    · exact serve_allStand (.refl s) _ _
  all_goals
    obtain rfl := next_inj e
    refine serve_allStand ?_ _ _
  case readInput u i f =>
    obtain ⟨configs, mode⟩ := askReadInput_inputs u.toNat i.toNat f.toNat s
    exact ⟨⟨by simp, by simp, by simp, by simp⟩, by simp, by simp, configs, mode, by simp, by simp⟩
  case ackCase => exact allStand_of (askAckCase_stand _ _ s) (by simp) (by simp) (by simp) (by simp) (by simp)
  case clearCase => exact allStand_of (askClearCase_stand _ _ s) (by simp) (by simp) (by simp) (by simp) (by simp)
  case retireCase => exact allStand_of (askRetireCase_stand _ s) (by simp) (by simp) (by simp) (by simp) (by simp)
  case clearOverflow => exact allStand_of (askClearOverflow_stand _ s) (by simp) (by simp) (by simp) (by simp) (by simp)
  case presetAccount =>
    exact allStand_of (askPresetAccount_stand _ _ _ _ s) (by simp) (by simp) (by simp) (by simp) (by simp)
  case retireAccount => exact allStand_of (askRetireAccount_stand _ _ s) (by simp) (by simp) (by simp) (by simp) (by simp)
  case reinstateAccount =>
    exact allStand_of (askReinstateAccount_stand _ _ s) (by simp) (by simp) (by simp) (by simp) (by simp)
  case commit => exact allStand_of (askCommit_stand s) (by simp) (by simp) (by simp) (by simp) (by simp)
  case signOn => exact allStand_of (askSignOn_stand _ _ s) (by simp) (by simp) (by simp) (by simp) (by simp)
  case accept => exact allStand_of (askAccept_stand _ _ _ s) (by simp) (by simp) (by simp) (by simp) (by simp)
  case presence => exact allStand_of (askPresence_stand _ s) (by simp) (by simp) (by simp) (by simp) (by simp)
  case offer => exact allStand_of (askOffer_stand _ s) (by simp) (by simp) (by simp) (by simp) (by simp)
  case withdraw => exact allStand_of (askWithdraw_stand _ s) (by simp) (by simp) (by simp) (by simp) (by simp)
  case resetGroupT =>
    exact allStand_of (by constructor <;> simp) (resetT_sourceSettings s) (by simp) (by simp) (by simp) (by simp)
  case resetGroupC => exact allStand_of (resetC_stand s) (by simp) (by simp) (by simp) (by simp) (by simp)
  case resetGroupA => exact allStand_of (askResetA_stand s) (by simp) (by simp) (by simp) (by simp) (by simp)
  case resetGroupS => exact allStand_of ⟨rfl, rfl, rfl, rfl⟩ rfl ⟨rfl, rfl, rfl⟩ rfl rfl ⟨rfl, rfl⟩
  case readNotices => exact allStand_of (by constructor <;> simp) (by simp) (by simp) (by simp) (by simp) (by simp)
  all_goals simp only [askReadTime_state, askReadTimebase_state, askReadCase_state, askListCases_state,
    askReadOverflow_state, askReadGroup_state, askReadUnit_state, askReadAccount_state, askReadStoreStatus_state,
    askReadHandover_state, askReadShift_state, askReadPreviousShift_state, askIdentify_state, AllStand.refl]

/-! ### The events -/

theorem accepted_sourceSettings (s : State) (x : SourceId) (n : Nat) (e : Int) :
    sourceSettings (s.riu.setSource x ((s.riu.source x).accepted n e)) = sourceSettings s.riu := by
  refine setSource_sourceSettings ?_ ?_ ?_ <;> simp only [Source.accepted] <;> (repeat' split) <;> rfl

theorem selectedPulse_shiftSettings (e : Int) (s : State) :
    shiftSettings (selectedPulse e s).shc = shiftSettings s.shc := by
  simp only [selectedPulse, takeOutlier]
  (repeat' split) <;> simp [stepPhase]

theorem acceptPulse_shiftSettings (x : SourceId) (s : State) :
    shiftSettings (acceptPulse x s).shc = shiftSettings s.shc := by
  simp only [acceptPulse]
  split <;> simp [selectedPulse_shiftSettings]

theorem acceptPulse_sourceSettings (x : SourceId) (s : State) :
    sourceSettings (acceptPulse x s).riu = sourceSettings s.riu := by
  simp only [acceptPulse]
  split <;> simp [accepted_sourceSettings]

theorem boundaryPeriod_shiftSettings (s : State) :
    shiftSettings (boundaryPeriod s).shc = shiftSettings s.shc := by
  simp only [boundaryPeriod]
  split <;> simp

theorem closingEdge_config (x : TripInput) (t : Stamp) (b : Bool) : (x.closingEdge t b).config = x.config := by
  unfold TripInput.closingEdge; (repeat' split) <;> rfl

theorem openingEdge_config (x : TripInput) (t : Stamp) : (x.openingEdge t).config = x.config := by
  unfold TripInput.openingEdge; (repeat' split) <;> rfl

theorem setInput_allStand {s : State} {u : UnitId} {i : InputId} {x : TripInput}
    (h : x.config = (s.input u i).config) : AllStand s (s.setInput u i x) :=
  ⟨⟨rfl, rfl, rfl, rfl⟩, rfl, ⟨rfl, rfl, rfl⟩, setInput_inputConfigs h, rfl, rfl, ⟨rfl, rfl⟩⟩

theorem takeAssertion_allStand (a : Assertion) (s : State) : AllStand s (takeAssertion a s) :=
  allStand_of (.takeAssertion a s) (by simp) (by simp) (by simp) (by simp) (by simp)

theorem takeRelease_allStand (u : UnitId) (i : InputId) (x : Option Stamp) (s : State) :
    AllStand s (takeRelease u i x s) :=
  allStand_of (.takeRelease u i x s) (by simp) (by simp) (by simp) (by simp) (by simp)

theorem takeReading_allStand (n : Nat) (s : State) : AllStand s (takeReading n s) := by
  refine allStand_of ⟨?_, by simp, by simp, by simp⟩ (by simp) (by simp) (by simp) (by simp) (by simp)
  simp only [takeReading, enterHoldup, startRestore]
  (repeat' split) <;> simp [stopRestore]

theorem takePfi_allStand (s : State) : AllStand s (takePfi s) := by
  refine allStand_of ⟨?_, by simp, by simp, by simp⟩ (by simp) (by simp) (by simp) (by simp) (by simp)
  simp only [takePfi, enterHoldup, startRestore, stopRestore]
  (repeat' split) <;> simp

theorem speedSample_allStand (u : UnitId) (n : Nat) (s : State) : AllStand s (speedSample u n s) := by
  refine allStand_of ⟨?_, by simp, speedSample_bandSettings u n s, by simp⟩ (by simp) (by simp) (by simp) (by simp)
    (by simp)
  simp only [speedSample, evalSpeed, recoverSpeed, settleSpeed]
  (repeat' split) <;> simp

theorem setContact_unitSettings (r : UnitRecord) (k : ContactId) (c : Contact) :
    unitSettings (r.setContact k c) = unitSettings r := by cases k <;> rfl

theorem setUnit_allStand {s : State} {u : UnitId} {r : UnitRecord} (h : unitSettings r = unitSettings (s.unit u)) :
    AllStand s (s.setUnit u r) :=
  allStand_of ⟨rfl, rfl, setUnit_bandSettings h, rfl⟩ rfl ⟨rfl, rfl, rfl⟩ rfl rfl ⟨rfl, rfl⟩

theorem enterBackup_bandSettings (s : State) : bandSettings (enterBackup s).usm = bandSettings s.usm := by
  funext u
  show unitSettings ((s.usm.units.map UnitRecord.stopped).get u) = unitSettings (s.usm.units.get u)
  rw [PerUnit.get_map]; rfl

/-- An event that writes no setting leaves every setting as it is. -/
theorem event_allStand {i : Instr} {s t : State} (ev : requestBytes i = none) (nf : i ≠ .frameEnd)
    (back : ∀ a f, i ≠ .mainSupplyReturn a f) (w : writer i = none) (e : exec i s = .next t) : AllStand s t := by
  cases i <;> first
    | (simp [requestBytes] at ev; done)
    | (simp [writer] at w; done)
    | exact absurd rfl nf
    | exact absurd rfl (back _ _)
    | obtain rfl := next_inj e
  case localSecondBoundary =>
    split
    · exact allStand_of ⟨by simp, boundaryPeriod_shiftSettings s, by simp, by simp⟩ (by simp) (by simp) (by simp) (by simp)
        (by simp)
    · exact .refl s
  case holdBackEnd =>
    split
    · exact allStand_of ⟨by simp, by simp [holdBackEndPeriod], by simp, by simp⟩ (by simp) (by simp) (by simp) (by simp)
        (by simp)
    · exact .refl s
  case dutySecondBoundary =>
    split
    · rw [tallySecond_only]
      exact allStand_of ⟨rfl, rfl, rfl, rfl⟩ rfl ⟨rfl, rfl, rfl⟩ rfl rfl ⟨rfl, rfl⟩
    · exact .refl s
  case refPulse x =>
    split
    · split
      · exact allStand_of ⟨rfl, rfl, rfl, rfl⟩ (setSource_sourceSettings rfl rfl rfl) ⟨rfl, rfl, rfl⟩ rfl rfl ⟨rfl, rfl⟩
      · exact allStand_of ⟨by simp, acceptPulse_shiftSettings x s, by simp, by simp⟩ (acceptPulse_sourceSettings x s)
          (by simp) (by simp) (by simp) (by simp)
    · exact .refl s
  case sourceLoss x =>
    split
    · refine allStand_of ⟨by simp, by simp, by simp, by simp⟩ ?_ (by simp) (by simp) (by simp) (by simp)
      rw [evalSelection_sourceSettings]; exact setSource_sourceSettings rfl rfl rfl
    · exact .refl s
  case tripContactEdge u i c =>
    split
    · exact .refl s
    · split
      · refine setInput_allStand ?_
        split
        · exact closingEdge_config _ _ _
        · exact openingEdge_config _ _
      · exact setInput_allStand rfl
  case assertionConfirmation u i =>
    (repeat' split) <;> first
      | exact .refl s
      | (refine .trans (setInput_allStand ?_) (takeAssertion_allStand _ _); rfl)
  case releaseConfirmation u i =>
    (repeat' split) <;> first
      | exact .refl s
      | (refine .trans (setInput_allStand ?_) (takeRelease_allStand _ _ _ _); rfl)
  case groupExpiry u =>
    split
    · exact allStand_of (by constructor <;> simp) (by simp) (by simp) (by simp) (by simp) (by simp)
    · exact .refl s
  case sampleEvent c r =>
    split
    · have moved : AllStand s { s with usm := { s.usm with scan := nextChannel c } } :=
        allStand_of ⟨rfl, rfl, rfl, rfl⟩ rfl ⟨rfl, rfl, rfl⟩ rfl rfl ⟨rfl, rfl⟩
      refine moved.trans ?_
      cases c with
      | speed u => exact speedSample_allStand _ _ _
      | supply =>
        refine AllStand.trans ?_ (takeReading_allStand _ _)
        exact allStand_of ⟨rfl, rfl, rfl, rfl⟩ rfl ⟨rfl, rfl, rfl⟩ rfl rfl ⟨rfl, rfl⟩
    · exact .refl s
  case unitContactEdge u k c =>
    (repeat' split) <;> first
      | exact .refl s
      | exact setUnit_allStand (setContact_unitSettings _ _ _)
  case unitContactConfirmation u k =>
    split
    · exact setUnit_allStand (setContact_unitSettings (s.unit u) k _)
    · exact .refl s
  case presenceExpiry =>
    split
    · exact allStand_of ⟨rfl, rfl, rfl, rfl⟩ rfl ⟨rfl, rfl, rfl⟩ rfl rfl ⟨rfl, rfl⟩
    · exact .refl s
  case pfiEdge =>
    (repeat' split) <;> exact allStand_of ⟨rfl, rfl, rfl, rfl⟩ rfl ⟨rfl, rfl, rfl⟩ rfl rfl ⟨rfl, rfl⟩
  case pfiConfirmation =>
    split
    · refine AllStand.trans ?_ (takePfi_allStand _)
      exact allStand_of ⟨rfl, rfl, rfl, rfl⟩ rfl ⟨rfl, rfl, rfl⟩ rfl rfl ⟨rfl, rfl⟩
    · exact .refl s
  case restoreExpiry =>
    split <;> exact allStand_of ⟨rfl, rfl, rfl, rfl⟩ rfl ⟨rfl, rfl, rfl⟩ rfl rfl ⟨rfl, rfl⟩
  case backupEntry =>
    split
    · exact ⟨⟨rfl, rfl, enterBackup_bandSettings s, rfl⟩, rfl, ⟨rfl, rfl, rfl⟩, dropPendingInputs_inputConfigs _, rfl, rfl,
        ⟨rfl, rfl⟩⟩
    · exact .refl s
  case watchOscillatorCycle => exact allStand_of (by constructor <;> simp) (by simp) (by simp) (by simp) (by simp) (by simp)
  case linkByteReceived =>
    split <;> exact allStand_of ⟨rfl, rfl, rfl, rfl⟩ rfl ⟨rfl, rfl, rfl⟩ rfl rfl ⟨rfl, rfl⟩
  case replyComplete =>
    split <;> exact allStand_of ⟨rfl, rfl, rfl, rfl⟩ rfl ⟨rfl, rfl, rfl⟩ rfl rfl ⟨rfl, rfl⟩
  case backupRetentionLost =>
    split <;> exact allStand_of ⟨rfl, rfl, rfl, rfl⟩ rfl ⟨rfl, rfl, rfl⟩ rfl rfl ⟨rfl, rfl⟩
  all_goals
    (repeat' split) <;> first
      | exact .refl s
      | exact allStand_of ⟨by simp [restartPeriod, setFlight], by simp, by simp, by simp⟩ (by simp) (by simp) (by simp) (by simp)
          (by simp)

/-! ### The writers -/

theorem restartInputs_tiu (s : State) : (restartInputs s).tiu = rebuildInputs s.tiu := by
  simp [restartInputs]

/-- The trip inputs after a warm start are those rebuilt from their contacts (R51). -/
theorem warmStart_tiu (a : BitVec 5) (f : Bool) (d : Nat) (s : State) :
    (warmStart a f d s).tiu = rebuildInputs s.tiu := by
  simp only [warmStart, driveOutputs_frame, raise_frame, warmShift_frame, restartInputs_tiu, holdupIfAsserted_frame,
    warmStore_frame, warmAccounts_frame, warmGroups_frame, warmTimebase_frame]

/-- Where every setting but the straps stands, each of them does. -/
theorem stands_of_rebuilt {s t : State} (stand : SettingsStand s t) (sources : sourceSettings t.riu = sourceSettings s.riu)
    (loop : t.tb.loopExp = s.tb.loopExp ∧ t.tb.stepThreshold = s.tb.stepThreshold ∧ t.tb.holdRate = s.tb.holdRate)
    (tiu : t.tiu = rebuildInputs s.tiu) (masks : t.lnu.masks = s.lnu.masks) {x : Setting} (ne : x ≠ .link) :
    x.stands s t := by
  have all : AllStand s { t with lnu := { t.lnu with address := s.lnu.address, fast := s.lnu.fast } } := by
    refine ⟨⟨stand.period, stand.shift, stand.units, stand.window⟩, sources, loop, ?_, ?_, masks, rfl, rfl⟩
    · rw [tiu, rebuildInputs_inputConfigs]
    · rw [tiu]; rfl
  have stands := all.stands x
  cases x <;> first
    | exact absurd rfl ne
    | exact stands

theorem warmStart_sourceSettings (a : BitVec 5) (f : Bool) (d : Nat) (s : State) :
    sourceSettings (warmStart a f d s).riu = sourceSettings s.riu := by
  rw [warmStart_riu_eq]; funext y; cases y <;> rfl

theorem warmStart_loop (a : BitVec 5) (f : Bool) (d : Nat) (s : State) :
    (warmStart a f d s).tb.loopExp = s.tb.loopExp ∧ (warmStart a f d s).tb.stepThreshold = s.tb.stepThreshold
      ∧ (warmStart a f d s).tb.holdRate = s.tb.holdRate := by simp

/-- A warm start leaves every setting as it is but the straps, which it reads (R197). -/
theorem warmStart_stands (a : BitVec 5) (f : Bool) (d : Nat) (s : State) {x : Setting} (ne : x ≠ .link) :
    x.stands s (warmStart a f d s) :=
  stands_of_rebuilt (.warmStart a f d s) (warmStart_sourceSettings a f d s) (warmStart_loop a f d s)
    (warmStart_tiu a f d s) (warmStart_frame a f d s).2 ne

theorem askSetSpeedBands_calibration (k a b c d : Nat) (s : State) (u : UnitId) :
    (((askSetSpeedBands k a b c d s).1.usm.units.get u).calMinus = (s.usm.units.get u).calMinus)
      ∧ ((askSetSpeedBands k a b c d s).1.usm.units.get u).calMagnitude = (s.usm.units.get u).calMagnitude := by
  simp only [askSetSpeedBands]
  split
  · simp [UnitRecord.withBands]
  · split
    · simp only [State.setUnit, PerUnit.get_set]
      split
      · rename_i own; rw [own]; exact ⟨rfl, rfl⟩
      · exact ⟨rfl, rfl⟩
    · exact ⟨rfl, rfl⟩

theorem askSetSpeedCal_bands (k x m : Nat) (s : State) (u : UnitId) :
    ((askSetSpeedCal k x m s).1.usm.units.get u).bands = (s.usm.units.get u).bands := by
  simp only [askSetSpeedCal]
  split
  · simp only [State.setUnit, PerUnit.get_set]
    split
    · rename_i own; rw [own]; rfl
    · rfl
  · rfl

/-- A request for one setting leaves every other setting as it is. -/
theorem writer_stands {i : Instr} {s t : State} {w x : Setting} (hw : writer i = some w) (ne : x ≠ w)
    (e : exec i s = .next t) : x.stands s t := by
  cases i <;> first
    | (simp [writer] at hw; done)
    | (obtain rfl : _ = w := by simpa [writer] using hw)
  all_goals obtain rfl := next_inj e
  case resetPin a f =>
    split
    · exact warmStart_stands a f 0 s ne
    · exact (AllStand.refl s).stands x
  all_goals refine serve_stands ?_ _ _
  case setInput =>
    cases x <;> first
      | exact absurd rfl ne
      | simp [Setting.stands, State.unit]
    unfold askSetInput; split <;> rfl
  case setTestMode =>
    cases x <;> first
      | exact absurd rfl ne
      | simp [Setting.stands, State.unit]
    unfold askSetTestMode; split <;> simp [State.input]
  case setSpeedBands =>
    cases x <;> first
      | exact absurd rfl ne
      | simp [Setting.stands, State.input]
    exact askSetSpeedBands_calibration _ _ _ _ _ s
  case setSpeedCal =>
    cases x <;> first
      | exact absurd rfl ne
      | simp [Setting.stands, State.input]
    exact askSetSpeedCal_bands _ _ _ s
  case setRoster =>
    cases x <;> first
      | exact absurd rfl ne
      | simp [Setting.stands, State.input, State.unit]
    unfold askSetRoster; split <;> simp
  case setShiftTiming =>
    cases x <;> first
      | exact absurd rfl ne
      | simp [Setting.stands, State.input, State.unit]
    unfold askSetShiftTiming; split <;> rfl
  all_goals
    cases x <;> first
      | exact absurd rfl ne
      | simp [Setting.stands, State.input, State.unit]

/-- A step leaves every setting as it is but the one that it writes. -/
theorem exec_stands {i : Instr} {s t : State} (nf : i ≠ .frameEnd) (back : ∀ a f, i ≠ .mainSupplyReturn a f)
    (e : exec i s = .next t) {x : Setting} (w : writer i ≠ some x) : x.stands s t := by
  cases hw : writer i with
  | some y => exact writer_stands hw (fun same => w (by rw [hw, same])) e
  | none =>
    cases c : requestBytes i with
    | some r => exact (command_allStand (by simp [c]) hw e).stands x
    | none => exact (event_allStand c nf back hw e).stands x

/-! ### The queue of waiting steps -/

theorem blockAct_pending {act : State → State × Answer} (h : BlockAct act) (s : State) :
    (act s).1.pending = s.pending := by
  cases h <;> simp

theorem event_pending {i : Instr} {s t : State} (ev : requestBytes i = none) (nf : i ≠ .frameEnd)
    (e : exec i s = .next t) : t.pending = s.pending := by
  cases i <;> first
    | (simp [requestBytes] at ev; done)
    | exact absurd rfl nf
    | skip
  case localSecondBoundary => simp [execLocalSecondBoundary_frame e]
  case holdBackEnd => simp [execHoldBackEnd_frame e]
  case dutySecondBoundary => simp [execDutySecondBoundary_frame e]
  case refPulse => simp [execRefPulse_frame e]
  case sourceLoss => simp [execSourceLoss_frame e]
  case tripContactEdge => simp [execTripContactEdge_frame e]
  case assertionConfirmation => simp [execAssertionConfirmation_frame e]
  case releaseConfirmation => simp [execReleaseConfirmation_frame e]
  case groupExpiry => simp [execGroupExpiry_frame e]
  case sampleEvent => simp [execSampleEvent_frame e]
  case unitContactEdge => simp [execUnitContactEdge_frame e]
  case unitContactConfirmation => simp [execUnitContactConfirmation_frame e]
  case busGrant => simp [execBusGrant_frame e]
  case grantTimeout => simp [execGrantTimeout_frame e]
  case transferComplete => simp [execTransferComplete_frame e]
  case storeWriteCycleDone => simp [execStoreWriteCycleDone_frame e]
  case notReadyTimeout => simp [execNotReadyTimeout_frame e]
  case readBackComplete => simp [execReadBackComplete_frame e]
  case grantWithdrawn => simp [execGrantWithdrawn_frame e]
  case storeReadComplete => simp [execStoreReadComplete_frame e]
  case commitPeriodExpiry => simp [execCommitPeriodExpiry_frame e]
  case presenceExpiry => simp [execPresenceExpiry_frame e]
  case pfiEdge => simp [execPfiEdge_frame e]
  case pfiConfirmation => simp [execPfiConfirmation_frame e]
  case restoreExpiry => simp [execRestoreExpiry_frame e]
  case backupEntry => simp [execBackupEntry_frame e]
  case mainSupplyReturn => simp [execMainSupplyReturn_frame e]
  case resetPin => simp [execResetPin_frame e]
  case watchOscillatorCycle => simp [execWatchOscillatorCycle_frame e]
  case linkByteReceived => simp [execLinkByteReceived_frame e]
  case replyComplete => simp [execReplyComplete_frame e]
  case backupRetentionLost => simp [execBackupRetentionLost_frame e]

/-- No command changes the queue of waiting steps. -/
theorem exec_pending {i : Instr} {s t : State} (e : exec i s = .next t) : t.pending = s.pending := by
  have reply : ∀ code a (t : State), t.pending = s.pending → (sendReply code a t).pending = s.pending :=
    fun _ _ _ h => h
  have block : ∀ act (t : State), BlockAct act → t.listening = true → t.pending = s.pending →
      (act t).1.pending = s.pending := fun _ t b _ h => (blockAct_pending b t).trans h
  have broadcast : ∀ x f n (t : State), x < 2 ^ 32 → f < 2 ^ 32 → n < 2 ^ 32 → t.pending = s.pending →
      (broadcastSetTime x f n t).pending = s.pending := fun x f n t _ _ _ h => by simp [h]
  by_cases c : (requestBytes i).isSome = true
  · exact command_keeps (P := fun t => t.pending = s.pending) reply block broadcast rfl c e
  · by_cases nf : i = .frameEnd
    · subst nf
      exact frameEnd_keeps (P := fun t => t.pending = s.pending) reply block broadcast (fun _ _ h => h)
        (fun _ h => h) rfl e
    · exact event_pending (by simpa using c) nf e

/-- Settles O4: `exec_stands` for each setting but the one that the command writes. -/
theorem eachSettingHasOneWriter : Obligations.EachSettingHasOneWriter := by
  intro i s t e
  refine ⟨exec_pending e, fun nf back => ?_⟩
  have stands (x : Setting) (w : writer i ≠ some x) : x.stands s t := exec_stands nf back e w
  refine ⟨fun no => stands .sources ?_, fun no => stands .loop ?_, fun no => stands .inputs ?_,
    fun no => stands .testMode ?_, fun no => stands .window ?_, fun no => stands .bands ?_,
    fun no => stands .calibration ?_, fun no => stands .period ?_, fun no => stands .roster ?_,
    fun no => stands .timing ?_, fun no => stands .masks ?_, fun no => stands .link ?_⟩
  all_goals
    intro w
    unfold writer at w
    split at w <;> first
      | (cases w; done)
      | exact no _ rfl
      | exact no _ _ rfl
      | exact no _ _ _ rfl
      | exact no _ _ _ _ rfl
      | exact no _ _ _ _ _ rfl
      | exact no _ _ _ _ _ _ rfl
      | exact no _ _ _ _ _ _ _ rfl

end Sys2Proof.Proofs
end

section
/-! PROOFS. The records that a warm start keeps: the units' readings, the duty, the accounts and the queue of the store
(R51, R111, R130, R147, R171). -/

namespace Sys2Proof.Proofs

open Sys2Proof.Machine Sys2Proof.Safety

/-! ### What the taking of trips leaves of the units and of the shift -/

/-- A unit's record without the items that trips and reports write (R73, R104, R105). -/
def steadyRecord (r : UnitRecord) : UnitRecord := { r with tripped := false, caseHeld := false, mode := .stopped }

/-- The Unit State Monitor without those items. -/
def steadyUnits (x : Usm) : Usm := { x with units := x.units.map steadyRecord }

/-- The shift in progress: its number, duty, team, start and offer, the lapses and the shift before (R151). -/
def shiftDuty (h : Shc) : Nat × Option Nat × Option Nat × Option Stamp × Option Offer × Nat × Option ShiftSummary :=
  (h.number, h.duty, h.team, h.start, h.offer, h.lapses, h.previous)

theorem setUnit_steadyUnits {u : UnitId} {r : UnitRecord} {s : State} (h : steadyRecord r = steadyRecord (s.unit u)) :
    steadyUnits (s.setUnit u r).usm = steadyUnits s.usm := by
  have units : ((s.usm.units.set u r).map steadyRecord) = s.usm.units.map steadyRecord := by
    refine PerUnit.ext_get _ _ fun v => ?_
    rw [PerUnit.get_map, PerUnit.get_map, PerUnit.get_set]
    split
    · rename_i own; rw [own, h]; rfl
    · rfl
  simp only [State.setUnit, steadyUnits, units]

theorem checkTripped_steadyRecord (r : UnitRecord) : steadyRecord r.checkTripped = steadyRecord r := by
  unfold UnitRecord.checkTripped; split <;> rfl

@[simp] theorem setTripped_steadyUnits (u : UnitId) (s : State) :
    steadyUnits (setTripped u s).usm = steadyUnits s.usm := setUnit_steadyUnits rfl

@[simp] theorem report_steadyUnits (us : List UnitId) (s : State) :
    steadyUnits (report us s).usm = steadyUnits s.usm := by
  have fold (s : State) : steadyUnits (us.foldl reportUnit s).usm = steadyUnits s.usm := by
    induction us generalizing s with
    | nil => rfl
    | cons u us ih =>
      rw [List.foldl_cons, ih]
      exact setUnit_steadyUnits (checkTripped_steadyRecord _)
  exact fold (bumpVersion s)

@[simp] theorem report_shiftDuty (us : List UnitId) (s : State) : shiftDuty (report us s).shc = shiftDuty s.shc := by
  have : (report us s).shc = (bumpVersion s).shc := by simp [report]
  rw [this]; rfl

@[simp] theorem overflowAssertion_steadyUnits (a : Assertion) (s : State) :
    steadyUnits (overflowAssertion a s).usm = steadyUnits s.usm := by
  simp only [overflowAssertion, raiseFor_frame]; split <;> simp

@[simp] theorem tripIfStops_steadyUnits (a : Assertion) (s : State) :
    steadyUnits (tripIfStops a s).usm = steadyUnits s.usm := by
  unfold tripIfStops; split <;> simp

theorem crossPoint_shiftDuty (s : State) (x : Point × Nat) :
    shiftDuty (crossPoint s x).shc = shiftDuty s.shc := by
  unfold crossPoint crossOpening crossDue crossOverdue; (repeat' split) <;> rfl

theorem seeTime_shiftDuty (x f : Nat) (s : State) : shiftDuty (seeTime x f s).shc = shiftDuty s.shc := rfl

@[simp] theorem takeTimeOfDay_shiftDuty (s : State) : shiftDuty (takeTimeOfDay s).shc = shiftDuty s.shc := by
  have fold (l : List (Point × Nat)) (s : State) : shiftDuty (l.foldl crossPoint s).shc = shiftDuty s.shc := by
    induction l generalizing s with
    | nil => rfl
    | cons x l ih => rw [List.foldl_cons, ih, crossPoint_shiftDuty]
  have crossed : shiftDuty (crossPoints s).shc = shiftDuty s.shc := by
    unfold crossPoints; split
    · exact fold _ s
    · rfl
  rw [takeTimeOfDay, seeTime_shiftDuty, crossed]

@[simp] theorem warmShift_shiftDuty (s : State) : shiftDuty (warmShift s).shc = shiftDuty s.shc := by
  have restarted (t : State) : shiftDuty (if dutyHeld t.shc then restartPresence t else t).shc = shiftDuty t.shc := by
    split <;> rfl
  simp only [warmShift, restarted, takeTimeOfDay_shiftDuty]

/-! ### The accounts and the queue -/

/-- An account without its persistence state. -/
def accountValues (a : Account) : Account := { a with status := .clean }

/-- The accounts of some kinds keep their values and tallies. -/
def AccountsStand (only : Kind → Prop) (s t : State) : Prop :=
  ∀ u k, only k → accountValues (t.account u k) = accountValues (s.account u k) ∧ t.tally u k = s.tally u k

/-- An account's record is being written. -/
def InFlight (s : State) (y : UnitId × Kind) : Prop :=
  ∃ x, s.asc.inFlight = some x ∧ x.item = .account y.1 y.2

/-- What the store keeps while records are chosen and requested: the format mark's state, what FROZEN comes to, a fault
that is absent, the last failure, and every entry of the queue until its record is written (R137, R138, R142). -/
structure StoreStands (s t : State) : Prop where
  formatPending : t.asc.formatPending = s.asc.formatPending
  frozen : (t.asc.frozen || t.asc.freezePending) = (s.asc.frozen || s.asc.freezePending)
  freezePending : s.asc.freezePending = false → t.asc.freezePending = false
  fault : s.asc.fault = false → t.asc.fault = false
  lastFailure : t.asc.lastFailure = s.asc.lastFailure
  queue : ∀ y, y ∈ s.asc.queue ∨ InFlight s y → y ∈ t.asc.queue ∨ InFlight t y

theorem StoreStands.of_eq {s t : State} (h : t.asc = s.asc) : StoreStands s t where
  formatPending := by rw [h]
  frozen := by rw [h]
  freezePending := by rw [h]; exact id
  fault := by rw [h]; exact id
  lastFailure := by rw [h]
  queue := by unfold InFlight; rw [h]; exact fun _ => id

theorem StoreStands.trans {s t u : State} (h : StoreStands s t) (h' : StoreStands t u) : StoreStands s u where
  formatPending := h'.formatPending.trans h.formatPending
  frozen := h'.frozen.trans h.frozen
  freezePending := h'.freezePending ∘ h.freezePending
  fault := h'.fault ∘ h.fault
  lastFailure := h'.lastFailure.trans h.lastFailure
  queue y := h'.queue y ∘ h.queue y

/-- The records that the steps of a start keep. -/
structure RecordsStand (only : Kind → Prop) (s t : State) : Prop where
  units : steadyUnits t.usm = steadyUnits s.usm
  duty : shiftDuty t.shc = shiftDuty s.shc
  accounts : AccountsStand only s t
  store : StoreStands s t

namespace RecordsStand

variable {only : Kind → Prop}

theorem trans {s t u : State} (h : RecordsStand only s t) (h' : RecordsStand only t u) : RecordsStand only s u where
  units := h'.units.trans h.units
  duty := h'.duty.trans h.duty
  accounts v k hk := ⟨(h'.accounts v k hk).1.trans (h.accounts v k hk).1, (h'.accounts v k hk).2.trans (h.accounts v k hk).2⟩
  store := h.store.trans h'.store

/-- An operation that writes neither accounts nor the store. -/
theorem of_frame {s t : State} (units : steadyUnits t.usm = steadyUnits s.usm) (duty : shiftDuty t.shc = shiftDuty s.shc)
    (rha : t.rha = s.rha) (asc : t.asc = s.asc) : RecordsStand only s t :=
  ⟨units, duty, fun u k _ => ⟨by rw [State.account_congr rha], State.tally_congr rha u k⟩, .of_eq asc⟩

theorem refl (s : State) : RecordsStand only s s := of_frame rfl rfl rfl rfl

/-- An operation on the accounts and the store. -/
theorem of_store {s t : State} (usm : t.usm = s.usm) (shc : t.shc = s.shc) (accounts : AccountsStand only s t)
    (store : StoreStands s t) : RecordsStand only s t := ⟨by rw [usm], by rw [shc], accounts, store⟩

end RecordsStand

/-! ### The store's own operations -/

theorem setStatus_accountsStand (only : Kind → Prop) (u : UnitId) (k : Kind) (p : Persistence) (s : State) :
    AccountsStand only s (s.setStatus u k p) := by
  intro v l _
  rw [State.account_setStatus, State.tally_setStatus]
  split
  · rename_i own; rw [own.1, own.2]; exact ⟨rfl, rfl⟩
  · exact ⟨rfl, rfl⟩

theorem takeTrigger_storeStands (s : State) : StoreStands s (takeTrigger s) := by
  unfold takeTrigger beginCommit
  (repeat' split) <;> exact ⟨rfl, rfl, id, id, rfl, fun _ => id⟩

theorem takeFreeze_storeStands (s : State) : StoreStands s (takeFreeze s) := by
  unfold takeFreeze
  split
  · rename_i h; exact ⟨rfl, by simp [h], fun _ => rfl, id, rfl, fun _ => id⟩
  · exact .of_eq rfl

theorem takeRecommit_storeStands (s : State) : StoreStands s (takeRecommit s) := by
  unfold takeRecommit
  split
  · exact .trans (t := { s with asc := { s.asc with recommit := false } }) ⟨rfl, rfl, id, id, rfl, fun _ => id⟩
      (takeTrigger_storeStands _)
  · exact .of_eq rfl

/-- The end of a commit that is done (R141). -/
theorem commitEnd_storeStands (s : State) : StoreStands s (commitEnd true s) := by
  refine StoreStands.trans (StoreStands.trans ?_ (takeFreeze_storeStands _)) (takeRecommit_storeStands _)
  exact ⟨rfl, rfl, id, fun _ => rfl, rfl, fun _ => id⟩

theorem beginAccountWrite_stands (only : Kind → Prop) (u : UnitId) (k : Kind) (o : Origin) (s : State) :
    AccountsStand only s (beginAccountWrite u k o s) := by
  have := setStatus_accountsStand only u k (.writing .none) s
  exact this

/-- A transaction begun while none is in flight leaves each entry of the queue in it, or in flight (R134, R137). -/
theorem beginTransaction_storeStands {s t : State} (item : StoreItem) (o : Origin) (r : List Byte)
    (free : s.asc.inFlight = none) (fields : t.asc.formatPending = s.asc.formatPending ∧ t.asc.frozen = s.asc.frozen
      ∧ t.asc.freezePending = s.asc.freezePending ∧ t.asc.fault = s.asc.fault ∧ t.asc.lastFailure = s.asc.lastFailure)
    (entries : ∀ y ∈ s.asc.queue, y ∈ t.asc.queue ∨ item = .account y.1 y.2) :
    StoreStands s (beginTransaction item o r t) := by
  obtain ⟨formatPending, frozen, freezePending, fault, lastFailure⟩ := fields
  refine ⟨formatPending, ?_, freezePending.trans, fault.trans, lastFailure, fun y h => ?_⟩
  · show (t.asc.frozen || t.asc.freezePending) = _
    rw [frozen, freezePending]
  · rcases h with h | ⟨x, h, -⟩
    · exact (entries y h).imp id fun e => ⟨_, rfl, e⟩
    · rw [free] at h; cases h

/-- A queue entry being the head is written, or stays in the queue (R137). -/
theorem mem_rest_or_head {y : UnitId × Kind} {u : UnitId} {k : Kind} {rest : List (UnitId × Kind)}
    (h : y ∈ (u, k) :: rest) : y ∈ rest ∨ StoreItem.account u k = .account y.1 y.2 := by
  rcases List.mem_cons.mp h with rfl | h
  · exact .inr rfl
  · exact .inl h

/-- The choice of the next record keeps the records of a start (R137, R140). -/
theorem chooseNext_stands (only : Kind → Prop) (fuel : Nat) (s : State) :
    RecordsStand only s (chooseNext fuel s) := by
  induction fuel generalizing s with
  | zero => exact .refl s
  | succ n ih =>
    unfold chooseNext
    split
    · exact .refl s
    · rename_i guard
      have free : s.asc.inFlight = none := by
        cases h : s.asc.inFlight <;> simp_all
      split
      · rename_i u k rest hq
        exact .of_store rfl rfl (beginAccountWrite_stands only u k .queue { s with asc := { s.asc with queue := rest } })
          (beginTransaction_storeStands _ _ _ free ⟨rfl, rfl, rfl, rfl, rfl⟩ fun y h => mem_rest_or_head (hq ▸ h))
      · rename_i hq
        split
        · split
          · rename_i u k _
            exact .of_store rfl rfl (beginAccountWrite_stands only u k .commit
                { s with asc := { s.asc with cursor := walkPosition u k, cursorTaken := false } })
              (beginTransaction_storeStands _ _ _ free ⟨rfl, rfl, rfl, rfl, rfl⟩ fun y h => .inl h)
          · have moved : RecordsStand only s { s with asc := { s.asc with cursor := 40, cursorTaken := true } } :=
              .of_store rfl rfl (fun _ _ _ => ⟨rfl, rfl⟩) ⟨rfl, rfl, id, id, rfl, fun _ => id⟩
            dsimp only
            split
            · exact .of_store rfl rfl (fun _ _ _ => ⟨rfl, rfl⟩)
                (beginTransaction_storeStands _ _ _ free ⟨rfl, rfl, rfl, rfl, rfl⟩ fun y h => .inl h)
            · have ended (t : State) : RecordsStand only t (commitEnd true t) :=
                .of_store (by simp) (by simp)
                  (fun u k _ => ⟨by rw [State.account_congr (commitEnd_frame true t).2.2.2.2.2.2.1],
                    State.tally_congr (commitEnd_frame true t).2.2.2.2.2.2.1 u k⟩) (commitEnd_storeStands t)
              exact (moved.trans (ended _)).trans (ih _)
        · exact .refl s

theorem serveStore_stands (only : Kind → Prop) (s : State) : RecordsStand only s (serveStore s) :=
  chooseNext_stands only 3 s

theorem takeTrigger_stands (only : Kind → Prop) (s : State) : RecordsStand only s (takeTrigger s) :=
  .of_store (by simp) (by simp) (fun u k _ => ⟨by rw [State.account_congr (takeTrigger_frame s).2.2.2.2.2.2.1],
    State.tally_congr (takeTrigger_frame s).2.2.2.2.2.2.1 u k⟩) (takeTrigger_storeStands s)

theorem commitTrigger_stands (only : Kind → Prop) (s : State) : RecordsStand only s (commitTrigger s) :=
  (takeTrigger_stands only s).trans (serveStore_stands only _)

/-- A queue request keeps the values of every account, and the queue grows (R121, R138). -/
theorem requestQueue_stands (only : Kind → Prop) (u : UnitId) (k : Kind) (s : State) :
    RecordsStand only s (requestQueue u k s) := by
  unfold requestQueue
  split
  · exact .refl s
  · split
    · exact .of_store rfl rfl (setStatus_accountsStand only u k .queued s)
        ⟨rfl, rfl, id, id, rfl, fun y h => h.imp (List.mem_append_left _) id⟩
    · exact .of_store rfl rfl (setStatus_accountsStand only u k .dirty s) (.of_eq rfl)

theorem setStatus_stands (only : Kind → Prop) (u : UnitId) (k : Kind) (p : Persistence) (s : State) :
    RecordsStand only s (s.setStatus u k p) :=
  .of_store rfl rfl (setStatus_accountsStand only u k p s) (.of_eq rfl)

theorem queueChange_stands (only : Kind → Prop) (u : UnitId) (k : Kind) (s : State) :
    RecordsStand only s (queueChange u k s) := by
  unfold queueChange
  split <;> first
    | exact requestQueue_stands only u k s
    | exact setStatus_stands only u k _ s
    | exact .refl s

/-- An increment keeps the values and tallies of every account of another kind (R114). -/
theorem increment_stands (u : UnitId) (k : Kind) (s : State) : RecordsStand (· ≠ k) s (increment u k s) := by
  have counted (a : Account) (n : Nat) : RecordsStand (· ≠ k) s ((s.setAccount u k a).setTally u k n) :=
    .of_store rfl rfl (fun v l hl => by simp [hl]) (.of_eq rfl)
  simp only [increment]
  split
  · exact setStatus_stands _ u k _ s
  · split
    · exact .refl s
    · split
      · exact counted _ _
      · unfold countChange secondsChange
        split
        · exact (counted _ _).trans (setStatus_stands _ u k _ _)
        · exact (counted _ _).trans (queueChange_stands _ u k _)

theorem countOne_stands (u : UnitId) (k : Kind) (s : State) : RecordsStand (· ≠ k) s (countOne u k s) :=
  (increment_stands u k s).trans (serveStore_stands _ _)

/-! ### The steps of a start -/

theorem report_stands (only : Kind → Prop) (us : List UnitId) (s : State) : RecordsStand only s (report us s) :=
  .of_frame (by simp) (by simp) (by simp) (by simp)

theorem placeByOpening_stands (a : Assertion) (n : Nat) (s : State) :
    RecordsStand (· ≠ .trips) s (placeByOpening a n s) := by
  have opened : RecordsStand (· ≠ .trips) s (openGroup a n s) := .of_frame rfl rfl rfl rfl
  have tripped (t : State) : RecordsStand (· ≠ .trips) t (tripIfStops a t) :=
    .of_frame (by simp) (by simp) (by simp) (by simp)
  exact (opened.trans (countOne_stands a.unit .trips _)).trans (tripped _)

theorem placeCase_stands (a : Assertion) (n held : Nat) (s : State) :
    RecordsStand (· ≠ .trips) s (placeCase a n held s) := by
  unfold placeCase
  split
  · exact .refl s
  · split
    · exact placeByOpening_stands a n s
    · split
      · exact .of_frame (by split <;> simp) (by split <;> simp) (by split <;> simp) (by split <;> simp)
      · exact .trans (.of_frame (by simp) (by simp) (by simp) (by simp)) (placeByOpening_stands a n _)

theorem takeAssertion_stands (a : Assertion) (s : State) : RecordsStand (· ≠ .trips) s (takeAssertion a s) := by
  have result : RecordsStand (· ≠ .trips) s (assertionResult a s) := by
    have overflows (s : State) : RecordsStand (· ≠ .trips) s (overflowAssertion a s) :=
      .of_frame (by simp) (by simp) (by simp) (by simp)
    simp only [assertionResult]
    (repeat' split) <;> first
      | exact overflows s
      | exact .trans (.of_frame (by simp) (by simp) (by simp) (by simp)) (placeCase_stands a _ _ _)
  exact result.trans (.of_frame (by simp [takeAssertion]) (by simp [takeAssertion]) (by simp [takeAssertion])
    (by simp [takeAssertion]))

theorem takeRelease_stands (only : Kind → Prop) (u : UnitId) (i : InputId) (x : Option Stamp) (s : State) :
    RecordsStand only s (takeRelease u i x s) := by
  unfold takeRelease
  (repeat' split) <;> first
    | exact .refl s
    | exact .of_frame (by simp) (by simp) (by simp) (by simp)

theorem restartInputs_stands (s : State) : RecordsStand (· ≠ .trips) s (restartInputs s) := by
  have one (x : Stamp) (s : State) (y : UnitId × InputId) :
      RecordsStand (· ≠ .trips) s (handOnRestart x s y) := by
    simp only [handOnRestart]
    (repeat' split) <;> first
      | exact .refl s
      | exact takeAssertion_stands _ s
      | exact takeRelease_stands _ _ _ _ s
  have fold (x : Stamp) (l : List (UnitId × InputId)) (s : State) :
      RecordsStand (· ≠ .trips) s (l.foldl (handOnRestart x) s) := by
    induction l generalizing s with
    | nil => exact .refl s
    | cons y l ih => exact (one x s y).trans (ih _)
  exact .trans (t := { s with tiu := rebuildInputs s.tiu }) (.of_frame rfl rfl rfl rfl) (fold s.now inputOrder _)

theorem holdupIfAsserted_stands (only : Kind → Prop) (s : State) : RecordsStand only s (holdupIfAsserted s) := by
  unfold holdupIfAsserted enterHoldup
  split
  · refine .trans ?_ (commitTrigger_stands only _)
    exact .of_frame rfl rfl rfl rfl
  · exact .refl s

theorem warmGroups_stands (only : Kind → Prop) (s : State) : RecordsStand only s (warmGroups s) := by
  have fold (l : List UnitId) (s : State) :
      RecordsStand only s (l.foldl (fun s u => closeGroup u .warmStart s) s) := by
    induction l generalizing s with
    | nil => exact .refl s
    | cons u l ih => exact .trans (.of_frame (by simp) (by simp) (by simp) (by simp)) (ih _)
  simp only [warmGroups]
  split
  · exact .refl s
  · exact (fold _ s).trans (report_stands only _ _)

theorem warmAccounts_stands (only : Kind → Prop) (s : State) : RecordsStand only s (warmAccounts s) := by
  have one (s : State) (x : UnitId × Kind) : RecordsStand only s (warmAccount s x) := by
    simp only [warmAccount]
    split
    · split
      · exact (setStatus_stands only _ _ _ s).trans (requestQueue_stands only _ _ _)
      · exact setStatus_stands only _ _ _ s
    · exact .refl s
  have fold (l : List (UnitId × Kind)) (s : State) : RecordsStand only s (l.foldl warmAccount s) := by
    induction l generalizing s with
    | nil => exact .refl s
    | cons x l ih => exact (one s x).trans (ih _)
  exact fold walkOrder s

/-- The load made again at a start, with no transaction in flight (R147). -/
theorem resumeLoad_stands (only : Kind → Prop) {s : State} (free : s.asc.inFlight = none) :
    RecordsStand only s (resumeLoad s) := by
  unfold resumeLoad loadNextRead
  (repeat' split) <;> first
    | exact .refl s
    | exact .of_store rfl rfl (fun _ _ _ => ⟨rfl, rfl⟩)
        (beginTransaction_storeStands _ _ _ free ⟨rfl, rfl, rfl, rfl, rfl⟩ fun y h => .inl h)
    | skip
  rename_i some _ _ none
  rw [none] at some; exact absurd rfl some

end Sys2Proof.Proofs
end

section
/-! PROOFS. The warm start, stage by stage, and what it leaves of each block (R17, R30, R51, R111, R130, R147, R171,
R197). -/

namespace Sys2Proof.Proofs

open Sys2Proof.Machine Sys2Proof.Safety

/-! ### The stages -/

/-- The part at the beginning of a warm start: the straps, the supply, the Timebase and the units (R17, R30, R111). -/
def startBegun (a : BitVec 5) (f : Bool) (d : Nat) (s : State) : State :=
  { warmTimebase d { s with lnu := s.lnu.restarted a f, spm := s.spm.restarted } with
    usm := (warmTimebase d { s with lnu := s.lnu.restarted a f, spm := s.spm.restarted }).usm.restarted }

/-- The controller's own state restarted, and the period timer (R147). -/
def storeRestarted (s : State) : State := restartPeriod { s with asc := s.asc.warmStarted }

/-- The part before it reads its inputs: the store's load and commit, and HOLDUP if PFI is asserted (R147, R194). -/
def startStored (s : State) : State := holdupIfAsserted (commitTrigger (resumeLoad s))

/-- What comes after the reading of the inputs (R171, R182, R197). -/
def startEnded (s : State) : State := driveOutputs (raise .warmStart (warmShift s))

/-- A warm start in its stages: the blocks restarted, the groups closed and the accounts out of WRITING, the store
restarted, the store served, the inputs read, the outputs driven (R197). -/
theorem warmStart_stages (a : BitVec 5) (f : Bool) (d : Nat) (s : State) :
    ∃ b q, b = startBegun a f d s ∧ q = warmAccounts (warmGroups b)
      ∧ warmStart a f d s = startEnded (restartInputs (startStored (storeRestarted q))) := ⟨_, _, rfl, rfl, rfl⟩

theorem startBegun_blocks (a : BitVec 5) (f : Bool) (d : Nat) (s : State) :
    (startBegun a f d s).usm = s.usm.restarted ∧ (startBegun a f d s).shc = s.shc ∧ (startBegun a f d s).rha = s.rha
      ∧ (startBegun a f d s).asc = s.asc ∧ (startBegun a f d s).ct = s.ct ∧ (startBegun a f d s).tgr = s.tgr
      ∧ (startBegun a f d s).tiu = s.tiu ∧ (startBegun a f d s).spm = s.spm.restarted
      ∧ (startBegun a f d s).pending = s.pending := by
  simp [startBegun]

theorem storeRestarted_free (s : State) : (storeRestarted s).asc.inFlight = none := rfl

theorem startEnded_stands (only : Kind → Prop) (s : State) : RecordsStand only s (startEnded s) :=
  .of_frame (by simp [startEnded]) (by simp [startEnded]) (by simp [startEnded]) (by simp [startEnded])

theorem startStored_stands (only : Kind → Prop) {s : State} (free : s.asc.inFlight = none) :
    RecordsStand only s (startStored s) :=
  ((resumeLoad_stands only free).trans (commitTrigger_stands only _)).trans (holdupIfAsserted_stands only _)

/-- From the restart of the store on, a warm start keeps its records but the TRIPS accounts (R51, R147). -/
theorem afterStore_stands {s : State} (free : s.asc.inFlight = none) :
    RecordsStand (· ≠ .trips) s (startEnded (restartInputs (startStored s))) :=
  ((startStored_stands _ free).trans (restartInputs_stands _)).trans (startEnded_stands _ _)

theorem startQueued_stands (only : Kind → Prop) (s : State) : RecordsStand only s (warmAccounts (warmGroups s)) :=
  (warmGroups_stands only s).trans (warmAccounts_stands only _)

/-! ### The Timebase and the sources -/

theorem warmStart_time (a : BitVec 5) (f : Bool) (d : Nat) (s : State) :
    let t := warmStart a f d s
    t.tb.seconds = s.tb.seconds ∧ t.tb.frac = s.tb.frac ∧ t.tb.elapsed = s.tb.elapsed
      ∧ t.tb.timeSet = s.tb.timeSet ∧ t.tb.freq = s.tb.freq ∧ t.tb.trim = s.tb.freq
      ∧ t.tb.trimRem = s.tb.trimRem ∧ t.tb.lockHeld = s.tb.lockHeld
      ∧ t.tb.uncertainty = min (s.tb.uncertainty + 200 * d) 4000000000
      ∧ t.tb.state = (if s.tb.state = .free then .free else .holdover)
      ∧ t.tb.outlierRun = 0 ∧ t.tb.firstOutlier = none ∧ t.tb.lockRun = 0 ∧ t.tb.growthRem = 0
      ∧ t.tb.loopExp = s.tb.loopExp ∧ t.tb.stepThreshold = s.tb.stepThreshold ∧ t.tb.holdRate = s.tb.holdRate := by
  intro t
  have tb : t.tb = _ := warmStart_tb_eq a f d s
  rw [tb, Nat.mul_comm 200 d]
  exact ⟨rfl, rfl, rfl, rfl, rfl, rfl, rfl, rfl, rfl, rfl, rfl, rfl, rfl, rfl, rfl, rfl, rfl⟩

theorem warmStart_sources (a : BitVec 5) (f : Bool) (d : Nat) (s : State) :
    (warmStart a f d s).riu.selection = none ∧ ∀ x, (warmStart a f d s).riu.source x = { s.riu.source x with
      state := .absent, run := 0, lastPulse := none, lastError := none, extra := 0 } := by
  rw [warmStart_riu_eq]
  exact ⟨rfl, fun x => by cases x <;> rfl⟩

/-! ### The units -/

/-- A unit after a warm start is the one its restarted record says, but for the flag and the mode (R105, R111). -/
theorem warmStart_steadyUnits (a : BitVec 5) (f : Bool) (d : Nat) (s : State) :
    steadyUnits (warmStart a f d s).usm = steadyUnits s.usm.restarted := by
  have begun := (startBegun_blocks a f d s).1
  obtain ⟨b, q, hb, hq, ht⟩ := warmStart_stages a f d s
  rw [ht, (afterStore_stands (storeRestarted_free q)).units]
  have queued := (startQueued_stands (fun _ => True) b).units
  rw [← hq] at queued
  rw [← begun, ← hb, ← queued]
  rfl

theorem steadyRecord_get {x y : Usm} (h : steadyUnits x = steadyUnits y) (u : UnitId) :
    steadyRecord (x.units.get u) = steadyRecord (y.units.get u) := by
  have := congrArg (fun x : Usm => x.units.get u) h
  simpa only [steadyUnits, PerUnit.get_map] using this

/-- What a unit's record shows of its restart (R111). -/
theorem units_of_steady {s t : State} (h : steadyUnits t.usm = steadyUnits s.usm.restarted) (u : UnitId) :
    (t.unit u).speed = .unknown ∧ (t.unit u).armed = false ∧ (t.unit u).lost = false
      ∧ (t.unit u).bands = (s.unit u).bands ∧ (t.unit u).calMinus = (s.unit u).calMinus
      ∧ (t.unit u).calMagnitude = (s.unit u).calMagnitude
      ∧ (t.unit u).breaker = { (s.unit u).breaker with stable := (s.unit u).breaker.level, pending := none }
      ∧ (t.unit u).pumpMode = { (s.unit u).pumpMode with stable := (s.unit u).pumpMode.level, pending := none } := by
  have steady : steadyRecord (t.unit u) = steadyRecord (s.unit u).restarted := by
    have := steadyRecord_get h u
    rwa [Usm.restarted, PerUnit.get_map] at this
  have field {α : Type} (g : UnitRecord → α) : g (steadyRecord (t.unit u)) = g (steadyRecord (s.unit u).restarted) := by
    rw [steady]
  exact ⟨field (·.speed), field (·.armed), field (·.lost), field (·.bands), field (·.calMinus), field (·.calMagnitude),
    field (·.breaker), field (·.pumpMode)⟩

theorem scan_of_steady {x y : Usm} (h : steadyUnits x = steadyUnits y.restarted) :
    x.supplyReading = none ∧ x.scan = .speed .u1 := ⟨congrArg (·.supplyReading) h, congrArg (·.scan) h⟩

/-! ### The accounts and the store -/

theorem eq_of_accountValues {a b : Account} (h : accountValues a = accountValues b) : a = { b with status := a.status } := by
  cases a; cases b; simp only [accountValues, Account.mk.injEq] at h ⊢; tauto

theorem requestQueue_queue {u : UnitId} {k : Kind} {s : State} {y : UnitId × Kind} (h : y ∈ s.asc.queue) :
    y ∈ (requestQueue u k s).asc.queue := by
  unfold requestQueue
  split
  · exact h
  · split
    · exact List.mem_append_left _ h
    · exact h

/-- No entry leaves the queue while the accounts leave WRITING (R130). -/
theorem warmAccounts_queue {s : State} {y : UnitId × Kind} (h : y ∈ s.asc.queue) :
    y ∈ (warmAccounts s).asc.queue := by
  have one (s : State) (x : UnitId × Kind) (h : y ∈ s.asc.queue) : y ∈ (warmAccount s x).asc.queue := by
    simp only [warmAccount]
    split
    · split
      · exact requestQueue_queue (s := s.setStatus x.1 x.2 .dirty) h
      · exact h
    · exact h
  have fold (l : List (UnitId × Kind)) (s : State) (h : y ∈ s.asc.queue) : y ∈ (l.foldl warmAccount s).asc.queue := by
    induction l generalizing s with
    | nil => exact h
    | cons x l ih => exact ih _ (one s x h)
  rw [warmAccounts]
  exact fold walkOrder s h

theorem warmGroups_asc (s : State) : (warmGroups s).asc = s.asc := by simp

/-- The store after a start whose groups and accounts came before it and whose inputs came after (R147). -/
theorem store_of_stages {s b q t : State} (asc : b.asc = s.asc) (queued : StoreStands b q)
    (ended : StoreStands (storeRestarted q) t) :
    t.asc.formatPending = s.asc.formatPending ∧ t.asc.frozen = (s.asc.frozen || s.asc.freezePending)
      ∧ t.asc.fault = false ∧ t.asc.lastFailure = none := by
  have freeze : t.asc.freezePending = false := ended.freezePending rfl
  refine ⟨ended.formatPending.trans (queued.formatPending.trans (by rw [asc])), ?_, ended.fault rfl, ended.lastFailure⟩
  have frozen := ended.frozen
  rw [freeze, Bool.or_false] at frozen
  rw [frozen, ← asc, ← queued.frozen]
  exact Bool.or_false _

theorem queue_of_stages {b q t : State} (hq : q = warmAccounts (warmGroups b)) (ended : StoreStands (storeRestarted q) t)
    {y : UnitId × Kind} (h : y ∈ b.asc.queue) : y ∈ t.asc.queue ∨ InFlight t y := by
  rw [← warmGroups_asc b] at h
  have queued : y ∈ q.asc.queue := by rw [hq]; exact warmAccounts_queue h
  exact ended.queue y (.inl queued)

theorem warmStart_storeStands (a : BitVec 5) (f : Bool) (d : Nat) (s : State) :
    ∃ b q, b.asc = s.asc ∧ b.rha = s.rha ∧ q = warmAccounts (warmGroups b)
      ∧ RecordsStand (· ≠ .trips) (storeRestarted q) (warmStart a f d s) := by
  obtain ⟨-, -, rha, asc, -⟩ := startBegun_blocks a f d s
  obtain ⟨b, q, hb, hq, ht⟩ := warmStart_stages a f d s
  rw [← hb] at rha asc
  exact ⟨b, q, asc, rha, hq, by rw [ht]; exact afterStore_stands (storeRestarted_free q)⟩

/-- What a warm start keeps of the store, of its queue, and of the accounts that the inputs do not reach (R130, R147). -/
theorem warmStart_store (a : BitVec 5) (f : Bool) (d : Nat) (s : State) :
    ((warmStart a f d s).asc.formatPending = s.asc.formatPending
        ∧ (warmStart a f d s).asc.frozen = (s.asc.frozen || s.asc.freezePending)
        ∧ (warmStart a f d s).asc.fault = false ∧ (warmStart a f d s).asc.lastFailure = none)
      ∧ (∀ y ∈ s.asc.queue, y ∈ (warmStart a f d s).asc.queue ∨ InFlight (warmStart a f d s) y)
      ∧ AccountsStand (· ≠ .trips) s (warmStart a f d s) := by
  obtain ⟨b, q, asc, rha, hq, ended⟩ := warmStart_storeStands a f d s
  generalize warmStart a f d s = t at *
  have queued : RecordsStand (· ≠ .trips) b q := by rw [hq]; exact startQueued_stands _ b
  refine ⟨store_of_stages asc queued.store ended.store, fun y h => queue_of_stages hq ended.store (asc ▸ h),
    fun u k hk => ?_⟩
  obtain ⟨values, tally⟩ := ended.accounts u k hk
  obtain ⟨values', tally'⟩ := queued.accounts u k hk
  exact ⟨values.trans (values'.trans (by rw [State.account_congr rha])),
    tally.trans (tally'.trans (State.tally_congr rha u k))⟩

/-! ### The shift, the link and the supply -/

theorem warmStart_shiftDuty (a : BitVec 5) (f : Bool) (d : Nat) (s : State) :
    shiftDuty (warmStart a f d s).shc = shiftDuty s.shc := by
  obtain ⟨-, shc, -⟩ := startBegun_blocks a f d s
  obtain ⟨b, q, hb, hq, ht⟩ := warmStart_stages a f d s
  rw [← hb] at shc
  have queued := (startQueued_stands (· ≠ .trips) b).duty
  rw [← hq] at queued
  rw [ht, (afterStore_stands (storeRestarted_free q)).duty, ← shc, ← queued]
  rfl

/-- What the stages after the first leave of the link (R173, R175). -/
theorem startLink (b : State) :
    let t := startEnded (restartInputs (startStored (storeRestarted (warmAccounts (warmGroups b)))))
    t.lnu.errors = b.lnu.errors ∧ t.lnu.address = b.lnu.address ∧ t.lnu.fast = b.lnu.fast
      ∧ t.lnu.answering = b.lnu.answering := by
  simp only [startEnded, startStored, storeRestarted, driveOutputs_frame, raise_frame, warmShift_frame,
    restartInputs_frame, holdupIfAsserted_frame, commitTrigger_frame, resumeLoad_frame, restartPeriod_frame,
    warmAccounts_frame, warmGroups_frame, and_self]

theorem startBegun_link (a : BitVec 5) (f : Bool) (d : Nat) (s : State) :
    (startBegun a f d s).lnu.errors = 0 ∧ (startBegun a f d s).lnu.address = a.toNat
      ∧ (startBegun a f d s).lnu.fast = f ∧ (startBegun a f d s).lnu.answering = false := by
  simp only [startBegun, warmTimebase_frame]
  exact ⟨rfl, rfl, rfl, rfl⟩

theorem startEnded_warmStart (s : State) : (startEnded s).lnu.flags.warmStart = true := by
  have driven (s : State) : (driveOutputs s).lnu.flags = s.lnu.flags := rfl
  rw [startEnded, driven, raise_flags]; rfl

theorem warmStart_link (a : BitVec 5) (f : Bool) (d : Nat) (s : State) :
    (warmStart a f d s).lnu.flags.warmStart = true ∧ (warmStart a f d s).lnu.errors = 0
      ∧ (warmStart a f d s).lnu.masks = s.lnu.masks
      ∧ (warmStart a f d s).lnu.address = a.toNat ∧ (warmStart a f d s).lnu.fast = f
      ∧ (warmStart a f d s).lnu.answering = false := by
  have masks := (warmStart_frame a f d s).2
  obtain ⟨errors, address, fast, answering⟩ := startBegun_link a f d s
  obtain ⟨b, q, hb, hq, ht⟩ := warmStart_stages a f d s
  obtain ⟨errors', address', fast', answering'⟩ := startLink b
  rw [← hb] at errors address fast answering
  rw [← hq] at errors' address' fast' answering'
  refine ⟨by rw [ht, startEnded_warmStart], ?_, masks, ?_, ?_, ?_⟩ <;> rw [ht]
  · exact errors'.trans errors
  · exact address'.trans address
  · exact fast'.trans fast
  · exact answering'.trans answering

theorem holdupIfAsserted_spm (s : State) :
    (holdupIfAsserted s).spm = if s.spm.pfiLevel then
      { s.spm with supply := .holdup, lowRun := 0, restoreBy := none } else s.spm := by
  unfold holdupIfAsserted; split
  · exact enterHoldup_spm s
  · rfl

theorem startSupply (b : State) :
    (startEnded (restartInputs (startStored (storeRestarted (warmAccounts (warmGroups b)))))).spm
      = if b.spm.pfiLevel then { b.spm with supply := .holdup, lowRun := 0, restoreBy := none } else b.spm := by
  simp only [startEnded, startStored, storeRestarted, driveOutputs_frame, raise_frame, warmShift_frame,
    restartInputs_frame, holdupIfAsserted_spm, commitTrigger_frame, resumeLoad_frame, restartPeriod_frame,
    warmAccounts_frame, warmGroups_frame]

/-- A warm start ends in HOLDUP exactly where PFI is found asserted (R197). -/
theorem warmStart_supply (a : BitVec 5) (f : Bool) (d : Nat) (s : State) :
    (warmStart a f d s).spm.supply = (if s.spm.pfiLevel then .holdup else .run)
      ∧ (warmStart a f d s).spm.pfiStable = s.spm.pfiLevel ∧ (warmStart a f d s).pending = s.pending := by
  have pending := (warmStart_frame a f d s).1
  obtain ⟨-, -, -, -, -, -, -, spm, -⟩ := startBegun_blocks a f d s
  obtain ⟨b, q, hb, hq, ht⟩ := warmStart_stages a f d s
  have supply := startSupply b
  rw [← hb] at spm
  rw [← hq, ← ht, spm] at supply
  refine ⟨?_, ?_, pending⟩ <;> rw [supply]
  · cases h : s.spm.pfiLevel <;> simp [Spm.restarted, h]
  · cases h : s.spm.pfiLevel <;> simp [Spm.restarted, h]

/-! ### The inputs, the cases and the groups -/

theorem input_rebuilt {s t : State} (h : t.tiu = rebuildInputs s.tiu) (u : UnitId) (i : InputId) :
    t.input u i = { s.input u i with
      inForce := (s.input u i).config, chatter := 0
      filter := if (s.input u i).config.enable && (s.input u i).closed then .asserted else .idle } := by
  rw [State.input, h]
  simp only [rebuildInputs, PerUnit.get_map, PerInput.get_map]
  rfl

theorem inputCase_congr {s t : State} (h : s.ct = t.ct) (u : UnitId) (i : InputId) :
    s.inputCase u i = t.inputCase u i := by
  unfold State.inputCase State.slot State.caseSet; rw [h]

/-- The inputs found closed and enabled are exactly those whose case is asserted (R51). -/
def InputsAgree (s : State) : Prop :=
  ∀ u i, FoundClosed s u i ↔ ∃ j c, s.inputCase u i = some (j, c) ∧ IsAsserted c

theorem inputsAgree_congr {s t : State} (tiu : t.tiu = s.tiu) (ct : t.ct = s.ct) (h : InputsAgree s) : InputsAgree t := by
  intro u i
  rw [inputCase_congr ct, FoundClosed, State.input_congr tiu]
  exact h u i

/-- The filter of a rebuilt input is asserted exactly where the contact is found closed and enabled (R51). -/
theorem rebuilt_asserted {s t : State} (h : t.tiu = rebuildInputs s.tiu) (u : UnitId) (i : InputId) :
    (t.input u i).filter = .asserted ↔ FoundClosed s u i := by
  rw [input_rebuilt h]
  cases he : (s.input u i).config.enable <;> cases hc : (s.input u i).closed <;> simp [FoundClosed, he, hc]

/-- Where the inputs agree with the cases, a rebuilt input hands nothing on (R51). -/
theorem handOnRestart_of_agree {s : State} (h : InputsAgree s) (x : Stamp) (y : UnitId × InputId) :
    handOnRestart x { s with tiu := rebuildInputs s.tiu } y = { s with tiu := rebuildInputs s.tiu } := by
  have agree := h y.1 y.2
  have filter := rebuilt_asserted (s := s) (t := { s with tiu := rebuildInputs s.tiu }) rfl y.1 y.2
  have cases : State.inputCase { s with tiu := rebuildInputs s.tiu } y.1 y.2 = s.inputCase y.1 y.2 := rfl
  simp only [handOnRestart, filter, cases]
  cases hc : s.inputCase y.1 y.2 with
  | none =>
    have open_ : ¬ FoundClosed s y.1 y.2 := by rw [agree, hc]; simp
    simp [open_]
  | some z =>
    obtain ⟨j, c⟩ := z
    have held : FoundClosed s y.1 y.2 ↔ c.asserted = true := by rw [agree, hc]; simp [IsAsserted, Case.asserted]
    by_cases ha : c.asserted = true
    · simp [held.mpr ha, ha]
    · have open_ : ¬ FoundClosed s y.1 y.2 := fun f => ha (held.mp f)
      simp [open_, ha]

theorem restartInputs_of_agree {s : State} (h : InputsAgree s) :
    restartInputs s = { s with tiu := rebuildInputs s.tiu } := by
  have fold (l : List (UnitId × InputId)) : l.foldl (handOnRestart s.now) { s with tiu := rebuildInputs s.tiu }
      = { s with tiu := rebuildInputs s.tiu } := by
    induction l with
    | nil => rfl
    | cons y l ih => rw [List.foldl_cons, handOnRestart_of_agree h, ih]
  exact fold inputOrder

theorem warmGroups_none {s : State} (h : ∀ u, s.tgr.groups.get u = none) : warmGroups s = s := by
  have : openUnits s.tgr = [] := List.filter_eq_nil_iff.mpr fun u _ => by simp [h]
  simp [warmGroups, this]

/-- The blocks that a store's restart and its service leave as they are. -/
theorem startStored_blocks (q : State) :
    (startStored (storeRestarted q)).tiu = q.tiu ∧ (startStored (storeRestarted q)).ct = q.ct
      ∧ (startStored (storeRestarted q)).tgr = q.tgr ∧ (startStored (storeRestarted q)).usm = q.usm := by
  simp only [startStored, storeRestarted, holdupIfAsserted_frame, commitTrigger_frame, resumeLoad_frame,
    restartPeriod_frame, and_self]

theorem startEnded_blocks (s : State) :
    (startEnded s).ct = s.ct ∧ (startEnded s).tgr = s.tgr ∧ (startEnded s).usm = s.usm := by
  simp only [startEnded, driveOutputs_frame, raise_frame, warmShift_frame, and_self]

/-- The stages after the first, where the contacts agree with the cases and no group is OPEN (R51, R92). -/
theorem stages_of_agree {b q t : State} (none : ∀ u, b.tgr.groups.get u = none) (agree : InputsAgree b)
    (hq : q = warmAccounts (warmGroups b)) (ht : t = startEnded (restartInputs (startStored (storeRestarted q)))) :
    t.ct = b.ct ∧ t.tgr = b.tgr ∧ t.usm = b.usm ∧ RecordsStand (fun _ => True) (storeRestarted q) t := by
  rw [warmGroups_none none] at hq
  obtain ⟨tiu, ct, tgr, usm⟩ := startStored_blocks q
  have ct' : q.ct = b.ct := by rw [hq]; simp
  have tgr' : q.tgr = b.tgr := by rw [hq]; simp
  have usm' : q.usm = b.usm := by rw [hq]; simp
  have tiu' : q.tiu = b.tiu := by rw [hq]; simp
  have stored := startStored_stands (fun _ => True) (storeRestarted_free q)
  generalize startStored (storeRestarted q) = v at *
  rw [restartInputs_of_agree (inputsAgree_congr (tiu.trans tiu') (ct.trans ct') agree)] at ht
  obtain ⟨ct'', tgr'', usm''⟩ := startEnded_blocks { v with tiu := rebuildInputs v.tiu }
  have ended := startEnded_stands (fun _ => True) { v with tiu := rebuildInputs v.tiu }
  rw [← ht] at ct'' tgr'' usm'' ended
  have rebuilt : RecordsStand (fun _ => True) v { v with tiu := rebuildInputs v.tiu } := .of_frame rfl rfl rfl rfl
  exact ⟨ct''.trans (ct.trans ct'), tgr''.trans (tgr.trans tgr'), usm''.trans (usm.trans usm'),
    (stored.trans rebuilt).trans ended⟩

/-- A warm start that finds the contacts agreeing with the cases and no group OPEN (R51, R92, R105, R130). -/
theorem warmStart_agree (a : BitVec 5) (f : Bool) (d : Nat) {s : State} (h : ContactsAgree s) :
    (warmStart a f d s).ct = s.ct ∧ (warmStart a f d s).tgr = s.tgr ∧ (warmStart a f d s).usm = s.usm.restarted
      ∧ AccountsStand (fun _ => True) s (warmStart a f d s) := by
  obtain ⟨usm, -, rha, -, ct, tgr, tiu, -⟩ := startBegun_blocks a f d s
  obtain ⟨b, q, hb, hq, ht⟩ := warmStart_stages a f d s
  generalize warmStart a f d s = t at *
  rw [← hb] at usm rha ct tgr tiu
  obtain ⟨ct', tgr', usm', ended⟩ := stages_of_agree (by rw [tgr]; exact h.1) (inputsAgree_congr tiu ct h.2) hq ht
  refine ⟨ct'.trans ct, tgr'.trans tgr, usm'.trans usm, fun u k _ => ?_⟩
  have queued : RecordsStand (fun _ => True) b q := by rw [hq]; exact startQueued_stands _ b
  obtain ⟨values, tally⟩ := ended.accounts u k trivial
  obtain ⟨values', tally'⟩ := queued.accounts u k trivial
  exact ⟨values.trans (values'.trans (by rw [State.account_congr rha])),
    tally.trans (tally'.trans (State.tally_congr rha u k))⟩

/-! ### The groups that a warm start opens -/

theorem closeGroup_groups (u v : UnitId) (r : CloseReason) (s : State) :
    (closeGroup u r s).tgr.groups.get v = if v = u then none else s.tgr.groups.get v := by
  unfold closeGroup
  split
  · rename_i h; split
    · rename_i own; rw [own, h]
    · rfl
  · exact PerUnit.get_set _ _ _ _

/-- After a start's closing no group is OPEN (R92). -/
theorem warmGroups_groups (s : State) (u : UnitId) : (warmGroups s).tgr.groups.get u = none := by
  have fold (l : List UnitId) (s : State) :
      (l.foldl (fun s u => closeGroup u .warmStart s) s).tgr.groups.get u
        = if u ∈ l then none else s.tgr.groups.get u := by
    induction l generalizing s with
    | nil => rfl
    | cons v l ih =>
      rw [List.foldl_cons, ih, closeGroup_groups]
      by_cases h : u = v <;> simp [h]
  simp only [warmGroups]
  split
  · rename_i none
    by_contra some
    have : u ∈ openUnits s.tgr := by simp [openUnits, Option.isSome_iff_ne_none, some]
    rw [List.isEmpty_iff.mp none] at this; cases this
  · rw [(report_frame _ _).2.2.2.2.1, fold]
    split
    · rfl
    · rename_i closed
      simpa [openUnits] using closed

/-- An assertion changes the group of its own unit alone (R84, R85). -/
theorem takeAssertion_groups (a : Assertion) (s : State) {v : UnitId} (h : v ≠ a.unit) :
    (takeAssertion a s).tgr.groups.get v = s.tgr.groups.get v := by
  have closed (r : CloseReason) (s : State) : (closeGroup a.unit r s).tgr.groups.get v = s.tgr.groups.get v := by
    rw [closeGroup_groups, if_neg h]
  have opening (n : Nat) (s : State) : (placeByOpening a n s).tgr.groups.get v = s.tgr.groups.get v := by
    simp only [placeByOpening, tripIfStops_frame, countOne_frame]
    exact (PerUnit.get_set _ _ _ _).trans (if_neg h)
  have joined (n : Nat) (g : OpenGroup) (s : State) : (joinGroup a n g s).tgr.groups.get v = s.tgr.groups.get v := by
    simp only [joinGroup]
    split <;> exact (PerUnit.get_set _ _ _ _).trans (if_neg h)
  have dueClosed (s : State) : (closeIfDue a.unit s).tgr.groups.get v = s.tgr.groups.get v := by
    unfold closeIfDue
    (repeat' split) <;> first | rfl | exact closed _ s
  have placed (n held : Nat) (s : State) : (placeCase a n held s).tgr.groups.get v = s.tgr.groups.get v := by
    unfold placeCase
    split
    · rfl
    · split
      · exact opening n s
      · split
        · rw [dueClosed, (tripIfStops_frame _ _).2.2.2.2.1]
          split
          · rfl
          · exact joined n _ s
        · rw [opening, closed]
  have result : (assertionResult a s).tgr.groups.get v = s.tgr.groups.get v := by
    simp only [assertionResult]
    (repeat' split) <;> simp only [placed, openCase_frame, retripCase_frame, overflowAssertion_frame]
  simp only [takeAssertion, evalCaseLamp_frame, report_frame, result]

/-- A start leaves a group OPEN only at a unit with an input found closed (R51, R84). -/
theorem restartInputs_groups {s : State} (closed : ∀ u, s.tgr.groups.get u = none) (u : UnitId)
    (h : (restartInputs s).tgr.groups.get u ≠ none) : ∃ i, (s.input u i).closed = true := by
  by_contra no
  have one (x : Stamp) (t : State) (y : UnitId × InputId) (tiu : t.tiu = rebuildInputs s.tiu) :
      (handOnRestart x t y).tiu = rebuildInputs s.tiu
        ∧ (handOnRestart x t y).tgr.groups.get u = t.tgr.groups.get u := by
    refine ⟨by simp [tiu], ?_⟩
    by_cases own : u = y.1
    · have idle : (t.input y.1 y.2).filter ≠ .asserted := fun asserted =>
        no ⟨y.2, own ▸ ((rebuilt_asserted tiu y.1 y.2).mp asserted).2⟩
      simp only [handOnRestart, if_neg idle]
      (repeat' split) <;> first | rfl | rw [(takeRelease_frame _ _ _ _).2.2.2.1]
    · simp only [handOnRestart]
      (repeat' split) <;> first | rfl | rw [(takeRelease_frame _ _ _ _).2.2.2.1] | exact takeAssertion_groups _ _ own
  have fold (l : List (UnitId × InputId)) (x : Stamp) (t : State) (tiu : t.tiu = rebuildInputs s.tiu) :
      (l.foldl (handOnRestart x) t).tgr.groups.get u = t.tgr.groups.get u := by
    induction l generalizing t with
    | nil => rfl
    | cons y l ih => rw [List.foldl_cons, ih _ (one x t y tiu).1, (one x t y tiu).2]
  rw [restartInputs, fold inputOrder s.now _ rfl] at h
  exact h (closed u)

theorem warmStart_groups (a : BitVec 5) (f : Bool) (d : Nat) (s : State) (u : UnitId)
    (h : (warmStart a f d s).tgr.groups.get u ≠ none) : ∃ i, (s.input u i).closed = true := by
  obtain ⟨-, -, -, -, -, -, tiu, -⟩ := startBegun_blocks a f d s
  obtain ⟨b, q, hb, hq, ht⟩ := warmStart_stages a f d s
  generalize warmStart a f d s = t at *
  rw [← hb] at tiu
  have closed : ∀ u, q.tgr.groups.get u = none := fun u => by
    rw [hq, (warmAccounts_frame _).2.2.2.2.1]; exact warmGroups_groups b u
  have queued : q.tiu = b.tiu := by rw [hq]; simp
  obtain ⟨tiu', -, tgr, -⟩ := startStored_blocks q
  rw [ht, (startEnded_blocks _).2.1] at h
  generalize startStored (storeRestarted q) = v at *
  have found := restartInputs_groups (s := v) (by rw [tgr]; exact closed) u h
  rwa [funext fun i => State.input_congr (tiu'.trans (queued.trans tiu)) u i] at found

/-! ### The statement -/

/-- What a unit's latch and its held flag are after a start that finds the contacts agreeing with the cases (R105). -/
theorem warmStart_latches (a : BitVec 5) (f : Bool) (d : Nat) {s : State} (h : ContactsAgree s) (u : UnitId) :
    ((warmStart a f d s).unit u).tripped = (s.unit u).tripped
      ∧ ((warmStart a f d s).unit u).caseHeld = (s.unit u).caseHeld := by
  obtain ⟨-, -, usm, -⟩ := warmStart_agree a f d h
  generalize warmStart a f d s = t at *
  rw [State.unit, usm, Usm.restarted, PerUnit.get_map]
  exact ⟨rfl, rfl⟩

theorem warmStart_accounts (a : BitVec 5) (f : Bool) (d : Nat) (s : State) (u : UnitId) (k : Kind)
    (h : k ≠ .trips ∨ ContactsAgree s) :
    (warmStart a f d s).account u k = { s.account u k with status := ((warmStart a f d s).account u k).status }
      ∧ (warmStart a f d s).tally u k = s.tally u k := by
  have stand : accountValues ((warmStart a f d s).account u k) = accountValues (s.account u k)
      ∧ (warmStart a f d s).tally u k = s.tally u k := by
    rcases h with other | agree
    · exact (warmStart_store a f d s).2.2 u k other
    · exact (warmStart_agree a f d agree).2.2.2 u k trivial
  exact ⟨eq_of_accountValues stand.1, stand.2⟩

theorem warmStart_shift (a : BitVec 5) (f : Bool) (d : Nat) (s : State) :
    let t := warmStart a f d s
    t.shc.number = s.shc.number ∧ t.shc.duty = s.shc.duty ∧ t.shc.team = s.shc.team
      ∧ t.shc.start = s.shc.start ∧ t.shc.offer = s.shc.offer ∧ t.shc.lapses = s.shc.lapses
      ∧ t.shc.previous = s.shc.previous ∧ t.shc.roster = s.shc.roster ∧ t.shc.lead = s.shc.lead
      ∧ t.shc.grace = s.shc.grace ∧ t.shc.presenceExp = s.shc.presenceExp ∧ t.shc.auto = s.shc.auto := by
  have duty := warmStart_shiftDuty a f d s
  have settings := (SettingsStand.warmStart a f d s).shift
  simp only [shiftDuty, shiftSettings, Prod.mk.injEq] at duty settings
  obtain ⟨number, onDuty, team, start, offer, lapses, previous⟩ := duty
  exact ⟨number, onDuty, team, start, offer, lapses, previous, settings⟩

/-- Settles O59: each clause is what the stages of a warm start leave of one block, or what the rebuilding of the
inputs hands on. -/
theorem warmStartKeepsTheRecords : Obligations.WarmStartKeepsTheRecords := by
  unfold Obligations.WarmStartKeepsTheRecords
  intro warm
  have warmed (d : Nat) (a : BitVec 5) (f : Bool) (s : State) : warm d a f s (warmStart a f d s) := by
    obtain ⟨mark, queue, -⟩ := warmStart_store a f d s
    have inputs (u : UnitId) (i : InputId) := input_rebuilt (warmStart_tiu a f d s) u i
    have units (u : UnitId) := units_of_steady (warmStart_steadyUnits a f d s) u
    exact ⟨warmStart_time a f d s, warmStart_sources a f d s,
      ⟨congrArg (·.testMode) (warmStart_tiu a f d s), inputs,
        fun agree => ⟨(warmStart_agree a f d agree).1, (warmStart_agree a f d agree).2.1⟩,
        (SettingsStand.warmStart a f d s).window, warmStart_groups a f d s⟩,
      fun u => by
        obtain ⟨speed, armed, lost, bands, minus, magnitude, breaker, pump⟩ := units u
        exact ⟨speed, armed, lost, bands, minus, magnitude, breaker, pump, fun agree => warmStart_latches a f d agree u⟩,
      scan_of_steady (warmStart_steadyUnits a f d s), warmStart_accounts a f d s, queue,
      ⟨(SettingsStand.warmStart a f d s).period, mark⟩, warmStart_shift a f d s, warmStart_link a f d s,
      warmStart_supply a f d s⟩
  refine ⟨fun s a f powered => ⟨_, by rw [exec, execResetPin, if_pos powered], warmed 0 a f s⟩,
    fun s a f backup retained => ⟨_, by rw [exec, execMainSupplyReturn, if_pos backup, if_pos retained], ?_, ?_⟩⟩
  · exact warmed (backupDuration s.tb) a f (skipBackupBoundaries s)
  · rw [warmStart_tb_eq]; rfl

end Sys2Proof.Proofs
end

section
/-! PROOFS. A restart assertion taken while the store loads: the case it opens, the group, the unit and the account
(R51, R60, R84, R85, R90, R114, R144). -/

namespace Sys2Proof.Proofs

open Sys2Proof.Machine Sys2Proof.Safety

/-! ### What a slot shows of its case -/

/-- What a case says of its trip: its unit and input, its state, the TEST mark and the stamp (R60). -/
abbrev CaseFace := UnitId × InputId × CaseState × Bool × Stamp

def caseFace (c : Case) : CaseFace := (c.unit, c.input, c.state, c.test, c.assertStamp)

/-- The face of the case in a slot. -/
def faceAt (s : State) (u : UnitId) (j : SlotId) : Option CaseFace := (s.slot u j).map caseFace

theorem faceAt_congr {s t : State} (h : s.ct = t.ct) (u : UnitId) (j : SlotId) : faceAt s u j = faceAt t u j := by
  rw [faceAt, State.slot_congr h, faceAt]

/-- A change of the group and of the marks of a case leaves every face (R83, R86). -/
theorem updateCase_face {f : Case → Case} (h : ∀ c, caseFace (f c) = caseFace c) (u : UnitId) (n : Nat) (s : State)
    (v : UnitId) (j : SlotId) : faceAt (updateCase u n f s) v j = faceAt s v j := by
  unfold faceAt updateCase State.slot
  rw [State.caseSet_setCaseSet]
  split
  · rename_i own
    rw [PerSlot.get_map, own, Option.map_map, Function.comp_def]
    refine congrArg (Option.map · _) (funext fun c => ?_)
    split
    · exact h c
    · rfl
  · rfl

theorem touchSlot_slot (u v : UnitId) (i j : SlotId) (s : State) : (touchSlot u i s).slot v j = s.slot v j := by
  unfold State.slot touchSlot
  rw [State.caseSet_setCaseSet]
  split
  · rename_i own; subst own; cases i <;> rfl
  · rfl

theorem counter_slot (s : State) (n : Nat) (v : UnitId) (j : SlotId) :
    State.slot { s with ct := { s.ct with counter := n } } v j = s.slot v j := rfl

/-- A case opened shows the assertion in its slot (R60). -/
theorem openCase_face (a : Assertion) (i : SlotId) (s : State) (v : UnitId) (j : SlotId) :
    faceAt (openCase a i s) v j = if v = a.unit ∧ j = i then some (a.unit, a.input, .active, a.test, a.stamp)
      else faceAt s v j := by
  unfold openCase faceAt
  dsimp only
  rw [State.slot_congr (raiseFor_frame _ _ _).2.2.2.1, counter_slot, touchSlot_slot, State.slot_setSlot]
  split
  · rfl
  · rename_i other; rw [State.slot_setSlot, if_neg other]

theorem openGroup_face (a : Assertion) (n : Nat) (s : State) (v : UnitId) (j : SlotId) :
    faceAt (openGroup a n s) v j = faceAt s v j := by
  unfold openGroup
  rw [updateCase_face (by intro c; rfl)]
  exact faceAt_congr rfl v j

theorem setGroup_face (u : UnitId) (g : Option OpenGroup) (s : State) (v : UnitId) (j : SlotId) :
    faceAt (setGroup u g s) v j = faceAt s v j := faceAt_congr rfl v j

theorem joinGroup_face (a : Assertion) (n : Nat) (g : OpenGroup) (s : State) (v : UnitId) (j : SlotId) :
    faceAt (joinGroup a n g s) v j = faceAt s v j := by
  unfold joinGroup
  dsimp only
  split
  · rw [setGroup_face, updateCase_face (by intro c; rfl), updateCase_face (by intro c; rfl)]
  · rw [setGroup_face, updateCase_face (by intro c; rfl)]

/-! ### The count of a trip while the store loads -/

/-- While a record is in flight the store chooses no other (R137). -/
theorem serveStore_busy {s : State} (h : s.asc.inFlight.isSome = true) : serveStore s = s := by
  simp [serveStore, chooseNext, h]

/-- An account whose load is outstanding takes the count into its pending amount (R114, R144). -/
theorem countOne_loading {u : UnitId} {k : Kind} {p : Nat} {s : State} (busy : s.asc.inFlight.isSome = true)
    (loading : (s.account u k).status = .loading p) : countOne u k s = s.setStatus u k (.loading (bump 65535 p)) := by
  have counted : increment u k s = s.setStatus u k (.loading (bump 65535 p)) := by simp only [increment, loading]
  rw [countOne, counted, serveStore_busy (s := s.setStatus u k _) busy]

/-! ### The group -/

/-- An OPEN group that an assertion at an instant joins and that its close-at has not reached (R84, R88). -/
def Standing (e : Nat) (g : OpenGroup) : Prop :=
  0 < g.window ∧ e < g.closeAt ∧ e ≤ g.earliest.elapsed + g.window

theorem openGroup_groups (a : Assertion) (n : Nat) (s : State) :
    ∃ g, (openGroup a n s).tgr.groups.get a.unit = some g ∧ Standing a.stamp.elapsed g := by
  have window : 0 < groupWindow s.tgr.windowExp := Nat.mul_pos (by decide) (Nat.pow_pos (by decide))
  refine ⟨_, (PerUnit.get_set _ _ _ _).trans (if_pos rfl), window, ?_, ?_⟩ <;> dsimp only <;> omega

theorem joinGroup_groups (a : Assertion) (n : Nat) {g : OpenGroup} (s : State) (h : Standing a.stamp.elapsed g) :
    ∃ g', (joinGroup a n g s).tgr.groups.get a.unit = some g' ∧ Standing a.stamp.elapsed g' := by
  obtain ⟨window, due, within⟩ := h
  unfold joinGroup
  dsimp only
  split
  · refine ⟨_, (PerUnit.get_set _ _ _ _).trans (if_pos rfl), window, ?_, ?_⟩ <;> dsimp only <;> omega
  · exact ⟨_, (PerUnit.get_set _ _ _ _).trans (if_pos rfl), window, due, within⟩

theorem closeIfDue_standing {u : UnitId} {s : State} {g : OpenGroup} (h : s.tgr.groups.get u = some g)
    (standing : Standing s.elapsed g) : closeIfDue u s = s := by
  have open_ : s.reached g.closeAt = false := decide_eq_false (Nat.not_le.mpr standing.2.1)
  simp [closeIfDue, h, open_]

/-! ### The placing of a trip -/

theorem joinGroup_lnu (a : Assertion) (n : Nat) (g : OpenGroup) (s : State) : (joinGroup a n g s).lnu = s.lnu := by
  unfold joinGroup; dsimp only; split <;> simp [setGroup]

/-- What a unit's first trip does when it is placed: a group opens, the unit trips and TRIPS counts (R85, R90). -/
structure Placed (a : Assertion) (s t : State) : Prop where
  faces : ∀ v j, faceAt t v j = faceAt s v j
  group : ∃ g, t.tgr.groups.get a.unit = some g ∧ Standing a.stamp.elapsed g
  usm : t.usm = (setTripped a.unit s).usm
  asc : t.asc = s.asc
  lnu : t.lnu = s.lnu

theorem setTripped_usm {s t : State} (h : s.usm = t.usm) (u : UnitId) : (setTripped u s).usm = (setTripped u t).usm := by
  unfold setTripped State.setUnit State.unit; rw [h]

theorem placeByOpening_placed {a : Assertion} {n p : Nat} {s : State} (stops : a.stops = true)
    (busy : s.asc.inFlight.isSome = true) (loading : (s.account a.unit .trips).status = .loading p) :
    Placed a s (placeByOpening a n s)
      ∧ (placeByOpening a n s).rha = (s.setStatus a.unit .trips (.loading (bump 65535 p))).rha := by
  have asc : (openGroup a n s).asc = s.asc := by simp
  have rha : (openGroup a n s).rha = s.rha := by simp
  have account : (openGroup a n s).account a.unit .trips = s.account a.unit .trips := State.account_congr rha _ _
  have group := openGroup_groups a n s
  have faces := openGroup_face a n s
  have usm : (openGroup a n s).usm = s.usm := by simp
  have lnu : (openGroup a n s).lnu = s.lnu := by simp
  have counted := countOne_loading (k := .trips) (asc ▸ busy) ((congrArg (·.status) account).trans loading)
  unfold placeByOpening
  rw [tripIfStops, if_pos stops, counted]
  generalize openGroup a n s = o at *
  exact ⟨⟨faces, group, setTripped_usm usm a.unit, asc, lnu⟩,
    by simp only [setTripped_frame, State.setStatus, State.setAccount, account, rha]⟩

/-- A trip that finds its group OPEN joins it, and counts no more (R84). -/
theorem placeJoining_placed {a : Assertion} {n held : Nat} {g : OpenGroup} {s : State} (stops : a.stops = true)
    (now : a.stamp.elapsed = s.elapsed) (open_ : s.tgr.groups.get a.unit = some g)
    (standing : Standing a.stamp.elapsed g) :
    let t := closeIfDue a.unit (tripIfStops a (if held = g.id then s else joinGroup a n g s))
    Placed a s t ∧ t.rha = s.rha := by
  have joined : ∃ o, (if held = g.id then s else joinGroup a n g s) = o ∧ o.elapsed = s.elapsed
      ∧ (∀ v j, faceAt o v j = faceAt s v j)
      ∧ (∃ g', o.tgr.groups.get a.unit = some g' ∧ Standing a.stamp.elapsed g')
      ∧ o.usm = s.usm ∧ o.asc = s.asc ∧ o.rha = s.rha ∧ o.lnu = s.lnu := by
    refine ⟨_, rfl, ?_⟩
    split
    · exact ⟨rfl, fun _ _ => rfl, ⟨g, open_, standing⟩, rfl, rfl, rfl, rfl⟩
    · exact ⟨State.elapsed_congr (by simp), joinGroup_face a n g s, joinGroup_groups a n s standing, by simp, by simp,
        by simp, joinGroup_lnu a n g s⟩
  obtain ⟨o, ho, elapsed, faces, ⟨g', open', standing'⟩, usm, asc, rha, lnu⟩ := joined
  rw [ho, tripIfStops, if_pos stops]
  have elapsed' : (setTripped a.unit o).elapsed = a.stamp.elapsed := by
    rw [State.elapsed_congr (t := o) (by simp), elapsed, now]
  rw [closeIfDue_standing (g := g') (s := setTripped a.unit o) open' (elapsed' ▸ standing')]
  exact ⟨⟨faces, ⟨g', open', standing'⟩, setTripped_usm usm a.unit, asc, lnu⟩, rha⟩

/-- The account of a unit's trips after one that is placed: the pending amount takes the first of a group (R85). -/
def TripCounted (u : UnitId) (s t : State) : Prop :=
  (s.tgr.groups.get u = none → ∀ p, (s.account u .trips).status = .loading p →
      t.rha = (s.setStatus u .trips (.loading (bump 65535 p))).rha)
    ∧ (s.tgr.groups.get u ≠ none → t.rha = s.rha)

theorem placeCase_placed {a : Assertion} {n held : Nat} {s : State} (test : a.test = false) (stops : a.stops = true)
    (now : a.stamp.elapsed = s.elapsed) (busy : s.asc.inFlight.isSome = true)
    (loading : ∃ p, (s.account a.unit .trips).status = .loading p)
    (standing : ∀ g, s.tgr.groups.get a.unit = some g → Standing a.stamp.elapsed g) :
    Placed a s (placeCase a n held s) ∧ TripCounted a.unit s (placeCase a n held s) := by
  obtain ⟨p, hp⟩ := loading
  unfold placeCase
  rw [if_neg (by simp [test])]
  cases open_ : s.tgr.groups.get a.unit with
  | none =>
    obtain ⟨placed, counted⟩ := placeByOpening_placed (n := n) stops busy hp
    refine ⟨placed, fun _ q hq => ?_, fun other => absurd open_ other⟩
    obtain rfl : p = q := by rw [hp] at hq; exact Persistence.loading.inj hq
    exact counted
  | some g =>
    have fresh := standing g open_
    obtain ⟨placed, uncounted⟩ := placeJoining_placed (n := n) (held := held) stops now open_ fresh
    dsimp only
    rw [if_pos fresh.2.2]
    exact ⟨placed, ⟨fun closed => absurd (open_.symm.trans closed) (by simp), fun _ => uncounted⟩⟩

/-! ### The assertion taken whole -/

/-- A raise for a unit sets its own flag alone (R179). -/
theorem raiseFor_flag {n m : Notice} (h : m ≠ n) (u : UnitId) (s : State) :
    (raiseFor n u s).lnu.flags.get m = s.lnu.flags.get m := by
  have flags : (raiseFor n u s).lnu.flags = s.lnu.flags.set n true := rfl
  rw [flags, PerNotice.get_set, if_neg h]

/-- What a restart assertion does to the part while the store loads (R51, R58, R73). -/
structure TakenAtStart (a : Assertion) (i : SlotId) (s t : State) : Prop where
  faces : ∀ v j, faceAt t v j = if v = a.unit ∧ j = i then some (a.unit, a.input, .active, false, a.stamp)
    else faceAt s v j
  group : ∃ g, t.tgr.groups.get a.unit = some g ∧ Standing a.stamp.elapsed g
  groups : ∀ v, v ≠ a.unit → t.tgr.groups.get v = s.tgr.groups.get v
  tripped : (t.unit a.unit).tripped = true ∧ (t.unit a.unit).mode = .tripped
  units : ∀ v, v ≠ a.unit → t.unit v = s.unit v
  asc : t.asc = s.asc
  counted : TripCounted a.unit s t
  flags : ∀ m, m ≠ .newCase → t.lnu.flags.get m = s.lnu.flags.get m

/-- The report of a unit that is TRIPPED and not in STANDSTILL leaves it so (R105). -/
theorem report_tripped {u : UnitId} {s : State} (trip : (s.unit u).tripped = true)
    (moving : (s.unit u).speed ≠ .standstill) :
    ((report [u] s).unit u).tripped = true ∧ ((report [u] s).unit u).mode = (s.unit u).mode := by
  have unit : (bumpVersion s).unit u = s.unit u := rfl
  simp [report, reportUnit, checkTripped_eq, unit, trip, moving]

theorem takeAssertion_takenAtStart {a : Assertion} {i : SlotId} {s : State} (test : a.test = false)
    (stops : a.stops = true) (now : a.stamp.elapsed = s.elapsed) (busy : s.asc.inFlight.isSome = true)
    (loading : ∃ p, (s.account a.unit .trips).status = .loading p)
    (standing : ∀ g, s.tgr.groups.get a.unit = some g → Standing a.stamp.elapsed g)
    (moving : (s.unit a.unit).speed ≠ .standstill) (new : s.inputCase a.unit a.input = none)
    (free : (s.caseSet a.unit).allocate = some i) : TakenAtStart a i s (takeAssertion a s) := by
  have groups (v : UnitId) (h : v ≠ a.unit) := takeAssertion_groups a s h
  have face := openCase_face a i s
  obtain ⟨tb, -, -, tgr, usm, rha, asc, -⟩ := openCase_frame a i s
  have flag (m : Notice) (h : m ≠ .newCase) : (openCase a i s).lnu.flags.get m = s.lnu.flags.get m := by
    unfold openCase; rw [raiseFor_flag h]; rfl
  have account : (openCase a i s).account a.unit .trips = s.account a.unit .trips := State.account_congr rha _ _
  have result : takeAssertion a s = evalCaseLamp (report [a.unit]
      (placeCase a (slotNumber (openCase a i s) a.unit i) 0 (openCase a i s))) := by
    simp only [takeAssertion, assertionResult, new, free]
  rw [result] at groups ⊢
  generalize slotNumber (openCase a i s) a.unit i = n at *
  generalize openCase a i s = o at *
  obtain ⟨placed, counted⟩ := placeCase_placed (n := n) (held := 0) (s := o) test stops
    (now.trans (State.elapsed_congr tb.symm)) (by rw [asc]; exact busy) (by rw [account]; exact loading)
    (by rw [tgr]; exact standing)
  generalize placeCase a n 0 o = p at *
  obtain ⟨-, -, -, ct, tgr', rha', asc', lnu, -⟩ := report_frame [a.unit] p
  have unit (v : UnitId) : p.unit v = (setTripped a.unit s).unit v :=
    State.unit_congr (placed.usm.trans (setTripped_usm usm a.unit)) v
  have own : p.unit a.unit = (s.unit a.unit).trip := by rw [unit, setTripped, State.unit_setUnit, if_pos rfl]
  obtain ⟨trip, mode⟩ := report_tripped (u := a.unit) (s := p) (by rw [own]; rfl) (by rw [own]; exact moving)
  exact {
    faces := fun v j => by
      rw [faceAt_congr (s := evalCaseLamp (report [a.unit] p)) (t := p) ct, placed.faces, face, test]
    group := by
      obtain ⟨g, open_, standing'⟩ := placed.group
      exact ⟨g, (congrArg (·.groups.get a.unit) tgr').trans open_, standing'⟩
    groups := groups
    tripped := ⟨trip, mode.trans (by rw [own]; rfl)⟩
    units := fun v h => by
      have kept := (report_one a.unit p).2.2.1 v h
      exact kept.trans ((unit v).trans (by rw [setTripped, State.unit_setUnit, if_neg h]))
    asc := asc'.trans (placed.asc.trans asc)
    counted := ⟨fun none q hq => rha'.trans (by
        rw [counted.1 (by rw [tgr]; exact none) q (by rw [account]; exact hq)]
        simp only [State.setStatus, State.setAccount, account, rha]),
      fun other => rha'.trans ((counted.2 (by rw [tgr]; exact other)).trans rha)⟩
    flags := fun m h => by
      rw [← flag m h, ← placed.lnu]
      exact congrArg (·.flags.get m) lnu }

end Sys2Proof.Proofs
end

section
/-! PROOFS. The reading of the inputs at a cold start: the trips of the contacts found closed are taken one after the
other, each into a slot of its own (R52, R79, R112). -/

namespace Sys2Proof.Proofs

open Sys2Proof.Machine Sys2Proof.Safety

/-! ### The state before the reading -/

/-- A part with every input at its default, no case, no group and every unit unknown, whose store loads (R198). -/
structure Blank (v : State) : Prop where
  enabled : ∀ u i, (v.input u i).config.enable = true
  stops : ∀ u i, (v.input u i).config.stops = true
  test : ∀ u, v.tiu.testMode.get u = false
  busy : v.asc.inFlight.isSome = true
  slots : ∀ u j, v.slot u j = none
  groups : ∀ u, v.tgr.groups.get u = none
  speed : ∀ u, (v.unit u).speed = .unknown
  latched : ∀ u, (v.unit u).tripped = false
  mode : ∀ u, (v.unit u).mode = (v.unit u).derivedMode
  loading : ∀ u k, (v.account u k).status = .loading 0

/-- What a start makes of a blank part once the trips of some inputs are taken. -/
structure HandedOn (v : State) (x : Stamp) (P : UnitId → InputId → Prop) (t : State) : Prop where
  tb : t.tb = v.tb
  tiu : t.tiu = rebuildInputs v.tiu
  asc : t.asc = v.asc
  held : ∀ u j f, faceAt t u j = some f → ∃ i, P u i ∧ f = (u, i, .active, false, x)
  shown : ∀ u i, P u i → ∃ j, faceAt t u j = some (u, i, .active, false, x)
  once : ∀ u j k f, faceAt t u j = some f → faceAt t u k = some f → j = k
  groups : ∀ u, t.tgr.groups.get u = none ↔ ∀ i, ¬ P u i
  standing : ∀ u g, t.tgr.groups.get u = some g → Standing x.elapsed g
  units : steadyUnits t.usm = steadyUnits v.usm
  tripped : ∀ u, (t.unit u).tripped = true ↔ ∃ i, P u i
  mode : ∀ u, (t.unit u).mode = (t.unit u).derivedMode
  accounts : ∀ u k, t.account u k = { v.account u k with status := (t.account u k).status }
  counted : ∀ u, (∃ i, P u i) → (t.account u .trips).status = .loading 1
  uncounted : ∀ u k, (k ≠ .trips ∨ ∀ i, ¬ P u i) → (t.account u k).status = .loading 0
  flags : ∀ m, m ≠ .newCase → t.lnu.flags.get m = v.lnu.flags.get m

theorem Blank.handedOn {v : State} (h : Blank v) (x : Stamp) :
    HandedOn v x (fun _ _ => False) { v with tiu := rebuildInputs v.tiu } := by
  have empty (u : UnitId) (j : SlotId) (f : CaseFace) : faceAt v u j ≠ some f := by rw [faceAt, h.slots]; simp
  have clear (u : UnitId) : (v.unit u).tripped ≠ true := by rw [h.latched]; decide
  exact {
    tb := rfl, tiu := rfl, asc := rfl, units := rfl, accounts := fun _ _ => rfl, flags := fun _ _ => rfl
    held := fun u j f hf => absurd hf (empty u j f)
    shown := fun _ _ none => none.elim
    once := fun u j k f hf => absurd hf (empty u j f)
    groups := fun u => iff_of_true (h.groups u) fun _ => id
    standing := fun u g hg => absurd ((h.groups u).symm.trans hg) (by simp)
    tripped := fun u => iff_of_false (clear u) (by simp)
    mode := h.mode
    counted := fun _ some => by simp at some
    uncounted := fun u k _ => h.loading u k }

/-! ### One input -/

/-- Four slots cannot show four different inputs none of which is a fifth. -/
theorem exists_free_slot {s : State} {u : UnitId} {i : InputId} {shows : InputId → Option CaseFace}
    (held : ∀ j, faceAt s u j ≠ none → ∃ k, k ≠ i ∧ faceAt s u j = shows k)
    (once : ∀ j l, faceAt s u j ≠ none → faceAt s u j = faceAt s u l → j = l) : ∃ j, faceAt s u j = none := by
  by_contra full
  push Not at full
  choose k other shown using fun j => held j (full j)
  have injective (j l : SlotId) (ne : j ≠ l) : inputNumber (k j) ≠ inputNumber (k l) := by
    intro same
    have : k j = k l := by revert same; cases k j <;> cases k l <;> simp [inputNumber]
    exact ne (once j l (full j) (by rw [shown, shown, this]))
  have apart (j : SlotId) : inputNumber (k j) ≠ inputNumber i := by
    intro same
    refine other j ?_
    revert same; cases k j <;> cases i <;> simp [inputNumber]
  have range (i : InputId) : 1 ≤ inputNumber i ∧ inputNumber i ≤ 4 := by cases i <;> decide
  have := range (k .s0); have := range (k .s1); have := range (k .s2); have := range (k .s3); have := range i
  have := apart .s0; have := apart .s1; have := apart .s2; have := apart .s3
  have := injective .s0 .s1 (by decide); have := injective .s0 .s2 (by decide)
  have := injective .s0 .s3 (by decide); have := injective .s1 .s2 (by decide)
  have := injective .s1 .s3 (by decide); have := injective .s2 .s3 (by decide)
  omega

theorem allocate_free {c : CaseSet} (h : ∃ j, c.slots.get j = none) :
    ∃ j, c.allocate = some j ∧ c.slots.get j = none := by
  obtain ⟨j, hj⟩ := h
  unfold CaseSet.allocate
  cases found : allSlots.find? fun i => (c.slots.get i).isNone with
  | none =>
    have := List.find?_eq_none.mp found j (by cases j <;> decide)
    simp [hj] at this
  | some l => exact ⟨l, rfl, by simpa using List.find?_some found⟩

/-- No case of an input is found where no slot shows one (R59). -/
theorem inputCase_none {s : State} {u : UnitId} {i : InputId}
    (h : ∀ j f, faceAt s u j = some f → f.2.1 ≠ i) : s.inputCase u i = none := by
  refine List.findSome?_eq_none_iff.mpr fun j _ => ?_
  have face := h j
  unfold faceAt at face
  cases hc : s.slot u j with
  | none => rfl
  | some c =>
    rw [hc] at face
    have other : c.input ≠ i := face (caseFace c) rfl
    simp [other]

namespace HandedOn

variable {v t : State} {x : Stamp} {P : UnitId → InputId → Prop}

theorem not_held (h : HandedOn v x P t) {u : UnitId} {i : InputId} (new : ¬ P u i) : t.inputCase u i = none :=
  inputCase_none fun j f hf => by
    obtain ⟨k, hk, rfl⟩ := h.held u j f hf
    rintro rfl
    exact new hk

theorem free (h : HandedOn v x P t) {u : UnitId} {i : InputId} (new : ¬ P u i) :
    ∃ j, (t.caseSet u).allocate = some j ∧ faceAt t u j = none := by
  have exists_free : ∃ j, faceAt t u j = none := by
    refine exists_free_slot (i := i) (shows := fun k => some (u, k, .active, false, x)) (fun j some => ?_)
      fun j l some same => ?_
    · obtain ⟨f, hf⟩ := Option.ne_none_iff_exists'.mp some
      obtain ⟨k, hk, rfl⟩ := h.held u j f hf
      exact ⟨k, fun same => new (same ▸ hk), hf⟩
    · obtain ⟨f, hf⟩ := Option.ne_none_iff_exists'.mp some
      exact h.once u j l f hf (same ▸ hf)
  have empty (j : SlotId) : faceAt t u j = none ↔ (t.caseSet u).slots.get j = none := Option.map_eq_none_iff
  obtain ⟨j, found, none⟩ := allocate_free (exists_free.imp fun j => (empty j).mp)
  exact ⟨j, found, (empty j).mpr none⟩

theorem speed (h : HandedOn v x P t) (u : UnitId) : (t.unit u).speed = (v.unit u).speed :=
  congrArg (·.speed) (steadyRecord_get h.units u)

/-- The assertion of an input not taken yet, into the first free slot of its unit. -/
theorem taken (blank : Blank v) (now : x.elapsed = v.elapsed) (h : HandedOn v x P t) {u : UnitId} {i : InputId}
    (new : ¬ P u i) {a : Assertion} (unit : a.unit = u) (input : a.input = i) (stamp : a.stamp = x)
    (stops : a.stops = true) (test : a.test = false) :
    ∃ j, faceAt t u j = none ∧ TakenAtStart a j t (takeAssertion a t) := by
  subst unit input stamp
  obtain ⟨j, found, none⟩ := h.free new
  have loading : ∃ p, (t.account a.unit .trips).status = .loading p := by
    by_cases some : ∃ i, P a.unit i
    · exact ⟨1, h.counted _ some⟩
    · exact ⟨0, h.uncounted _ _ (.inr (by simpa using some))⟩
  refine ⟨j, none, takeAssertion_takenAtStart test stops (now.trans (State.elapsed_congr h.tb.symm))
    (by rw [h.asc]; exact blank.busy) loading (h.standing a.unit) ?_ (h.not_held new) found⟩
  rw [h.speed, blank.speed]; decide

open Classical in
/-- The accounts after one more input is taken: the first trip of a unit counts in its TRIPS (R85, R114). -/
theorem account_taken (h : HandedOn v x P t) {a : Assertion} {r : State} (counted : TripCounted a.unit t r)
    (w : UnitId) (k : Kind) : r.account w k = if (w = a.unit ∧ k = .trips) ∧ ∀ i, ¬ P a.unit i then
      { t.account w k with status := .loading 1 } else t.account w k := by
  by_cases first : ∀ i, ¬ P a.unit i
  · have loading := h.uncounted a.unit .trips (.inr first)
    rw [State.account_congr (counted.1 ((h.groups _).mpr first) 0 loading), State.account_setStatus]
    by_cases own : w = a.unit ∧ k = .trips
    · rw [if_pos own, if_pos ⟨own, first⟩, own.1, own.2]; rfl
    · rw [if_neg own, if_neg fun both => own both.1]
  · rw [if_neg fun both => first both.2, State.account_congr (counted.2 fun none => first ((h.groups _).mp none))]

/-- What the taking of one more input makes of the part. -/
theorem add (h : HandedOn v x P t) {u : UnitId} {i : InputId} {j : SlotId} {a : Assertion} {r : State}
    (new : ¬ P u i) (unit : a.unit = u) (input : a.input = i) (stamp : a.stamp = x) (free : faceAt t u j = none)
    (r_eq : r = takeAssertion a t) (taken : TakenAtStart a j t r) :
    HandedOn v x (fun w k => P w k ∨ (w = u ∧ k = i)) r := by
  subst unit input stamp
  have kept : RecordsStand (· ≠ .trips) t r := r_eq ▸ takeAssertion_stands a t
  have face_ne {w : UnitId} {l : SlotId} {f : CaseFace} (hf : faceAt t w l = some f) : ¬ (w = a.unit ∧ l = j) := by
    rintro ⟨rfl, rfl⟩; rw [free] at hf; cases hf
  have held_old {w : UnitId} {l : SlotId} {f : CaseFace} (hf : faceAt t w l = some f) :
      f ≠ (a.unit, a.input, .active, false, a.stamp) := by
    rintro rfl
    obtain ⟨k, hk, same⟩ := h.held w l _ hf
    simp only [Prod.mk.injEq] at same
    exact new (same.1 ▸ same.2.1 ▸ hk)
  have account := h.account_taken taken.counted
  obtain ⟨tb, -, tiu, -⟩ := takeAssertion_frame a t
  rw [← r_eq] at tb tiu
  exact {
    tb := tb.trans h.tb
    tiu := tiu.trans h.tiu
    asc := taken.asc.trans h.asc
    units := kept.units.trans h.units
    flags := fun m hm => (taken.flags m hm).trans (h.flags m hm)
    held := fun w l f hf => by
      rw [taken.faces] at hf
      split at hf
      · rename_i own
        exact ⟨a.input, .inr ⟨own.1, rfl⟩, by rw [own.1]; exact (Option.some.inj hf).symm⟩
      · exact (h.held w l f hf).imp fun k hk => ⟨.inl hk.1, hk.2⟩
    shown := fun w k some => by
      rcases some with old | ⟨rfl, rfl⟩
      · obtain ⟨l, hl⟩ := h.shown w k old
        exact ⟨l, by rw [taken.faces, if_neg (face_ne hl), hl]⟩
      · exact ⟨j, by rw [taken.faces, if_pos ⟨rfl, rfl⟩]⟩
    once := fun w l m f hl hm => by
      rw [taken.faces] at hl hm
      split at hl <;> split at hm
      · rename_i own own'; exact own.2.trans own'.2.symm
      · exact absurd (Option.some.inj hl).symm (held_old hm)
      · exact absurd (Option.some.inj hm).symm (held_old hl)
      · exact h.once w l m f hl hm
    groups := fun w => by
      by_cases own : w = a.unit
      · obtain ⟨g, hg, -⟩ := taken.group
        exact iff_of_false (by rw [own, hg]; simp) fun none => none a.input (.inr ⟨own, rfl⟩)
      · simp only [taken.groups w own, h.groups w, own, false_and, or_false]
    standing := fun w g hg => by
      by_cases own : w = a.unit
      · obtain ⟨g', hg', standing⟩ := taken.group
        rw [own, hg'] at hg
        exact Option.some.inj hg ▸ standing
      · exact h.standing w g (taken.groups w own ▸ hg)
    tripped := fun w => by
      by_cases own : w = a.unit
      · exact iff_of_true (own ▸ taken.tripped.1) ⟨a.input, .inr ⟨own, rfl⟩⟩
      · simp only [taken.units w own, h.tripped w, own, false_and, or_false]
    mode := fun w => by
      by_cases own : w = a.unit
      · rw [own, taken.tripped.2, UnitRecord.derivedMode, if_pos taken.tripped.1]
      · rw [taken.units w own, h.mode w]
    accounts := fun w k => by
      rw [account]
      split
      · rw [h.accounts w k]
      · exact h.accounts w k
    counted := fun w some => by
      rw [account]
      split
      · rfl
      · rename_i other
        obtain ⟨k, old | ⟨rfl, -⟩⟩ := some
        · exact h.counted w ⟨k, old⟩
        · exact h.counted _ (by simpa using other)
    uncounted := fun w k some => by
      rw [account, if_neg]
      · exact h.uncounted w k (some.imp_right fun none i old => none i (.inl old))
      · rintro ⟨⟨rfl, rfl⟩, -⟩
        exact some.elim (fun other => other rfl) fun none => none a.input (.inr ⟨rfl, rfl⟩) }

/-- An input that a start reads: its trip is taken where its contact is found closed, and nothing else is (R51). -/
theorem handOn (h : HandedOn v x P t) (blank : Blank v) (now : x.elapsed = v.elapsed) {y : UnitId × InputId}
    (new : ¬ P y.1 y.2) : HandedOn v x (fun w k => P w k ∨ ((w, k) = y ∧ (v.input y.1 y.2).closed = true))
      (handOnRestart x t y) := by
  have asserted := rebuilt_asserted h.tiu y.1 y.2
  simp only [handOnRestart, h.not_held new]
  by_cases closed : (v.input y.1 y.2).closed = true
  · have found := asserted.mpr ⟨blank.enabled _ _, closed⟩
    rw [if_pos found, if_neg (by decide)]
    have test : t.tiu.testMode.get y.1 = false := by rw [h.tiu]; exact blank.test y.1
    have stops : (t.input y.1 y.2).inForce.stops = true := by rw [input_rebuilt h.tiu]; exact blank.stops _ _
    obtain ⟨j, free, taken⟩ := h.taken blank now (a := (t.input y.1 y.2).assertion y.1 y.2 x (t.tiu.testMode.get y.1))
      new rfl rfl rfl stops test
    have added := h.add new rfl rfl rfl free rfl taken
    have same : (fun w k => P w k ∨ ((w, k) = y ∧ (v.input y.1 y.2).closed = true))
        = fun w k => P w k ∨ (w = y.1 ∧ k = y.2) := by
      funext w k; simp [closed, Prod.ext_iff]
    rw [same]
    exact added
  · have idle : ¬ (t.input y.1 y.2).filter = .asserted := fun found => closed (asserted.mp found).2
    rw [if_neg idle, if_neg (by decide)]
    have same : (fun w k => P w k ∨ ((w, k) = y ∧ (v.input y.1 y.2).closed = true)) = P := by
      funext w k; simp [closed]
    rw [same]
    exact h

/-- The reading of a list of inputs, none of them read before. -/
theorem handOnAll (h : HandedOn v x P t) (blank : Blank v) (now : x.elapsed = v.elapsed)
    {l : List (UnitId × InputId)} (distinct : l.Nodup) (new : ∀ y ∈ l, ¬ P y.1 y.2) :
    HandedOn v x (fun w k => P w k ∨ ((w, k) ∈ l ∧ (v.input w k).closed = true)) (l.foldl (handOnRestart x) t) := by
  induction l generalizing t P with
  | nil => simpa using h
  | cons y l ih =>
    obtain ⟨fresh, distinct⟩ := List.nodup_cons.mp distinct
    have one := h.handOn blank now (new y List.mem_cons_self)
    have rest := ih one distinct fun z hz => by
      rintro (old | ⟨same, -⟩)
      · exact new z (List.mem_cons_of_mem _ hz) old
      · exact fresh (same ▸ hz)
    have same : (fun w k => (P w k ∨ ((w, k) = y ∧ (v.input y.1 y.2).closed = true))
          ∨ ((w, k) ∈ l ∧ (v.input w k).closed = true))
        = fun w k => P w k ∨ ((w, k) ∈ y :: l ∧ (v.input w k).closed = true) := by
      funext w k
      by_cases own : (w, k) = y
      · subst own; simp [fresh]
      · simp [own]
    rw [same] at rest
    exact rest

end HandedOn

/-- A start of a blank part takes the trip of each contact found closed (R52). -/
theorem Blank.restarted {v : State} (blank : Blank v) (now : v.now.elapsed = v.elapsed) :
    HandedOn v v.now (fun u i => (v.input u i).closed = true) (restartInputs v) := by
  have all := (blank.handedOn v.now).handOnAll blank now (l := inputOrder) (by decide) fun _ _ => id
  rw [restartInputs]
  simpa only [false_or, mem_inputOrder, true_and] using all

end Sys2Proof.Proofs
end

section
/-! PROOFS. The entry to BACKUP, the loss of the retention, and the cold start (R6, R52, R79, R112, R196, R198). -/

namespace Sys2Proof.Proofs

open Sys2Proof.Machine Sys2Proof.Safety

/-! ### The blocks at a cold start -/

/-- HOLDUP entered while the store loads: the commit waits (R139, R194). -/
theorem enterHoldup_loading {s : State} (loading : isLoadActivity s.asc.activity = true)
    (busy : s.asc.inFlight.isSome = true) :
    enterHoldup s = raise .holdup { s with
      spm := { s.spm with supply := .holdup, lowRun := 0, restoreBy := none }
      asc := { s.asc with recommit := true } } := by
  have trigger (t : State) (h : t.asc = s.asc) : takeTrigger t = { t with asc := { t.asc with recommit := true } } := by
    unfold takeTrigger
    split
    · rename_i idle; rw [h] at idle; rw [idle] at loading; cases loading
    · rfl
  unfold enterHoldup commitTrigger
  rw [trigger _ (by rfl)]
  exact serveStore_busy busy

theorem coldBlocks_input (a : BitVec 5) (f : Bool) (s : State) (u : UnitId) (i : InputId) :
    (coldBlocks a f s).input u i = { coldInput with closed := (s.input u i).closed } := by
  rw [State.input, coldBlocks, coldInputs, PerUnit.get_map, PerInput.get_map]; rfl

theorem coldBlocks_unit (a : BitVec 5) (f : Bool) (s : State) (u : UnitId) :
    (coldBlocks a f s).unit u = UnitRecord.evaluated { coldUnit with
      breaker := coldContact (s.unit u).breaker, pumpMode := coldContact (s.unit u).pumpMode } := by
  rw [State.unit, coldBlocks, coldUnits, PerUnit.get_map]; rfl

theorem reset_account (u : UnitId) (k : Kind) : State.reset.account u k = coldAccount := by
  rw [State.account, State.reset, PerUnit.get_fill, PerKind.get_fill]

theorem reset_slot (u : UnitId) (j : SlotId) : State.reset.slot u j = none := by
  rw [State.slot, State.caseSet, State.reset, PerUnit.get_fill, emptySet, PerSlot.get_fill]

theorem coldBlocks_blank (a : BitVec 5) (f : Bool) (s : State) : Blank (coldBlocks a f s) where
  enabled u i := by rw [coldBlocks_input]; rfl
  stops u i := by rw [coldBlocks_input]; rfl
  test u := PerUnit.get_fill _ u
  busy := rfl
  slots := reset_slot
  groups u := PerUnit.get_fill _ u
  speed u := by rw [coldBlocks_unit]; rfl
  latched u := by rw [coldBlocks_unit]; rfl
  mode u := by rw [coldBlocks_unit]; rfl
  loading u k := congrArg (·.status) (reset_account u k)

/-- The state in which a cold start reads its inputs. -/
def coldRead (a : BitVec 5) (f : Bool) (s : State) : State := holdupIfAsserted (coldBlocks a f s)

theorem coldRead_blocks (a : BitVec 5) (f : Bool) (s : State) :
    let v := coldRead a f s
    let b := coldBlocks a f s
    v.tb = b.tb ∧ v.tiu = b.tiu ∧ v.ct = b.ct ∧ v.tgr = b.tgr ∧ v.usm = b.usm ∧ v.rha = b.rha
      ∧ v.asc.inFlight = b.asc.inFlight ∧ v.lnu.flags.get .coldStart = true
      ∧ v.lnu.flags.get .holdup = s.spm.pfiLevel := by
  unfold coldRead holdupIfAsserted
  split
  · rename_i asserted
    rw [enterHoldup_loading rfl rfl]
    exact ⟨rfl, rfl, rfl, rfl, rfl, rfl, rfl, rfl, asserted.symm⟩
  · rename_i released
    exact ⟨rfl, rfl, rfl, rfl, rfl, rfl, rfl, rfl, (Bool.eq_false_iff.mpr released).symm⟩

theorem Blank.congr {b v : State} (h : Blank b) (tiu : v.tiu = b.tiu) (ct : v.ct = b.ct) (tgr : v.tgr = b.tgr)
    (usm : v.usm = b.usm) (rha : v.rha = b.rha) (busy : v.asc.inFlight = b.asc.inFlight) : Blank v where
  enabled u i := by rw [State.input_congr tiu]; exact h.enabled u i
  stops u i := by rw [State.input_congr tiu]; exact h.stops u i
  test u := by rw [tiu]; exact h.test u
  busy := by rw [busy]; exact h.busy
  slots u j := by rw [State.slot_congr ct]; exact h.slots u j
  groups u := by rw [tgr]; exact h.groups u
  speed u := by rw [State.unit_congr usm]; exact h.speed u
  latched u := by rw [State.unit_congr usm]; exact h.latched u
  mode u := by rw [State.unit_congr usm]; exact h.mode u
  loading u k := by rw [State.account_congr rha]; exact h.loading u k

theorem coldRead_blank (a : BitVec 5) (f : Bool) (s : State) : Blank (coldRead a f s) := by
  obtain ⟨-, tiu, ct, tgr, usm, rha, busy, -⟩ := coldRead_blocks a f s
  exact (coldBlocks_blank a f s).congr tiu ct tgr usm rha busy

theorem coldRead_closed (a : BitVec 5) (f : Bool) (s : State) (u : UnitId) (i : InputId) :
    ((coldRead a f s).input u i).closed = (s.input u i).closed := by
  rw [State.input_congr (coldRead_blocks a f s).2.1, coldBlocks_input]

/-- A cold start reads its inputs and drives its outputs (R198). -/
theorem coldStart_eq (a : BitVec 5) (f : Bool) (s : State) :
    coldStart a f s = driveOutputs (restartInputs (coldRead a f s)) := rfl

/-! ### A cold start that finds every contact open -/

theorem coldRead_open {a : BitVec 5} {f : Bool} {s : State} (pfi : s.spm.pfiLevel = false)
    (contacts : ∀ u i, (s.input u i).closed = false)
    (units : ∀ u, (s.unit u).breaker.level = false ∧ (s.unit u).pumpMode.level = false) :
    coldRead a f s = { State.reset with
      lnu := { State.reset.lnu with address := a.toNat, fast := f }, pending := s.pending } := by
  have tiu : coldInputs s.tiu = State.reset.tiu := by
    have inputs : (coldInputs s.tiu).inputs = State.reset.tiu.inputs :=
      PerUnit.ext_get _ _ fun u => PerInput.ext_get _ _ fun i => by
        have := coldBlocks_input a f s u i
        rw [contacts u i] at this
        exact this.trans (by rw [State.reset, PerUnit.get_fill, PerInput.get_fill]; rfl)
    exact congrArg (fun p => ({ State.reset.tiu with inputs := p } : Tiu)) inputs
  have usm : coldUnits s.usm = State.reset.usm := by
    have records : (coldUnits s.usm).units = State.reset.usm.units :=
      PerUnit.ext_get _ _ fun u => by
        have := coldBlocks_unit a f s u
        rw [coldContact, coldContact, (units u).1, (units u).2] at this
        exact this.trans (by rw [State.reset, PerUnit.get_fill]; rfl)
    exact congrArg (fun p => ({ State.reset.usm with units := p } : Usm)) records
  have spm : (coldBlocks a f s).spm.pfiLevel = false := pfi
  rw [coldRead, holdupIfAsserted, if_neg (by rw [spm]; decide), coldBlocks, tiu, usm, pfi]
  rfl

/-- Where no contact is found closed and no case is held, the reading of the inputs hands nothing on (R52). -/
theorem Blank.inputsAgree {v : State} (blank : Blank v) (contacts : ∀ u i, (v.input u i).closed = false) :
    InputsAgree v := by
  intro u i
  have none : v.inputCase u i = none := inputCase_none fun j f hf => by rw [faceAt, blank.slots] at hf; cases hf
  simp [FoundClosed, contacts u i, none]

theorem rebuild_reset : rebuildInputs State.reset.tiu = State.reset.tiu := by decide

theorem coldStart_open {a : BitVec 5} {f : Bool} {s : State} (pfi : s.spm.pfiLevel = false)
    (contacts : ∀ u i, (s.input u i).closed = false)
    (units : ∀ u, (s.unit u).breaker.level = false ∧ (s.unit u).pumpMode.level = false) :
    coldStart a f s = { State.reset with
      lnu := { State.reset.lnu with address := a.toNat, fast := f }, pending := s.pending } := by
  have agree := (coldRead_blank a f s).inputsAgree fun u i => (coldRead_closed a f s u i).trans (contacts u i)
  have read := coldRead_open (a := a) (f := f) pfi contacts units
  rw [coldStart_eq, restartInputs_of_agree agree, read]
  have drives (t : Tiu) (h : t = State.reset.tiu) : driveOutputs { State.reset with
        lnu := { State.reset.lnu with address := a.toNat, fast := f }, pending := s.pending, tiu := t }
      = { State.reset with lnu := { State.reset.lnu with address := a.toNat, fast := f }, pending := s.pending } := by
    subst h; rfl
  exact drives _ rebuild_reset

/-! ### A cold start as the contacts are found -/

/-- The case lamp is lit where some slot holds a case that lights it (R74). -/
theorem lampCondition_iff (s : State) : lampCondition s.ct = true ↔ ∃ u j, lightsLamp (s.slot u j) = true := by
  have set (x : CaseSet) : x.slots.toList.any lightsLamp = true ↔ ∃ j, lightsLamp (x.slots.get j) = true := by
    simp only [PerSlot.toList, List.any_cons, List.any_nil, Bool.or_false, Bool.or_eq_true]
    constructor
    · rintro (h | h | h | h)
      exacts [⟨.s0, h⟩, ⟨.s1, h⟩, ⟨.s2, h⟩, ⟨.s3, h⟩]
    · rintro ⟨j, h⟩
      cases j
      exacts [.inl h, .inr (.inl h), .inr (.inr (.inl h)), .inr (.inr (.inr h))]
  rw [lampCondition, List.any_eq_true]
  constructor
  · rintro ⟨x, mem, lit⟩
    obtain ⟨u, rfl⟩ := (PerUnit.mem_toList _ _).mp mem
    exact ⟨u, (set _).mp lit⟩
  · rintro ⟨u, lit⟩
    exact ⟨_, (PerUnit.mem_toList _ _).mpr ⟨u, rfl⟩, (set _).mpr lit⟩

/-- A case whose face is that of a trip taken. -/
theorem slot_of_face {s : State} {u : UnitId} {j : SlotId} {f : CaseFace} (h : faceAt s u j = some f) :
    ∃ c, s.slot u j = some c ∧ caseFace c = f := Option.map_eq_some_iff.mp h

namespace HandedOn

variable {v t : State} {x : Stamp} {P : UnitId → InputId → Prop}

theorem cases_shown (h : HandedOn v x P t) {u : UnitId} {i : InputId} (closed : P u i) :
    ∃ j c, t.slot u j = some c ∧ c.unit = u ∧ c.input = i ∧ c.state = .active ∧ c.test = false
      ∧ c.assertStamp = x := by
  obtain ⟨j, shown⟩ := h.shown u i closed
  obtain ⟨c, slot, face⟩ := slot_of_face shown
  simp only [caseFace, Prod.mk.injEq] at face
  exact ⟨j, c, slot, face⟩

theorem cases_held (h : HandedOn v x P t) {u : UnitId} {j : SlotId} {c : Case} (slot : t.slot u j = some c) :
    P u c.input ∧ c.state = .active ∧ c.test = false := by
  obtain ⟨i, closed, face⟩ := h.held u j (caseFace c) (by rw [faceAt, slot]; rfl)
  simp only [caseFace, Prod.mk.injEq] at face
  obtain ⟨-, rfl, state, test, -⟩ := face
  exact ⟨closed, state, test⟩

theorem lamp (h : HandedOn v x P t) : lampCondition t.ct = true ↔ ∃ u i, P u i := by
  rw [lampCondition_iff]
  constructor
  · rintro ⟨u, j, lit⟩
    cases slot : t.slot u j with
    | none => rw [slot] at lit; cases lit
    | some c => exact ⟨u, c.input, (h.cases_held slot).1⟩
  · rintro ⟨u, i, closed⟩
    obtain ⟨j, c, slot, -, -, state, test, -⟩ := h.cases_shown closed
    exact ⟨u, j, by simp [slot, lightsLamp, state, test]⟩

theorem units_found (h : HandedOn v x P t) (u : UnitId) (speed : (v.unit u).speed = .unknown) :
    (t.unit u).speed = .unknown ∧ (t.unit u).breaker = (v.unit u).breaker
      ∧ (t.unit u).pumpMode = (v.unit u).pumpMode
      ∧ (t.unit u).mode = modeOf (t.unit u).tripped (v.unit u).breaker.stable (v.unit u).pumpMode.stable .unknown := by
  have steady := steadyRecord_get h.units u
  have breaker : (t.unit u).breaker = (v.unit u).breaker := congrArg (·.breaker) steady
  have pumpMode : (t.unit u).pumpMode = (v.unit u).pumpMode := congrArg (·.pumpMode) steady
  refine ⟨(h.speed u).trans speed, breaker, pumpMode, ?_⟩
  rw [h.mode, derivedMode_eq, breaker, pumpMode, h.speed, speed]

end HandedOn

/-- The inputs of a cold start, read one after the other (R52). -/
theorem coldRead_handedOn (a : BitVec 5) (f : Bool) (s : State) :
    HandedOn (coldRead a f s) State.reset.now (fun u i => (s.input u i).closed = true)
      (restartInputs (coldRead a f s)) := by
  have tb : (coldRead a f s).tb = State.reset.tb := (coldRead_blocks a f s).1
  have now : (coldRead a f s).now = State.reset.now := State.now_congr tb
  have elapsed : (coldRead a f s).elapsed = State.reset.elapsed := State.elapsed_congr tb
  have read := (coldRead_blank a f s).restarted (by rw [now, elapsed]; rfl)
  simpa only [now, coldRead_closed] using read

theorem driveOutputs_lnu (s : State) :
    (driveOutputs s).lnu.flags = s.lnu.flags ∧ (driveOutputs s).lnu.caseLamp = lampCondition s.ct := ⟨rfl, rfl⟩

theorem coldStart_spm (a : BitVec 5) (f : Bool) (s : State) :
    (coldStart a f s).spm = { State.reset.spm with
      pfiLevel := s.spm.pfiLevel, pfiStable := s.spm.pfiLevel
      supply := if s.spm.pfiLevel then .holdup else .run } := by
  have spm : (coldBlocks a f s).spm
      = { State.reset.spm with pfiLevel := s.spm.pfiLevel, pfiStable := s.spm.pfiLevel } := rfl
  rw [coldStart_eq, (driveOutputs_frame _).2.2.2.2.2.2.2.2.2.1, (restartInputs_frame _).2.2.1, coldRead,
    holdupIfAsserted_spm, spm]
  cases h : s.spm.pfiLevel <;> rfl

/-! ### The statement -/

/-- The cold start as each block shows it (R52, R79, R112, R131, R198). -/
theorem coldStart_found (a : BitVec 5) (f : Bool) (s : State) :
    let t := coldStart a f s
    (∀ u i, t.input u i = { State.reset.input u i with
            closed := (s.input u i).closed
            filter := if (s.input u i).closed then .asserted else .idle })
        ∧ (∀ u i, (s.input u i).closed = true →
            ∃ j c, t.slot u j = some c ∧ c.unit = u ∧ c.input = i ∧ c.state = .active ∧ c.test = false
              ∧ c.assertStamp = State.reset.now)
        ∧ (∀ u j c, t.slot u j = some c → (s.input u c.input).closed = true)
        ∧ (t.lnu.caseLamp = true ↔ ∃ u i, (s.input u i).closed = true)
        ∧ (∀ u, (t.unit u).speed = .unknown ∧ (t.unit u).breaker.stable = (s.unit u).breaker.level
            ∧ (t.unit u).pumpMode.stable = (s.unit u).pumpMode.level
            ∧ ((t.unit u).tripped = true ↔ ∃ i, (s.input u i).closed = true)
            ∧ (t.unit u).mode = modeOf (t.unit u).tripped (s.unit u).breaker.level (s.unit u).pumpMode.level .unknown)
        ∧ (∀ u k, t.account u k = { State.reset.account u k with status := (t.account u k).status }
            ∧ (k = .trips → (∃ i, (s.input u i).closed = true) → (t.account u k).status = .loading 1)
            ∧ (k ≠ .trips ∨ (∀ i, (s.input u i).closed = false) → (t.account u k).status = .loading 0)) := by
  intro t
  have found := coldRead_handedOn a f s
  obtain ⟨-, tiu, -, -, usm, rha, -⟩ := coldRead_blocks a f s
  have driven : t = driveOutputs (restartInputs (coldRead a f s)) := coldStart_eq a f s
  clear_value t
  have speed := (coldRead_blank a f s).speed
  generalize coldRead a f s = v at *
  generalize restartInputs v = r at *
  obtain ⟨-, -, tiu', ct, -, usm', rha', -⟩ := driveOutputs_frame r
  have lamp := (driveOutputs_lnu r).2
  rw [← driven] at tiu' ct usm' rha' lamp
  have contacts (u : UnitId) : (v.unit u).breaker.stable = (s.unit u).breaker.level
      ∧ (v.unit u).pumpMode.stable = (s.unit u).pumpMode.level := by
    rw [State.unit_congr usm, coldBlocks_unit]; exact ⟨rfl, rfl⟩
  refine ⟨fun u i => ?_, fun u i closed => ?_, fun u j c slot => ?_, ?_, fun u => ?_, fun u k => ⟨?_, ?_, ?_⟩⟩
  · have input : v.input u i = { coldInput with closed := (s.input u i).closed } := by
      rw [State.input_congr tiu, coldBlocks_input]
    have reset : State.reset.input u i = coldInput := by
      rw [State.input, State.reset, PerUnit.get_fill, PerInput.get_fill]
    rw [State.input_congr tiu', input_rebuilt found.tiu, input, reset]
    rfl
  · obtain ⟨j, c, shown⟩ := found.cases_shown closed
    exact ⟨j, c, by rw [State.slot_congr ct]; exact shown⟩
  · exact (found.cases_held (State.slot_congr ct u j ▸ slot)).1
  · rw [lamp]; exact found.lamp
  · obtain ⟨speed', breaker, pumpMode, mode⟩ := found.units_found u (speed u)
    rw [(contacts u).1, (contacts u).2] at mode
    rw [State.unit_congr usm']
    exact ⟨speed', by rw [breaker, (contacts u).1], by rw [pumpMode, (contacts u).2], found.tripped u, mode⟩
  · rw [State.account_congr rha']
    have account : v.account u k = State.reset.account u k := State.account_congr rha u k
    rw [← account]
    exact found.accounts u k
  · rintro rfl closed
    rw [State.account_congr rha']
    exact found.counted u closed
  · intro quiet
    rw [State.account_congr rha']
    exact found.uncounted u k (quiet.imp_right fun none i closed => by rw [none i] at closed; cases closed)

theorem coldStart_flags (a : BitVec 5) (f : Bool) (s : State) :
    (coldStart a f s).lnu.flags.get .coldStart = true
      ∧ (coldStart a f s).lnu.flags.get .holdup = s.spm.pfiLevel := by
  obtain ⟨-, -, -, -, -, -, -, cold, holdup⟩ := coldRead_blocks a f s
  have flags := (coldRead_handedOn a f s).flags
  rw [coldStart_eq, (driveOutputs_lnu _).1, flags .coldStart (by decide), flags .holdup (by decide)]
  exact ⟨cold, holdup⟩

/-- Settles O58: the entry to BACKUP and the loss of the retention by what their steps write; the cold start by the
reading of the inputs, which takes the trip of each contact found closed and hands on nothing where none is. -/
theorem backupAndColdStart : Obligations.BackupAndColdStart := by
  unfold Obligations.BackupAndColdStart
  refine ⟨fun s powered => ⟨_, by rw [exec, execBackupEntry, if_pos powered], ?_⟩,
    fun s backup => by rw [exec, execBackupRetentionLost, if_pos backup],
    fun s a f backup lost pfi contacts units => ?_,
    fun s a f backup lost => ⟨coldStart a f s, ?_, coldStart_spm a f s, ?_⟩⟩
  · exact ⟨rfl, rfl, rfl, rfl, rfl, rfl, rfl, rfl, rfl, rfl, rfl, rfl⟩
  · rw [exec, execMainSupplyReturn, if_pos backup, if_neg (by rw [lost]; decide), coldStart_open pfi contacts units]
  · rw [exec, execMainSupplyReturn, if_pos backup, if_neg (by rw [lost]; decide)]
  · obtain ⟨inputs, opened, held, lamp, units, accounts⟩ := coldStart_found a f s
    obtain ⟨cold, holdup⟩ := coldStart_flags a f s
    obtain ⟨tb, riu⟩ := coldStart_time a f s
    exact ⟨cold, holdup, inputs, opened, held, lamp, units, accounts, tb, riu, coldStart_frame a f s⟩

end Sys2Proof.Proofs
end

section
/-! PROOFS. SET_LOOP and SET_GROUP_WINDOW: settings brought to their ranges (R34, R95, R177). -/

namespace Sys2Proof.Proofs

open Sys2Proof.Machine Sys2Proof.Safety

/-- The status of a request with three clamped settings (R177). -/
theorem okOrClamped_three (a a' b b' c c' : Nat) :
    okOrClamped (a != a' || b != b' || c != c') = if a = a' ∧ b = b' ∧ c = c' then .ok else .clamped := by
  by_cases ha : a = a' <;> by_cases hb : b = b' <;> by_cases hc : c = c' <;> simp [okOrClamped, ha, hb, hc]

/-- SET_LOOP stores its settings brought to their ranges and echoes them (R34). -/
theorem askSetLoop_eq (k x h : Nat) (s : State) :
    askSetLoop k x h s =
      ({ s with tb := { s.tb with
          loopExp := clamp 3 8 k, stepThreshold := clamp 1000 1000000 x, holdRate := clamp 1 10000 h } },
       { status := if clamp 3 8 k = k ∧ clamp 1000 1000000 x = x ∧ clamp 1 10000 h = h then .ok else .clamped
         body := toBytes 1 (clamp 3 8 k) ++ toBytes 4 (clamp 1000 1000000 x) ++ toBytes 2 (clamp 1 10000 h) }) := by
  rw [askSetLoop, okOrClamped_three]

/-- SET_GROUP_WINDOW stores its exponent brought to its range, and echoes it with the window (R95). -/
theorem askSetGroupWindow_eq (n : Nat) (s : State) :
    askSetGroupWindow n s =
      ({ s with tgr := { s.tgr with windowExp := clamp 4 10 n } },
       { status := if clamp 4 10 n = n then .ok else .clamped
         body := toBytes 1 (clamp 4 10 n) ++ toBytes 2 (2 ^ clamp 4 10 n) }) := by
  rw [askSetGroupWindow, okOrClamped_ne]

/-- Settles O20: each block's answer, sent as the reply. -/
theorem clampedSettingsAreStoredAndEchoed : Obligations.ClampedSettingsAreStoredAndEchoed := by
  refine ⟨fun s k x h tk => congrArg Host.Outcome.next ?_, fun s n tk => congrArg Host.Outcome.next ?_⟩
  · exact (serve_taken tk _ _ _).trans (by rw [askSetLoop_eq]; rfl)
  · exact (serve_taken tk _ _ _).trans (by rw [askSetGroupWindow_eq]; rfl)

end Sys2Proof.Proofs
end

section
/-! PROOFS. The flags of the TIME category: no block but the Timebase raises one of them (R179, R189). -/

namespace Sys2Proof.Proofs

open Sys2Proof.Machine Sys2Proof.Safety

/-- The notices of the TIME category (R189). -/
abbrev timeNotices : List Notice := [.sourceChange, .step, .lockGained, .holdoverEntered, .qualityDrop]

/-- The flags of the TIME category (R189). -/
def timeFlags (p : PerNotice Bool) : List Bool := timeNotices.map p.get

/-- Where the flags of the TIME category agree, each of them does. -/
theorem get_of_timeFlags {p q : PerNotice Bool} (h : timeFlags p = timeFlags q) {n : Notice} (hn : n ∈ timeNotices) :
    p.get n = q.get n := List.map_inj_left.mp h n hn

theorem qualityDrop_of_timeFlags {p q : PerNotice Bool} (h : timeFlags p = timeFlags q) :
    p.qualityDrop = q.qualityDrop := get_of_timeFlags h (n := .qualityDrop) (by decide)

theorem step_of_timeFlags {p q : PerNotice Bool} (h : timeFlags p = timeFlags q) : p.step = q.step :=
  get_of_timeFlags h (n := .step) (by decide)

@[simp] theorem timeFlags_set {n : Notice} (h : n ∉ timeNotices) (p : PerNotice Bool) (b : Bool) :
    timeFlags (p.set n b) = timeFlags p := by
  refine List.map_congr_left fun m hm => ?_
  rw [PerNotice.get_set, if_neg]
  rintro rfl
  exact h hm

@[simp] theorem raise_timeFlags {n : Notice} (h : n ∉ timeNotices) (s : State) :
    timeFlags (raise n s).lnu.flags = timeFlags s.lnu.flags := timeFlags_set h _ _

@[simp] theorem raiseFor_timeFlags {n : Notice} (h : n ∉ timeNotices) (u : UnitId) (s : State) :
    timeFlags (raiseFor n u s).lnu.flags = timeFlags s.lnu.flags := timeFlags_set h _ _

/-- What each of a list's operations leaves of these flags, all of them leave. -/
theorem foldl_timeFlags {α : Type} {f : State → α → State}
    (h : ∀ s x, timeFlags (f s x).lnu.flags = timeFlags s.lnu.flags) (l : List α) (s : State) :
    timeFlags (l.foldl f s).lnu.flags = timeFlags s.lnu.flags := by
  induction l generalizing s with
  | nil => rfl
  | cons x l ih => rw [List.foldl_cons, ih, h]

/-! ### The queue of the store and the accounts (R121, R137) -/

@[simp] theorem requestQueue_timeFlags (u : UnitId) (k : Kind) (s : State) :
    timeFlags (requestQueue u k s).lnu.flags = timeFlags s.lnu.flags := by
  unfold requestQueue; (repeat' split) <;> simp

@[simp] theorem queueChange_timeFlags (u : UnitId) (k : Kind) (s : State) :
    timeFlags (queueChange u k s).lnu.flags = timeFlags s.lnu.flags := by
  unfold queueChange; split <;> simp

@[simp] theorem countChange_timeFlags (u : UnitId) (k : Kind) (s : State) :
    timeFlags (countChange u k s).lnu.flags = timeFlags s.lnu.flags := by
  unfold countChange; split <;> simp

@[simp] theorem increment_timeFlags (u : UnitId) (k : Kind) (s : State) :
    timeFlags (increment u k s).lnu.flags = timeFlags s.lnu.flags := by
  simp only [increment]; (repeat' split) <;> simp

@[simp] theorem deliver_timeFlags (u : UnitId) (k : Kind) (a : Account) (s : State) :
    timeFlags (deliver u k a s).lnu.flags = timeFlags s.lnu.flags := by
  simp only [deliver, applyPending]; (repeat' split) <;> simp

@[simp] theorem commitEnd_timeFlags (d : Bool) (s : State) :
    timeFlags (commitEnd d s).lnu.flags = timeFlags s.lnu.flags := by
  simp only [commitEnd]; (repeat' split) <;> simp

@[simp] theorem serveStore_timeFlags (s : State) :
    timeFlags (serveStore s).lnu.flags = timeFlags s.lnu.flags := by
  unfold serveStore
  generalize 3 = n
  induction n generalizing s with
  | zero => rfl
  | succ n ih => unfold chooseNext; (repeat' split) <;> simp [ih]

@[simp] theorem commitTrigger_timeFlags (s : State) :
    timeFlags (commitTrigger s).lnu.flags = timeFlags s.lnu.flags := by
  simp [commitTrigger]

@[simp] theorem countOne_timeFlags (u : UnitId) (k : Kind) (s : State) :
    timeFlags (countOne u k s).lnu.flags = timeFlags s.lnu.flags := by
  simp [countOne]

@[simp] theorem commandChange_timeFlags (u : UnitId) (k : Kind) (a : Account) (s : State) :
    timeFlags (commandChange u k a s).lnu.flags = timeFlags s.lnu.flags := by
  simp [commandChange]

@[simp] theorem tallySecond_timeFlags (s : State) :
    timeFlags (tallySecond s).lnu.flags = timeFlags s.lnu.flags := by
  simp only [tallySecond]
  exact foldl_timeFlags (fun t u => foldl_timeFlags (by simp) _ t) _ s

/-! ### The transactions and the load (R135 to R146) -/

@[simp] theorem raiseFault_timeFlags (s : State) :
    timeFlags (raiseFault s).lnu.flags = timeFlags s.lnu.flags := by
  simp [raiseFault]

@[simp] theorem endLoad_timeFlags (s : State) :
    timeFlags (endLoad s).lnu.flags = timeFlags s.lnu.flags := by
  simp [endLoad]

@[simp] theorem loadNextRead_timeFlags (l : Load) (s : State) :
    timeFlags (loadNextRead l s).lnu.flags = timeFlags s.lnu.flags := by
  unfold loadNextRead; split <;> simp

@[simp] theorem loadNextInit_timeFlags (l : Load) (s : State) :
    timeFlags (loadNextInit l s).lnu.flags = timeFlags s.lnu.flags := by
  unfold loadNextInit; (repeat' split) <;> simp

@[simp] theorem beginReload_timeFlags (s : State) :
    timeFlags (beginReload s).lnu.flags = timeFlags s.lnu.flags := by
  simp [beginReload]

@[simp] theorem afterRecord_timeFlags (s : State) :
    timeFlags (afterRecord s).lnu.flags = timeFlags s.lnu.flags := by
  unfold afterRecord; (repeat' split) <;> simp

@[simp] theorem itemEnd_timeFlags (i : StoreItem) (w : Bool) (s : State) :
    timeFlags (itemEnd i w s).lnu.flags = timeFlags s.lnu.flags := by
  simp only [itemEnd, writeEnd]; (repeat' split) <;> simp

@[simp] theorem transactionWritten_timeFlags (t : Transaction) (s : State) :
    timeFlags (transactionWritten t s).lnu.flags = timeFlags s.lnu.flags := by
  simp only [transactionWritten, commitRecordWritten, initWritten]; (repeat' split) <;> simp

@[simp] theorem transactionFailed_timeFlags (t : Transaction) (r : FailReason) (s : State) :
    timeFlags (transactionFailed t r s).lnu.flags = timeFlags s.lnu.flags := by
  simp only [transactionFailed, initFailure, readMissed]; (repeat' split) <;> simp

@[simp] theorem readDelivered_timeFlags (l : Load) (i : StoreItem) (b : List Byte) (s : State) :
    timeFlags (readDelivered l i b s).lnu.flags = timeFlags s.lnu.flags := by
  simp only [readDelivered]; (repeat' split) <;> simp

/-! ### The shift (R154 to R156, R163 to R165) -/

@[simp] theorem crossPoint_timeFlags (x : Point × Nat) (s : State) :
    timeFlags (crossPoint s x).lnu.flags = timeFlags s.lnu.flags := by
  simp only [crossPoint, crossOpening, crossDue, crossOverdue, openWindow]; (repeat' split) <;> simp

@[simp] theorem takeTimeOfDay_timeFlags (s : State) :
    timeFlags (takeTimeOfDay s).lnu.flags = timeFlags s.lnu.flags := by
  simp only [takeTimeOfDay, crossPoints, seeTime_frame]
  (repeat' split) <;> simp [foldl_timeFlags]

@[simp] theorem restartPresence_timeFlags (s : State) :
    timeFlags (restartPresence s).lnu.flags = timeFlags s.lnu.flags := by
  simp [restartPresence]

@[simp] theorem showPresence_timeFlags (b : Nat) (s : State) :
    timeFlags (showPresence b s).lnu.flags = timeFlags s.lnu.flags := by
  unfold showPresence; split <;> simp

@[simp] theorem incrementShift_timeFlags (b : Bool) (d t : Nat) (k : Option Nat) (s : State) :
    timeFlags (incrementShift b d t k s).lnu.flags = timeFlags s.lnu.flags := by
  simp [incrementShift]

@[simp] theorem presenceLapse_timeFlags (s : State) :
    timeFlags (presenceLapse s).lnu.flags = timeFlags s.lnu.flags := by
  simp [presenceLapse]

/-! ### The cases and the groups (R58 to R65, R84 to R92) -/

@[simp] theorem closeGroup_timeFlags (u : UnitId) (r : CloseReason) (s : State) :
    timeFlags (closeGroup u r s).lnu.flags = timeFlags s.lnu.flags := by
  unfold closeGroup; split <;> simp

@[simp] theorem placeCase_timeFlags (a : Assertion) (n h : Nat) (s : State) :
    timeFlags (placeCase a n h s).lnu.flags = timeFlags s.lnu.flags := by
  simp only [placeCase, placeByOpening, closeIfDue]; (repeat' split) <;> simp

@[simp] theorem takeAssertion_timeFlags (a : Assertion) (s : State) :
    timeFlags (takeAssertion a s).lnu.flags = timeFlags s.lnu.flags := by
  simp only [takeAssertion, assertionResult, openCase, retripCase, overflowAssertion]
  (repeat' split) <;> simp

@[simp] theorem takeRelease_timeFlags (u : UnitId) (i : InputId) (t : Option Stamp) (s : State) :
    timeFlags (takeRelease u i t s).lnu.flags = timeFlags s.lnu.flags := by
  unfold takeRelease; (repeat' split) <;> simp

@[simp] theorem changeCase_timeFlags (u : UnitId) (i : SlotId) (c : Case) (s : State) :
    timeFlags (changeCase u i c s).lnu.flags = timeFlags s.lnu.flags := by
  simp [changeCase]

@[simp] theorem restartInputs_timeFlags (s : State) :
    timeFlags (restartInputs s).lnu.flags = timeFlags s.lnu.flags := by
  have one (t : Stamp) (s : State) (x : UnitId × InputId) :
      timeFlags (handOnRestart t s x).lnu.flags = timeFlags s.lnu.flags := by
    simp only [handOnRestart]; (repeat' split) <;> simp
  simp only [restartInputs, foldl_timeFlags (one _)]

/-! ### The units and the supply (R98 to R102, R194, R195) -/

@[simp] theorem enterHoldup_timeFlags (s : State) :
    timeFlags (enterHoldup s).lnu.flags = timeFlags s.lnu.flags := by
  simp [enterHoldup]

@[simp] theorem takeReading_timeFlags (v : Nat) (s : State) :
    timeFlags (takeReading v s).lnu.flags = timeFlags s.lnu.flags := by
  unfold takeReading startRestore stopRestore; (repeat' split) <;> simp

@[simp] theorem takePfi_timeFlags (s : State) :
    timeFlags (takePfi s).lnu.flags = timeFlags s.lnu.flags := by
  unfold takePfi startRestore stopRestore; (repeat' split) <;> simp

@[simp] theorem settleSpeed_timeFlags (u : UnitId) (h : SpeedState) (r : UnitRecord) (s : State) :
    timeFlags (settleSpeed u h r s).lnu.flags = timeFlags s.lnu.flags := by
  simp only [settleSpeed]; split <;> simp

@[simp] theorem speedSample_timeFlags (u : UnitId) (raw : Nat) (s : State) :
    timeFlags (speedSample u raw s).lnu.flags = timeFlags s.lnu.flags := by
  simp only [speedSample, recoverSpeed, evalSpeed]; (repeat' split) <;> simp

@[simp] theorem takeSample_timeFlags (c : Channel) (raw : Nat) (s : State) :
    timeFlags (takeSample c raw s).lnu.flags = timeFlags s.lnu.flags := by
  cases c <;> simp [takeSample, supplySample]

/-! ### The resets and the starts (R93, R146, R170, R197, R198) -/

@[simp] theorem orderNormal_timeFlags (s : State) :
    timeFlags (orderNormal s).lnu.flags = timeFlags s.lnu.flags := by
  unfold orderNormal; (repeat' split) <;> simp

@[simp] theorem resetA_timeFlags (s : State) :
    timeFlags (resetA s).lnu.flags = timeFlags s.lnu.flags := by
  simp only [resetA]; split <;> simp

@[simp] theorem resetC_timeFlags (s : State) :
    timeFlags (resetC s).lnu.flags = timeFlags s.lnu.flags := by
  simp [resetC]

@[simp] theorem resetS_timeFlags (s : State) :
    timeFlags (resetS s).lnu.flags = timeFlags s.lnu.flags := by
  simp [resetS]

@[simp] theorem holdupIfAsserted_timeFlags (s : State) :
    timeFlags (holdupIfAsserted s).lnu.flags = timeFlags s.lnu.flags := by
  unfold holdupIfAsserted; split <;> simp

@[simp] theorem warmGroups_timeFlags (s : State) :
    timeFlags (warmGroups s).lnu.flags = timeFlags s.lnu.flags := by
  simp only [warmGroups]; split <;> simp [foldl_timeFlags]

@[simp] theorem warmAccounts_timeFlags (s : State) :
    timeFlags (warmAccounts s).lnu.flags = timeFlags s.lnu.flags := by
  unfold warmAccounts
  refine foldl_timeFlags (fun s x => ?_) _ s
  simp only [warmAccount]; (repeat' split) <;> simp

@[simp] theorem warmStore_timeFlags (s : State) :
    timeFlags (warmStore s).lnu.flags = timeFlags s.lnu.flags := by
  simp only [warmStore, resumeLoad, commitTrigger_timeFlags]; (repeat' split) <;> simp

@[simp] theorem warmShift_timeFlags (s : State) :
    timeFlags (warmShift s).lnu.flags = timeFlags s.lnu.flags := by
  simp only [warmShift]; split <;> simp

/-! ### The requests and the events -/

/-- Of the requests, SET_TIME, SET_REFERENCE and the group T reset can raise a notice of the TIME category, and
READ_NOTICES clears them all (R11, R12, R33, R179). -/
theorem blockAct_timeFlags {act : State → State × Answer} (h : BlockAct act) (s : State) :
    timeFlags (act s).1.lnu.flags = timeFlags s.lnu.flags
      ∨ (∃ x f n, act = askSetTime x f n)
      ∨ (∃ x e p d, act = askSetReference x e p d)
      ∨ act = askResetT ∨ act = askReadNotices := by
  cases h
  case setTime x f n _ _ _ => exact .inr (.inl ⟨x, f, n, rfl⟩)
  case setReference x e p d _ _ _ _ => exact .inr (.inr (.inl ⟨x, e, p, d, rfl⟩))
  case resetGroupT => exact .inr (.inr (.inr (.inl rfl)))
  case readNotices => exact .inr (.inr (.inr (.inr rfl)))
  case ackCase | clearCase | retireCase | presetAccount | retireAccount | reinstateAccount | commit | setStore | signOn
      | presence | offer | accept | withdraw =>
    left
    simp only [askAckCase, askClearCase, askRetireCase, askPresetAccount, askRetireAccount, askReinstateAccount,
      askCommit, askSetStore, askSignOn, askPresence, askOffer, askAccept, askWithdraw]
    (repeat' split) <;> simp
  case setNoticeMask => left; simp only [askSetNoticeMask, Lnu.evalAttention]; split <;> simp
  case resetGroupC => left; simp [askResetC]
  case resetGroupA => left; simp only [askResetA]; split <;> simp
  case resetGroupS => left; simp [askResetS]
  all_goals left; simp

/-- Of the events, a boundary, a pulse, a loss and a start can raise a notice of the TIME category, or clear it
(R11, R33, R179). -/
def isTimeNoticeEvent : Instr → Bool
  | .localSecondBoundary | .refPulse _ | .sourceLoss _ | .mainSupplyReturn _ _ | .resetPin _ _ => true
  | _ => false

/-- Every other event leaves the flags of the TIME category as they are. -/
theorem event_timeFlags {i : Instr} {s t : State} (ev : requestBytes i = none) (nf : i ≠ .frameEnd)
    (nt : isTimeNoticeEvent i = false) (e : exec i s = .next t) :
    timeFlags t.lnu.flags = timeFlags s.lnu.flags := by
  cases i <;> first
    | (simp [requestBytes] at ev; done)
    | (simp [isTimeNoticeEvent] at nt; done)
    | (exact absurd rfl nf)
    | skip
  case tripContactEdge => simp [execTripContactEdge_frame e]
  case unitContactEdge => simp [execUnitContactEdge_frame e]
  case unitContactConfirmation => simp [execUnitContactConfirmation_frame e]
  case busGrant => simp [execBusGrant_frame e]
  case transferComplete => simp [execTransferComplete_frame e]
  case storeWriteCycleDone => simp [execStoreWriteCycleDone_frame e]
  case pfiEdge => simp [execPfiEdge_frame e]
  case restoreExpiry => simp [execRestoreExpiry_frame e]
  case watchOscillatorCycle => simp [execWatchOscillatorCycle_frame e]
  case backupRetentionLost => simp [execBackupRetentionLost_frame e]
  case backupEntry => obtain rfl := next_inj e; split <;> rfl
  case holdBackEnd => obtain rfl := next_inj e; split <;> simp [holdBackEndPeriod]
  all_goals obtain rfl := next_inj e; clear ev nf nt e; (repeat' split) <;> simp

end Sys2Proof.Proofs
end

section
/-! PROOFS. A pulse of the selected source: what the loop writes of the Timebase for an outlier, a step and an update
(R20 to R28). -/

namespace Sys2Proof.Proofs

open Sys2Proof.Machine Sys2Proof.Safety

/-! ### The parts of the loop -/

/-- A step moves the station time alone (R25). -/
theorem stepped_only (t : Timebase) (e : Int) :
    t.stepped e = { t with seconds := (t.stepped e).seconds, frac := (t.stepped e).frac } := by
  apply Timebase.ext <;> simp

/-- The Timebase that a step writes, before the class is derived (R25). -/
def steppedTime (e : Int) (t : Timebase) : Timebase :=
  { t with
    seconds := (t.stepped e).seconds, frac := (t.stepped e).frac, holdBack := none, state := .acquire
    uncertainty := 1000, trim := t.freq, trimRem := 0, outlierRun := 0, firstOutlier := none, lockRun := 0 }

/-- A step raises STEP and takes a new time (R25). -/
theorem stepPhase_eq (e : Int) (s : State) :
    stepPhase e s = newTime (raise .step s) (steppedTime e s.tb) := by
  simp only [stepPhase]
  rw [stepped_only]
  rfl

/-- An outlier joins the chain (R21). -/
theorem chains_iff (t : Timebase) (e : Int) :
    t.chains e = true ↔ ∃ f, t.firstOutlier = some f ∧ 0 < t.outlierRun ∧ (e - f).natAbs ≤ 100 := by
  unfold Timebase.chains
  split <;> simp_all

/-- In LOCKED a pulse sets the uncertainty, and the class with it (R28, R33). -/
theorem lockedUncertainty_writes (e : Int) (s : State) :
    (lockedUncertainty e s).tb = { s.tb with
      uncertainty := if s.tb.state = .locked then e.natAbs + 2 else s.tb.uncertainty
      reported := (lockedUncertainty e s).tb.reported } := by
  unfold lockedUncertainty; split
  · rw [evalQuality_tb]
  · rfl

/-- A pulse in ACQUIRE leads to LOCKED: its error is small and seven before it were (R27). -/
abbrev LeadsToLock (e : Int) (t : Timebase) : Prop := t.state = .acquire ∧ e.natAbs ≤ 100 ∧ 7 ≤ t.lockRun

/-- The lock run after a pulse that is not an outlier (R27). -/
def nextLockRun (e : Int) (t : Timebase) : Nat :=
  if t.state = .acquire then (if e.natAbs ≤ 100 then min (t.lockRun + 1) 8 else 0) else t.lockRun

/-- A pulse that is not an outlier moves the lock run in ACQUIRE, and its eighth small error leads to LOCKED (R27). -/
theorem countLock_writes (e : Int) (s : State) :
    (countLock e s).tb = { s.tb with
      lockRun := nextLockRun e s.tb
      state := if LeadsToLock e s.tb then .locked else s.tb.state
      lockHeld := s.tb.lockHeld || decide (LeadsToLock e s.tb) } := by
  unfold countLock
  by_cases acquire : s.tb.state = .acquire
  · by_cases small : e.natAbs ≤ 100
    · by_cases last : 7 ≤ s.tb.lockRun
      · simp [nextLockRun, LeadsToLock, acquire, small, last]
      · simp [nextLockRun, LeadsToLock, acquire, small, last]; omega
    · simp [nextLockRun, LeadsToLock, acquire, small]
  · simp [nextLockRun, LeadsToLock, acquire]

/-- The lock raises LOCK_GAINED (R27). -/
theorem countLock_lockGained {e : Int} {s : State} (h : LeadsToLock e s.tb) :
    (countLock e s).lnu.flags.lockGained = true := by
  obtain ⟨acquire, small, last⟩ := h
  rw [countLock, if_pos acquire, if_pos small, if_pos (by omega)]
  rfl

/-- Deriving the class leaves every flag but QUALITY_DROP as it is (R33). -/
theorem evalQuality_otherFlags (s : State) :
    (evalQuality s).lnu.flags.step = s.lnu.flags.step
      ∧ (evalQuality s).lnu.flags.lockGained = s.lnu.flags.lockGained := by
  rcases evalQuality_flags s with h | h <;> rw [h] <;> exact ⟨rfl, rfl⟩

theorem lockedUncertainty_lockGained (e : Int) (s : State) :
    (lockedUncertainty e s).lnu.flags.lockGained = s.lnu.flags.lockGained := by
  unfold lockedUncertainty; split
  · exact (evalQuality_otherFlags _).2
  · rfl

theorem newTime_step (s : State) (x : Timebase) : (newTime s x).lnu.flags.step = s.lnu.flags.step :=
  (step_of_timeFlags (takeTimeOfDay_timeFlags _)).trans (evalQuality_otherFlags _).1

/-! ### A pulse of the selected source -/

/-- The Timebase that an outlier without a step leaves, in its run and its uncertainty (R21, R27, R28). -/
def outlierCounted (e : Int) (run : Nat) (first : Option Int) (t : Timebase) : Timebase :=
  { t with
    outlierRun := run, firstOutlier := first
    lockRun := if t.state = .acquire then 0 else t.lockRun
    uncertainty := if t.state = .locked then e.natAbs + 2 else t.uncertainty }

/-- An outlier that makes no step is counted, as the first of a new chain or into the chain it joins (R21). -/
theorem takeOutlier_counts {e : Int} {s : State} (few : ¬ (s.tb.chains e = true ∧ 2 ≤ s.tb.outlierRun)) :
    (takeOutlier e s).shc = s.shc
      ∧ (takeOutlier e s).tb = { outlierCounted e (if s.tb.chains e then s.tb.outlierRun + 1 else 1)
          (if s.tb.chains e then s.tb.firstOutlier else some e) s.tb with
        reported := (takeOutlier e s).tb.reported } := by
  rw [takeOutlier, if_neg few]
  refine ⟨by simp, (lockedUncertainty_writes e _).trans ?_⟩
  simp only [outlierCounted]
  by_cases chain : s.tb.chains e = true <;> by_cases acquire : s.tb.state = .acquire <;> simp [chain, acquire]

/-- The outlier that begins a new chain (R21). -/
theorem selectedPulse_firstOutlier {e : Int} {s : State} (large : s.tb.stepThreshold < e.natAbs)
    (new : ¬ s.tb.chains e = true) :
    (selectedPulse e s).shc = s.shc
      ∧ (selectedPulse e s).tb = { outlierCounted e 1 (some e) s.tb with
          reported := (selectedPulse e s).tb.reported } := by
  have counted := takeOutlier_counts (e := e) (s := s) fun h => new h.1
  rw [if_neg new, if_neg new] at counted
  rw [selectedPulse, if_pos large]; exact counted

/-- The outlier that joins the chain and is not its third (R21). -/
theorem selectedPulse_joins {e : Int} {s : State} (large : s.tb.stepThreshold < e.natAbs)
    (joins : s.tb.chains e = true) (few : s.tb.outlierRun < 2) :
    (selectedPulse e s).shc = s.shc
      ∧ (selectedPulse e s).tb = { outlierCounted e (s.tb.outlierRun + 1) s.tb.firstOutlier s.tb with
          reported := (selectedPulse e s).tb.reported } := by
  have counted := takeOutlier_counts (e := e) (s := s) fun h => absurd h.2 (by omega)
  rw [if_pos joins, if_pos joins] at counted
  rw [selectedPulse, if_pos large]; exact counted

/-- The third outlier of a chain steps the time (R21, R25). -/
theorem selectedPulse_steps {e : Int} {s : State} (large : s.tb.stepThreshold < e.natAbs)
    (joins : s.tb.chains e = true) (many : 2 ≤ s.tb.outlierRun) :
    selectedPulse e s = newTime (raise .step s) (steppedTime e s.tb) := by
  rw [selectedPulse, if_pos large, takeOutlier, if_pos ⟨joins, many⟩, stepPhase_eq]

/-- The Timebase that an update of the loop leaves (R22, R27, R28). -/
def loopUpdated (e : Int) (t : Timebase) : Timebase :=
  let f := max (-20000) (min (t.freq - (e * 100).tdiv (2 ^ t.loopExp)) 20000)
  { t with
    freq := f, trim := max (-20000) (min (f - (e * 100).tdiv 8) 20000)
    outlierRun := 0, firstOutlier := none
    lockRun := nextLockRun e t
    state := if LeadsToLock e t then .locked else t.state
    lockHeld := t.lockHeld || decide (LeadsToLock e t)
    uncertainty := if LeadsToLock e t ∨ t.state = .locked then e.natAbs + 2 else t.uncertainty }

/-- The Timebase is LOCKED after a pulse where the pulse led to it or it was before (R27). -/
theorem locked_after_iff (e : Int) (t : Timebase) :
    (if LeadsToLock e t then TbState.locked else t.state) = .locked ↔ LeadsToLock e t ∨ t.state = .locked := by
  by_cases h : LeadsToLock e t
  · rw [if_pos h]; exact iff_of_true rfl (.inl h)
  · rw [if_neg h]; exact ⟨.inr, fun k => k.resolve_left h⟩

/-- A pulse that is not an outlier updates the loop (R22, R27, R28). -/
theorem selectedPulse_updates {e : Int} {s : State} (small : e.natAbs ≤ s.tb.stepThreshold) :
    (selectedPulse e s).shc = s.shc
      ∧ (LeadsToLock e s.tb → (selectedPulse e s).lnu.flags.lockGained = true)
      ∧ (selectedPulse e s).tb = { loopUpdated e s.tb with reported := (selectedPulse e s).tb.reported } := by
  rw [selectedPulse, if_neg (by omega)]
  refine ⟨by simp, fun locks => ?_, ?_⟩
  · rw [takeInlier, lockedUncertainty_lockGained]
    exact countLock_lockGained locks
  · rw [takeInlier, lockedUncertainty_writes, countLock_writes]
    simp only [locked_after_iff, loopUpdated]
    rfl

/-! ### The step's arithmetic (R18, R25) -/

/-- Taking the phase error from the time it was measured at leaves the cable delay (R18, R25). -/
theorem subtractPhase_phaseError {t : Timebase} {d : Nat} (hf : t.frac ≤ 9999999) (hd : d ≤ 65535) :
    (t.subtractPhase (phaseError t.frac d)).frac = d := by
  simp only [Timebase.subtractPhase, phaseError]
  (repeat' split) <;> simp only <;> omega

/-- The station time less an error: a borrow, none, or a carry (R25). -/
theorem subtractPhase_time (t : Timebase) (e : Int) :
    let y : Int := (t.frac : Int) - e
    (y < 0 → (t.subtractPhase e).frac = (y + 10000000).toNat
        ∧ (t.subtractPhase e).seconds = (t.seconds + 4294967295) % 4294967296)
      ∧ (0 ≤ y → y ≤ 9999999 → (t.subtractPhase e).frac = y.toNat ∧ (t.subtractPhase e).seconds = t.seconds)
      ∧ (9999999 < y → (t.subtractPhase e).frac = (y - 10000000).toNat
          ∧ (t.subtractPhase e).seconds = (t.seconds + 1) % 4294967296) := by
  intro y
  refine ⟨fun h => ?_, fun h h' => ?_, fun h => ?_⟩ <;> simp only [Timebase.subtractPhase]
  · rw [if_pos h]; exact ⟨rfl, rfl⟩
  · rw [if_neg (by omega), if_neg (by omega)]; exact ⟨rfl, rfl⟩
  · rw [if_neg (by omega), if_pos h]; exact ⟨rfl, rfl⟩

/-- With no boundary due a step takes the error from the counts as they stand (R25). -/
theorem stepped_of_not_due {t : Timebase} (h : t.boundaryDue = false) (e : Int) : t.stepped e = t.subtractPhase e := by
  simp [Timebase.stepped, h]

/-- A step taken before the boundary of its instant leaves the boundary one cu to count (R24, R25). -/
theorem stepped_of_due {t : Timebase} (h : t.boundaryDue = true) (e : Int) :
    (t.stepped e).frac = (t.present.subtractPhase e).back.frac := by
  simp [Timebase.stepped, h]

/-- One cu after the station time one cu earlier the fraction is the same again (R1). -/
theorem back_frac {t : Timebase} (h : t.frac ≤ 9999999) : (t.back.frac + 1) % 10000000 = t.frac := by
  unfold Timebase.back; split <;> simp only <;> omega

/-- A step leaves the fraction at the cable delay, or one cu before it where the boundary has still to be counted
(R24, R25). -/
theorem stepped_frac {t : Timebase} {d : Nat} (hf : t.present.frac ≤ 9999999) (hd : d ≤ 65535) :
    (t.boundaryDue = false → (t.stepped (phaseError t.present.frac d)).frac = d)
      ∧ (t.boundaryDue = true → ((t.stepped (phaseError t.present.frac d)).frac + 1) % 10000000 = d) := by
  have delay := subtractPhase_phaseError hf hd
  refine ⟨fun due => ?_, fun due => ?_⟩
  · rw [stepped_of_not_due due]
    rw [Timebase.present_of_not_due due] at delay ⊢
    exact delay
  · rw [stepped_of_due due, back_frac (by rw [delay]; omega), delay]

/-! ### The measured pulse -/

/-- A source that may be selected and that no other one precedes is the choice (R11). -/
theorem choice_of_first {r : Riu} {x : SourceId} (mine : (r.source x).eligible = true)
    (first : (r.source (otherSource x)).eligible = true →
      (r.source x).priority < (r.source (otherSource x)).priority) : r.choice = some x := by
  unfold Riu.choice
  cases x <;> simp only [Riu.source, otherSource] at mine first
  · rw [if_pos mine, if_neg]
    intro h
    simp only [Bool.and_eq_true, decide_eq_true_eq] at h
    have := first h.1
    omega
  · by_cases other : r.refA.eligible = true
    · rw [if_pos other, if_pos (by simpa [mine] using first other)]
    · rw [if_neg other, if_pos mine]

/-- The eighth spaced pulse and every later one leaves its source QUALIFIED with a run of 8 (R9). -/
theorem accepted_qualified {v : Source} {now p : Nat} (e : Int) (lp : v.lastPulse = some p)
    (lo : p + 9998000 ≤ now) (hi : now ≤ p + 10002000) (run : 7 ≤ v.run) :
    v.accepted now e = { v with lastPulse := some now, lastError := some e, run := 8, state := .qualified } := by
  have spaced : v.isSpaced now = true := by simp [Source.isSpaced, lp, lo, hi]
  simp only [Source.accepted, spaced, if_true]
  rw [if_neg (by omega)]

/-- The Timebase at which a pulse of the source selected by it is judged (R26, R28). -/
def judgedAt (x : SourceId) (s : State) : Timebase :=
  let told : Timebase := { s.tb with outlierRun := 0, firstOutlier := none, lockRun := 0 }
  if s.riu.selection = some x then s.tb
  else if s.riu.selection = none then { told with state := .acquire, uncertainty := 1000 }
  else told

/-- A pulse whose source is selected by it finds the Timebase told of the selection (R26). -/
theorem measured_judgedAt {x : SourceId} {s : State} (ag : SelectionAgrees s)
    (sel : (measured x s).riu.selection = some x) :
    (measured x s).tb = { judgedAt x s with reported := (measured x s).tb.reported } := by
  obtain ⟨same, changed⟩ : SelectionTold s (measured x s) := withSource_told ag _ _
  unfold judgedAt
  by_cases was : s.riu.selection = some x
  · rw [if_pos was, (same (sel.trans was.symm)).1]
  · obtain ⟨-, fromNone, fromOther, -, -⟩ := changed (fun h => was (h.symm.trans sel))
    rw [if_neg was]
    by_cases none : s.riu.selection = none
    · rw [if_pos none]; exact fromNone none
    · rw [if_neg none]; exact (fromOther none (by simp [sel])).1

/-- A chain of outliers goes on only where the selection stays as it was (R21, R26). -/
theorem judgedAt_of_chain {x : SourceId} {s : State} (h : 0 < (judgedAt x s).outlierRun) :
    s.riu.selection = some x := by
  by_contra was
  rw [judgedAt, if_neg was] at h
  split at h <;> exact Nat.lt_irrefl 0 h

/-- The pulse that steps the time raises STEP, takes the new time and leaves the counts that the step gives (R25). -/
theorem newTime_steps {s m : State} (tb : m.tb = s.tb) (shc : m.shc = s.shc) (e : Int) :
    let t := newTime (raise .step m) (steppedTime e m.tb)
    t.lnu.flags.step = true ∧ TookTime s t
      ∧ t.tb = { steppedTime e s.tb with
          seconds := t.tb.seconds, frac := t.tb.frac, reported := t.tb.reported }
      ∧ t.tb.seconds = (s.tb.stepped e).seconds ∧ t.tb.frac = (s.tb.stepped e).frac := by
  intro t
  have written : t.tb = { steppedTime e s.tb with reported := (steppedTime e s.tb).quality } := by
    rw [← tb]; exact newTime_tb _ _
  have took : TookTime m t := newTime_took (s := raise .step m) rfl rfl
  refine ⟨newTime_step _ _, ?_, by rw [written], by rw [written]; rfl, by rw [written]; rfl⟩
  unfold TookTime at *
  rw [← shc]
  exact took

/-- A pulse that selects its source leaves it QUALIFIED and selected (R9, R11). -/
theorem measured_selects {s : State} {x : SourceId} {p : Nat} (en : (s.riu.source x).enable = true)
    (lp : (s.riu.source x).lastPulse = some p) (lo : p + 9998000 ≤ s.elapsed) (hi : s.elapsed ≤ p + 10002000)
    (run : 7 ≤ (s.riu.source x).run)
    (first : (s.riu.source (otherSource x)).enable = true → (s.riu.source (otherSource x)).state = .qualified →
      (s.riu.source x).priority < (s.riu.source (otherSource x)).priority) :
    (measured x s).riu.source x = { s.riu.source x with
        lastPulse := some s.elapsed, lastError := some (phaseError s.now.frac (s.riu.source x).delay)
        run := 8, state := .qualified }
      ∧ (measured x s).riu.selection = some x := by
  have mine := measured_source x x s
  have other := measured_source x (otherSource x) s
  rw [if_pos rfl, accepted_qualified _ lp lo hi run] at mine
  rw [if_neg (otherSource_ne x)] at other
  refine ⟨mine, (evalSelection_choice _).trans (choice_of_first ?_ fun eligible => ?_)⟩
  · rw [eligible_iff, ← measured, mine]; exact ⟨en, rfl⟩
  · rw [eligible_iff, ← measured, other] at eligible
    rw [← measured, mine, other]
    exact first eligible.1 eligible.2

/-- Settles O24: the pulse selects its source, and the loop's rules are read at the Timebase told of the selection. -/
theorem selectedPulseDisciplinesTheTime : Obligations.SelectedPulseDisciplinesTheTime := by
  intro s x p pw en lp lo hi run ag first v e told b joins
  obtain ⟨source, sel⟩ := measured_selects en lp lo hi run first
  have pulse : acceptPulse x s = selectedPulse e (measured x s) := by rw [acceptPulse_eq, if_pos sel]
  have riu := acceptPulse_riu x s
  have only := acceptPulse_only x s
  have shc : (measured x s).shc = s.shc := by simp [measured, withSource]
  obtain ⟨r, tb⟩ : ∃ r, (measured x s).tb = { b with reported := r } := ⟨_, measured_judgedAt ag sel⟩
  have chain : (measured x s).tb.chains e = true ↔ joins := by rw [chains_iff, tb]
  have threshold : (measured x s).tb.stepThreshold = b.stepThreshold := by rw [tb]
  have outliers : (measured x s).tb.outlierRun = b.outlierRun := by rw [tb]
  refine ⟨_, execRefPulse_accepted pw en ?_, by rw [riu, sel], by rw [riu, source], only, ?_, ?_, ?_, ?_⟩
  · rintro q hq
    cases lp.symm.trans hq
    omega
  all_goals rw [pulse]
  · intro large new
    obtain ⟨kept, written⟩ := selectedPulse_firstOutlier (threshold ▸ large) (mt chain.mp new)
    exact ⟨kept.trans shc, written.trans (by rw [tb]; rfl)⟩
  · intro large join few
    obtain ⟨kept, written⟩ := selectedPulse_joins (threshold ▸ large) (chain.mpr join) (outliers ▸ few)
    exact ⟨kept.trans shc, written.trans (by rw [tb]; rfl)⟩
  · intro large join many
    have was : s.riu.selection = some x := judgedAt_of_chain (by change 0 < b.outlierRun; omega)
    have same : (measured x s).tb = s.tb := ((withSource_told ag x _).1 (sel.trans was.symm)).1
    have judged : b = s.tb := if_pos was
    rw [selectedPulse_steps (threshold ▸ large) (chain.mpr join) (outliers ▸ many)]
    obtain ⟨step, took, written, seconds, frac⟩ := newTime_steps same shc e
    refine ⟨step, took, written.trans (by rw [judged]; rfl), fun due => ?_, fun hf hd => ?_⟩
    · rw [seconds, frac, stepped_of_not_due due]
      exact subtractPhase_time s.tb e
    · rw [frac]; exact stepped_frac hf hd
  · intro small
    obtain ⟨kept, locks, written⟩ := selectedPulse_updates (e := e) (s := measured x s) (threshold ▸ small)
    refine ⟨kept.trans shc, ?_, written.trans (by rw [tb]; rfl)⟩
    rw [tb] at locks; exact locks

end Sys2Proof.Proofs
end

section
/-! PROOFS. What serving a request and ending a frame come to: nothing, a broadcast SET_TIME, or one block's act, served
(R173 to R178). -/

namespace Sys2Proof.Proofs

open Sys2Proof.Machine Sys2Proof.Safety

/-- A request has been taken: it was not heard, it was a broadcast SET_TIME, or its block was served (R173, R175). -/
inductive RequestTaken (s : State) : State → Prop where
  | unheard : RequestTaken s s
  | broadcast (x f n : Nat) : RequestTaken s (broadcastSetTime x f n s)
  | served (code : Nat) (d : Bool) {act : State → State × Answer} (b : BlockAct act) :
      RequestTaken s (serve code d act s)

/-- A command of the station controller is a request taken. -/
theorem command_taken {i : Instr} {s t : State} (c : (requestBytes i).isSome = true) (e : exec i s = .next t) :
    RequestTaken s t := by
  cases i <;> first
    | (exfalso; revert c; simp [requestBytes]; done)
    | (obtain rfl := next_inj e
       exact .served _ _ (by with_reducible constructor <;> first
         | exact BitVec.isLt _
         | exact List.forall_mem_map.2 fun _ _ => BitVec.isLt _))
    | (obtain rfl := next_inj e
       split)
  case setTime.isTrue => exact .broadcast _ _ _
  case setTime.isFalse => exact .served _ _ (.setTime _ _ _ (BitVec.isLt _) (BitVec.isLt _) (BitVec.isLt _))
  case unknownCommand.isTrue => exact .unheard
  case unknownCommand.isFalse => exact .served _ _ .unknownCommand

/-- A good frame is a request taken. -/
theorem takeFrame_taken (bytes : List Byte) (s : State) : RequestTaken s (takeFrame bytes s) := by
  simp only [takeFrame, takeBroadcast]
  (repeat' split)
  · exact .broadcast _ _ _
  · exact .unheard
  · exact .served _ _ (requestOf_blockAct _ _)
  · exact .unheard

/-- The end of a frame changes the link alone, or takes the request of the frame (R174). -/
theorem frameEnd_taken {s t : State} (e : execFrameEnd s = .next t) :
    (∃ l, l.flags = s.lnu.flags ∧ t = { s with lnu := l }) ∨ RequestTaken (setRx .silent s) t := by
  obtain rfl := next_inj e
  (repeat' split)
  · exact .inl ⟨s.lnu, rfl, rfl⟩
  · exact .inl ⟨(setRx .silent s).lnu, rfl, rfl⟩
  · exact .inr (takeFrame_taken _ _)
  · exact .inl ⟨(countError (setRx .silent s)).lnu, rfl, rfl⟩
  · exact .inl ⟨s.lnu, rfl, rfl⟩

end Sys2Proof.Proofs
end

section
/-! PROOFS. The reported class and QUALITY_DROP: every step leaves the class of R32 and tells of its worsening alone
(R32, R33). -/

namespace Sys2Proof.Proofs

open Sys2Proof.Machine Sys2Proof.Safety

/-! ### A class that stands, and a class derived afresh -/

/-- The class, what it is derived from, and QUALITY_DROP stand (R32, R33). -/
structure ClassStands (s t : State) : Prop where
  timeSet : t.tb.timeSet = s.tb.timeSet
  uncertainty : t.tb.uncertainty = s.tb.uncertainty
  reported : t.tb.reported = s.tb.reported
  drop : t.lnu.flags.qualityDrop = s.lnu.flags.qualityDrop

/-- The class is the one of R32, and QUALITY_DROP tells exactly of its worsening (R33). -/
structure ClassTold (s t : State) : Prop where
  reported : ClassReported t
  raised : Worsened s t → t.lnu.flags.qualityDrop = true
  only : s.lnu.flags.qualityDrop = false → t.lnu.flags.qualityDrop = true → Worsened s t

/-- The class reported is the one derived from the Timebase (R32). -/
theorem classReported_iff (s : State) : ClassReported s ↔ s.tb.reported = s.tb.quality := Iff.rfl

/-- A class among A to D is worse than another by its code (R33). -/
theorem isDrop_iff (o n : Quality) :
    isDrop o n = true ↔ o ≠ .u ∧ n ≠ .u ∧ qualityCode o < qualityCode n := by
  cases o <;> cases n <;> decide

/-- The class has worsened where the new one drops below the old (R33). -/
theorem worsened_iff (s t : State) : Worsened s t ↔ isDrop s.tb.reported t.tb.reported = true := (isDrop_iff _ _).symm

/-- A class that stays has not worsened. -/
theorem not_worsened_of_same {s t : State} (h : t.tb.reported = s.tb.reported) : ¬ Worsened s t :=
  fun ⟨_, _, lt⟩ => absurd (h ▸ lt) (Nat.lt_irrefl _)

namespace ClassStands

variable {s t u : State}

theorem refl (s : State) : ClassStands s s := ⟨rfl, rfl, rfl, rfl⟩

theorem trans (h : ClassStands s t) (k : ClassStands t u) : ClassStands s u :=
  ⟨k.timeSet.trans h.timeSet, k.uncertainty.trans h.uncertainty, k.reported.trans h.reported, k.drop.trans h.drop⟩

/-- The class stands where the Timebase and the flags of the TIME category do. -/
theorem of_same (tb : t.tb = s.tb) (flags : timeFlags t.lnu.flags = timeFlags s.lnu.flags) : ClassStands s t :=
  ⟨by rw [tb], by rw [tb], by rw [tb], qualityDrop_of_timeFlags flags⟩

theorem classReported (h : ClassStands s t) (r : ClassReported s) : ClassReported t := by
  unfold ClassReported; rw [h.reported, h.timeSet, h.uncertainty]; exact r

end ClassStands

/-- A class that stays is told of by leaving QUALITY_DROP, or clearing it. -/
theorem classTold_of_kept {s t : State} (r : ClassReported t) (same : t.tb.reported = s.tb.reported)
    (drop : t.lnu.flags.qualityDrop = true → s.lnu.flags.qualityDrop = true) : ClassTold s t :=
  ⟨r, fun w => absurd w (not_worsened_of_same same), fun off on => absurd (off.symm.trans (drop on)) (by decide)⟩

theorem ClassStands.told {s t : State} (h : ClassStands s t) (r : ClassReported s) : ClassTold s t :=
  classTold_of_kept (h.classReported r) h.reported fun on => h.drop.symm.trans on

/-- What stands after the class was told of is told of too. -/
theorem ClassTold.thenStands {s t u : State} (h : ClassTold s t) (k : ClassStands t u) : ClassTold s u where
  reported := k.classReported h.reported
  raised w := by rw [k.drop]; exact h.raised (by unfold Worsened at *; rw [← k.reported]; exact w)
  only off on := by
    have := h.only off (k.drop.symm.trans on)
    unfold Worsened at *; rw [k.reported]; exact this

/-- What is told of against a state is told of against any in which the class stood. -/
theorem ClassStands.thenTold {s t u : State} (k : ClassStands s t) (h : ClassTold t u) : ClassTold s u where
  reported := h.reported
  raised w := h.raised (by unfold Worsened at *; rw [k.reported]; exact w)
  only off on := by
    have := h.only (k.drop.trans off) on
    unfold Worsened at *; rw [← k.reported]; exact this

/-- Deriving the class sets QUALITY_DROP where the class worsens, and leaves it otherwise (R33). -/
theorem evalQuality_drop (s : State) :
    (evalQuality s).lnu.flags.qualityDrop = (isDrop s.tb.reported s.tb.quality || s.lnu.flags.qualityDrop) := by
  simp only [evalQuality]
  cases isDrop s.tb.reported s.tb.quality <;> rfl

/-- Deriving the class tells of its worsening against any state that reported the same class (R33). -/
theorem evalQuality_told {s m : State} (rep : m.tb.reported = s.tb.reported)
    (drop : m.lnu.flags.qualityDrop = true → s.lnu.flags.qualityDrop = true) : ClassTold s (evalQuality m) := by
  have new : (evalQuality m).tb.reported = m.tb.quality := by rw [evalQuality_tb]
  refine ⟨by rw [classReported_iff, evalQuality_tb]; rfl, fun w => ?_, fun off on => ?_⟩
  · rw [worsened_iff, new] at w
    rw [evalQuality_drop, rep, w]; rfl
  · rw [worsened_iff, new, ← rep]
    rw [evalQuality_drop, Bool.or_eq_true] at on
    exact on.resolve_right fun on => absurd (off.symm.trans (drop on)) (by decide)

/-- The class is as it stood, or has been derived afresh and told of. -/
def ClassMoves (s t : State) : Prop := ClassStands s t ∨ ClassTold s t

theorem ClassMoves.told {s t : State} (h : ClassMoves s t) (r : ClassReported s) : ClassTold s t :=
  h.elim (·.told r) id

/-- Taking a new time of day leaves the class as it stands (R154). -/
theorem takeTimeOfDay_stands (s : State) : ClassStands s (takeTimeOfDay s) := .of_same (by simp) (by simp)

/-- Evaluating the class and taking the time of day tells of the class (R33, R154). -/
theorem newTime_told (s : State) {x : Timebase} (rep : x.reported = s.tb.reported) : ClassTold s (newTime s x) :=
  (evalQuality_told (m := { s with tb := x }) rep id).thenStands (takeTimeOfDay_stands _)

/-! ### The selection and the pulses (R11, R20 to R28) -/

/-- The Timebase has just entered ACQUIRE: no run has begun (R26). -/
structure JustAcquired (t : Timebase) : Prop where
  state : t.state = .acquire
  firstOutlier : t.firstOutlier = none
  lockRun : t.lockRun = 0

/-- The class moves only with an entry to ACQUIRE, or where no source stays selected (R26, R28, R33). -/
theorem selectionChanged_class (o n : Option SourceId) (s : State) :
    ClassStands s (selectionChanged o n s)
      ∨ ClassTold s (selectionChanged o n s) ∧ (n = none ∨ JustAcquired (selectionChanged o n s).tb) := by
  simp only [selectionChanged]
  split
  · split
    · exact .inr ⟨evalQuality_told rfl id, .inr (by rw [evalQuality_tb]; exact ⟨rfl, rfl, rfl⟩)⟩
    · exact .inr ⟨evalQuality_told rfl id, .inr (by rw [evalQuality_tb]; exact ⟨rfl, rfl, rfl⟩)⟩
    · exact .inl ⟨rfl, rfl, rfl, rfl⟩
  · (repeat' split)
    · exact .inr ⟨evalQuality_told rfl id, .inl rfl⟩
    · exact .inr ⟨evalQuality_told rfl id, .inl rfl⟩
    · exact .inr ⟨evalQuality_told rfl id, .inl rfl⟩
    · exact .inl ⟨rfl, rfl, rfl, rfl⟩
  · exact .inl ⟨rfl, rfl, rfl, rfl⟩

/-- Evaluating the selection moves the class only with an entry to ACQUIRE, or where no source stays selected. -/
theorem evalSelection_class (s : State) :
    ClassStands s (evalSelection s)
      ∨ ClassTold s (evalSelection s)
        ∧ ((evalSelection s).riu.selection = none ∨ JustAcquired (evalSelection s).tb) := by
  by_cases h : s.riu.choice = s.riu.selection
  · rw [evalSelection_same h]; exact .inl (.refl s)
  · have sel : (evalSelection s).riu.selection = s.riu.choice := by rw [evalSelection_riu]
    have raised : ClassStands s (raise .sourceChange { s with riu := { s.riu with selection := s.riu.choice } }) :=
      ⟨rfl, rfl, rfl, rfl⟩
    rw [sel, evalSelection_changed h]
    exact (selectionChanged_class _ _ _).imp raised.trans fun ⟨told, rest⟩ => ⟨raised.thenTold told, rest⟩

theorem evalSelection_moves (s : State) : ClassMoves s (evalSelection s) := (evalSelection_class s).imp_right (·.1)

/-- In LOCKED a pulse derives the class afresh (R28, R33). -/
theorem lockedUncertainty_moves (e : Int) (s : State) : ClassMoves s (lockedUncertainty e s) := by
  unfold lockedUncertainty; split
  · exact .inr (evalQuality_told rfl id)
  · exact .inl (.refl s)

/-- A small error counted leaves the class as it stands (R27). -/
theorem countLock_stands (e : Int) (s : State) : ClassStands s (countLock e s) := by
  unfold countLock; (repeat' split) <;> exact ⟨rfl, rfl, rfl, rfl⟩

/-- The loop update leaves the class as it stands (R22). -/
theorem loopUpdate_stands (e : Int) (s : State) :
    ClassStands s { s with tb := Timebase.loopUpdate { s.tb with outlierRun := 0, firstOutlier := none } e } :=
  ⟨rfl, rfl, rfl, rfl⟩

theorem ClassStands.thenMoves {s t u : State} (k : ClassStands s t) (h : ClassMoves t u) : ClassMoves s u :=
  h.imp k.trans k.thenTold

/-- A pulse of the selected source derives the class afresh, or leaves it (R20 to R28, R33). -/
theorem selectedPulse_moves (e : Int) (s : State) : ClassMoves s (selectedPulse e s) := by
  unfold selectedPulse
  split
  · unfold takeOutlier
    split
    · have raised : ClassStands s (raise .step s) := ⟨rfl, rfl, rfl, rfl⟩
      rw [stepPhase_eq]
      exact .inr (raised.thenTold (newTime_told _ rfl))
    · refine ClassStands.thenMoves ?_ (lockedUncertainty_moves e _)
      (repeat' split) <;> exact ⟨rfl, rfl, rfl, rfl⟩
  · have counted : ClassStands s (countLock e
        { s with tb := Timebase.loopUpdate { s.tb with outlierRun := 0, firstOutlier := none } e }) :=
      (loopUpdate_stands e s).trans (countLock_stands e _)
    exact counted.thenMoves (lockedUncertainty_moves e _)

/-- The pulse that has just led to ACQUIRE makes no step and no lock, and leaves the class as it stands
(R21, R27, R28). -/
theorem selectedPulse_acquired {s : State} (h : JustAcquired s.tb) (e : Int) : ClassStands s (selectedPulse e s) := by
  obtain ⟨state, first, lock⟩ := h
  have chain : s.tb.chains e = false := by simp [Timebase.chains, first]
  unfold selectedPulse
  split
  · simp only [takeOutlier, chain, lockedUncertainty, state]
    exact ⟨rfl, rfl, rfl, rfl⟩
  · have counted : (countLock e
        { s with tb := Timebase.loopUpdate { s.tb with outlierRun := 0, firstOutlier := none } e }).tb.state
          = .acquire := by
      simp only [countLock, Timebase.loopUpdate, state, lock]
      (repeat' split) <;> first | rfl | omega
    rw [takeInlier, lockedUncertainty, if_neg (by rw [counted]; decide)]
    exact (loopUpdate_stands e s).trans (countLock_stands e _)

/-- An accepted pulse derives the class afresh once, or leaves it: one that has just led to ACQUIRE goes no further
(R9, R28, R33). -/
theorem acceptPulse_moves (x : SourceId) (s : State) : ClassMoves s (acceptPulse x s) := by
  have stored (v : Source) : ClassStands s (withSource s x v) := ⟨rfl, rfl, rfl, rfl⟩
  rw [acceptPulse_eq]
  rcases evalSelection_class (withSource s x _) with stands | ⟨told, quiet⟩
  · have stands := (stored _).trans stands
    split
    · exact stands.thenMoves (selectedPulse_moves _ _)
    · exact .inl stands
  · have told := (stored _).thenTold told
    split
    · rename_i sel
      have acquired := quiet.resolve_left fun none => Option.some_ne_none x (sel.symm.trans none)
      exact .inr (told.thenStands (selectedPulse_acquired acquired _))
    · exact .inr told

/-! ### The boundary and the starts (R4, R29, R30) -/

/-- A local second boundary tells of the class that the growth gives (R29, R33). -/
theorem boundaryPeriod_told (s : State) : ClassTold s (boundaryPeriod s) := by
  have grown : ClassTold s (evalQuality { s with tb := { s.tb.takeTrim.grow with boundaryDue := false } }) :=
    evalQuality_told (by simp only [Timebase.grow]; split <;> rfl) id
  simp only [boundaryPeriod]
  split
  · refine (grown.thenStands ?_).thenStands (takeTimeOfDay_stands _)
    exact ⟨by simp, by simp, by simp, rfl⟩
  · exact grown.thenStands ⟨rfl, rfl, rfl, rfl⟩

/-- A warm start clears the flags and then tells of the class that its uncertainty gives (R30, R33, R179). -/
theorem warmStart_told (a : BitVec 5) (f : Bool) (d : Nat) (s : State) : ClassTold s (warmStart a f d s) := by
  have begun : ClassTold s (warmTimebase d { s with lnu := s.lnu.restarted a f, spm := s.spm.restarted }) := by
    refine evalQuality_told ?_ fun on => ?_
    · split <;> rfl
    · split at on <;> exact absurd on Bool.false_ne_true
  exact begun.thenStands (.of_same (by simp [warmStart]) (by simp [warmStart, driveOutputs]))

/-- A cold start reports U and clears QUALITY_DROP (R16, R33, R198). -/
theorem coldStart_told (a : BitVec 5) (f : Bool) (s : State) : ClassTold s (coldStart a f s) := by
  have tb := (coldStart_time a f s).1
  have off : timeFlags (coldStart a f s).lnu.flags = timeFlags State.reset.lnu.flags := by
    simp [coldStart, driveOutputs, coldBlocks]
  have off := qualityDrop_of_timeFlags off
  refine ⟨?_, fun ⟨_, unset, _⟩ => absurd ?_ unset, fun _ on => absurd (off.symm.trans on) (by decide)⟩
  · unfold ClassReported; rw [tb]; rfl
  · rw [tb]; rfl

/-! ### Every step -/

theorem askSetTime_moves (x f n : Nat) (s : State) : ClassMoves s (askSetTime x f n s).1 := by
  by_cases hf : 9999999 < f
  · rw [askSetTime, if_pos hf]; exact .inl (.refl s)
  · by_cases sel : s.riu.selection = none
    · rw [askSetTime_whole (by omega) sel]; exact .inr (newTime_told s rfl)
    · rw [askSetTime_secondsOnly (by omega) sel]; exact .inr (newTime_told s rfl)

theorem askSetReference_moves (x e p d : Nat) (s : State) : ClassMoves s (askSetReference x e p d s).1 := by
  unfold askSetReference; split
  · refine ClassStands.thenMoves ?_ (evalSelection_moves _)
    exact ⟨rfl, rfl, rfl, rfl⟩
  · exact .inl (.refl s)

theorem resetT_stands (s : State) : ClassStands s (resetT s) := by
  unfold resetT; split <;> exact ⟨rfl, rfl, rfl, rfl⟩

/-- Every request leaves the class told of. -/
theorem blockAct_told {act : State → State × Answer} (b : BlockAct act) {s : State} (r : ClassReported s) :
    ClassTold s (act s).1 := by
  rcases blockAct_timeFlags b s with flags | ⟨x, f, n, rfl⟩ | ⟨x, e, p, d, rfl⟩ | rfl | rfl
  · rcases blockAct_time b s with same | ⟨x, f, n, -, rfl⟩ | ⟨x, e, p, d, -, rfl⟩ | ⟨k, x, h, rfl⟩ | rfl
    · exact (ClassStands.of_same same.tb flags).told r
    · exact (askSetTime_moves x f n s).told r
    · exact (askSetReference_moves x e p d s).told r
    · exact ClassStands.told ⟨rfl, rfl, rfl, rfl⟩ r
    · exact (resetT_stands s).told r
  · exact (askSetTime_moves x f n s).told r
  · exact (askSetReference_moves x e p d s).told r
  · exact (resetT_stands s).told r
  · exact classTold_of_kept r rfl fun on => absurd on Bool.false_ne_true

/-- A request taken leaves the class told of. -/
theorem RequestTaken.classTold {s t : State} (h : RequestTaken s t) (r : ClassReported s) : ClassTold s t := by
  cases h with
  | unheard => exact (ClassStands.refl s).told r
  | broadcast x f n =>
    unfold broadcastSetTime; split
    · exact (askSetTime_moves x f n s).told r
    · exact (ClassStands.refl s).told r
  | served code d b =>
    rcases serve_cases code d _ s with ⟨-, e⟩ | ⟨-, -, -, e⟩ | ⟨-, -, e⟩ <;> rw [e]
    · exact (ClassStands.refl s).told r
    · exact ClassStands.told ⟨rfl, rfl, rfl, rfl⟩ r
    · exact (blockAct_told b r).thenStands ⟨rfl, rfl, rfl, rfl⟩

/-- The end of a frame leaves the class told of. -/
theorem frameEnd_classTold {s t : State} (r : ClassReported s) (e : execFrameEnd s = .next t) : ClassTold s t := by
  rcases frameEnd_taken e with ⟨l, flags, rfl⟩ | taken
  · exact ClassStands.told ⟨rfl, rfl, rfl, by rw [← flags]⟩ r
  · have silent : ClassStands s (setRx .silent s) := ⟨rfl, rfl, rfl, rfl⟩
    exact silent.thenTold (taken.classTold r)

/-- An event that can raise no notice of the TIME category leaves the class as it stands. -/
theorem event_classStands {i : Instr} {s t : State} (ev : requestBytes i = none) (nf : i ≠ .frameEnd)
    (nt : isTimeNoticeEvent i = false) (e : exec i s = .next t) : ClassStands s t := by
  have drop := qualityDrop_of_timeFlags (event_timeFlags ev nf nt e)
  by_cases time : isTimeEvent i = true
  · cases i <;> first
      | (simp [isTimeEvent] at time; done)
      | (simp [isTimeNoticeEvent] at nt; done)
      | skip
    case dutySecondBoundary =>
      have tb := execDutySecondBoundary_time e
      exact ⟨by rw [tb], by rw [tb], by rw [tb], drop⟩
    all_goals obtain rfl := next_inj e
    case holdBackEnd => exact ⟨by split <;> simp, by split <;> simp, by split <;> simp, drop⟩
    case backupEntry => exact ⟨by split <;> rfl, by split <;> rfl, by split <;> rfl, drop⟩
    case watchOscillatorCycle => exact ⟨by simp, by simp, by simp, drop⟩
  · exact .of_same (event_sameTime ev nf (by simpa using time) e).tb (event_timeFlags ev nf nt e)

/-- Every event leaves the class told of. -/
theorem event_classTold {i : Instr} {s t : State} (ev : requestBytes i = none) (nf : i ≠ .frameEnd)
    (r : ClassReported s) (e : exec i s = .next t) : ClassTold s t := by
  by_cases nt : isTimeNoticeEvent i = true
  · have same : ClassTold s s := (ClassStands.refl s).told r
    cases i <;> first
      | (simp [isTimeNoticeEvent] at nt; done)
      | obtain rfl := next_inj e
    case localSecondBoundary =>
      split
      · exact boundaryPeriod_told s
      · exact same
    case refPulse x =>
      (repeat' split)
      · exact ClassStands.told ⟨rfl, rfl, rfl, rfl⟩ r
      · exact (acceptPulse_moves x s).told r
      · exact same
    case sourceLoss x =>
      split
      · refine (ClassStands.thenMoves ?_ (evalSelection_moves _)).told r
        exact ⟨rfl, rfl, rfl, rfl⟩
      · exact same
    case mainSupplyReturn a f =>
      (repeat' split)
      · have skipped : ClassStands s (skipBackupBoundaries s) := ⟨rfl, rfl, rfl, rfl⟩
        exact skipped.thenTold (warmStart_told a f _ _)
      · exact coldStart_told a f s
      · exact same
    case resetPin a f =>
      split
      · exact warmStart_told a f 0 s
      · exact same
  · exact (event_classStands ev nf (by simpa using nt) e).told r

/-- The passing of time leaves the class as it stands (R2, R6). -/
theorem tick_classStands (s : State) : ClassStands s (tick s) := by
  have held : ClassStands s (holdBackEndPeriod s) := by
    refine ClassStands.trans ?_ (takeTimeOfDay_stands _)
    exact ⟨rfl, rfl, rfl, rfl⟩
  unfold tick oscillatorPeriod
  (repeat' split)
  · exact held
  · exact ⟨rfl, rfl, rfl, rfl⟩
  · exact ⟨rfl, rfl, rfl, rfl⟩
  · exact ⟨rfl, rfl, rfl, rfl⟩
  · exact ⟨rfl, rfl, rfl, rfl⟩
  · exact ⟨by simp, by simp, by simp, by simp⟩

/-- Every step leaves the class told of (R32, R33). -/
theorem step_classTold {s t : State} (r : ClassReported s) (e : step s = .next t) : ClassTold s t := by
  unfold step at e
  split at e
  · obtain rfl := next_inj e
    exact (tick_classStands s).told r
  · rename_i i rest _
    have queue : ClassStands s { s with pending := rest } := ⟨rfl, rfl, rfl, rfl⟩
    refine queue.thenTold ?_
    have r := queue.classReported r
    by_cases c : (requestBytes i).isSome = true
    · exact (command_taken c e).classTold r
    · by_cases f : i = .frameEnd
      · subst f; exact frameEnd_classTold r e
      · exact event_classTold (by simpa using c) f r e

/-- Settles O8: the class stands or is derived afresh once in every step. -/
theorem stepKeepsTheClassReported : Obligations.StepKeepsTheClassReported := by
  intro s t r e
  obtain ⟨reported, raised, only⟩ := step_classTold r e
  exact ⟨reported, raised, only⟩

end Sys2Proof.Proofs
end

section
/-! PROOFS. The edges at a trip contact, and the commands of the Trip Input Unit (R41 to R48, R53, R54). -/

namespace Sys2Proof.Proofs

open Sys2Proof.Machine Sys2Proof.Safety

/-! ### Edges (R41, R43, R45, R46) -/

/-- An edge at a powered part's contact writes what its filter makes of the edge (R41, R43). -/
theorem execTripContactEdge_edge {s : State} (powered : s.powered = true) {u : UnitId} {i : InputId} {closed : Bool}
    (edge : (s.input u i).closed ≠ closed) :
    exec (.tripContactEdge u i closed) s = .next (s.setInput u i
      (if closed then { s.input u i with closed := closed }.closingEdge s.now (s.tiu.testMode.get u)
        else { s.input u i with closed := closed }.openingEdge s.now)) := by
  show Host.Outcome.next (ite _ _ _) = _
  rw [if_neg edge, if_pos powered]

/-- A step to the level that the contact has is no edge. -/
theorem execTripContactEdge_same (s : State) (u : UnitId) (i : InputId) :
    exec (.tripContactEdge u i (s.input u i).closed) s = .next s := by
  show Host.Outcome.next (ite _ _ _) = _
  rw [if_pos rfl]

/-- Settles O26: each edge by what the filter state makes of it. -/
theorem edgesAreStampedOrChatter : Obligations.EdgesAreStampedOrChatter := by
  intro s u i powered x more
  have closing (open_ : x.closed = false) : exec (.tripContactEdge u i true) s
      = .next (s.setInput u i ({ x with closed := true }.closingEdge s.now (s.tiu.testMode.get u))) :=
    execTripContactEdge_edge powered (by rw [open_]; decide)
  have opening (closed : x.closed = true) : exec (.tripContactEdge u i false) s
      = .next (s.setInput u i ({ x with closed := false }.openingEdge s.now)) :=
    execTripContactEdge_edge powered (by rw [closed]; decide)
  refine ⟨fun open_ idle enabled => ?_, fun closed asserted => ?_, fun p b closed pending => ?_,
    fun p open_ pending => ?_,
    fun open_ idle disabled => ?_, fun closed idle disabled => ?_, execTripContactEdge_same s u i⟩
  · simp only [closing open_, TripInput.closingEdge, idle, enabled, if_true, TripInput.takeSettings]
  · simp only [opening closed, TripInput.openingEdge, asserted, TripInput.takeSettings]
  · simp only [opening closed, TripInput.openingEdge, pending, TripInput.chatters]; rfl
  · simp only [closing open_, TripInput.closingEdge, pending, TripInput.chatters]; rfl
  · simp only [closing open_, TripInput.closingEdge, idle, disabled, TripInput.takeSettings]; rfl
  · simp only [opening closed, TripInput.openingEdge, idle, disabled, TripInput.takeSettings]; rfl

/-! ### Commands (R48, R53, R54) -/

/-- A request taken in RUN is answered as its block answers it (R177). -/
theorem next_serve {s t : State} (tk : Taken s) {code : Nat} {d : Bool} {act : State → State × Answer} {a : Answer}
    (e : act s = (t, a)) : (Host.Outcome.next (serve code d act s) : Result) = .next (sendReply code a t) := by
  rw [serve_taken tk, e]

theorem inputOf?_inputNumber {n : Nat} {i : InputId} (h : n = inputNumber i) : inputOf? n = some i := by
  subst h; cases i <;> rfl

theorem okOrClamped_two (a a' b b' : Nat) :
    okOrClamped (a != a' || b != b') = if a = a' ∧ b = b' then .ok else .clamped := by
  by_cases ha : a = a' <;> by_cases hb : b = b' <;> simp [okOrClamped, ha, hb]

theorem clamp_zero (high n : Nat) : clamp 0 high n = min n high := Nat.max_eq_right (Nat.zero_le _)

theorem inputBytes_length (x : InputSettings) : (inputBytes x).length = 5 := by simp [inputBytes]

/-- SET_INPUT with keys and codes that have a meaning (R53). -/
theorem askSetInput_eq {ku ki e c x : Nat} {u : UnitId} {i : InputId} {enable stops : Bool} {cls : TripClass}
    (hu : unitOf? ku = some u) (hi : inputOf? ki = some i) (he : flagOf? e = some enable)
    (hc : classOf? c = some cls) (hx : flagOf? x = some stops) (p n : Nat) (s : State) :
    let config : InputSettings :=
      { enable := enable, cls := cls, stops := stops, priority := min p 3, exponent := min n 5 }
    askSetInput ku ki e c x p n s = (s.setInput u i { s.input u i with config := config },
      { status := if min p 3 = p ∧ min n 5 = n then .ok else .clamped
        body := inputBytes config ++ inputBytes (s.input u i).inForce }) := by
  simp only [askSetInput, hu, hi, he, hc, hx, clamp_zero, okOrClamped_two]

/-- The body of a READ_INPUT reply (R54, R191). -/
def readInputBody (s : State) (u : UnitId) (i : InputId) : List Byte :=
  let t := s.input u i
  inputBytes t.config ++ inputBytes t.inForce ++ toBytes 1 (filterCode t.filter)
    ++ toBytes 1 t.filter.stamp.isSome.toNat ++ optStamp t.filter.stamp ++ toBytes 1 t.chatter
    ++ toBytes 1 t.closed.toNat ++ toBytes 1 (s.tiu.testMode.get u).toNat
    ++ toBytes 4 (longestFilter (s.tiu.inputs.get u))

theorem askReadInput_eq {ku ki f : Nat} {u : UnitId} {i : InputId} {clear : Bool} (hu : unitOf? ku = some u)
    (hi : inputOf? ki = some i) (hf : flagOf? f = some clear) (s : State) :
    askReadInput ku ki f s = (if clear then s.setInput u i { s.input u i with chatter := 0 } else s,
      { status := .ok, body := readInputBody s u i }) := by
  simp only [askReadInput, hu, hi, hf, readInputBody]

theorem readInputBody_length (s : State) (u : UnitId) (i : InputId) : (readInputBody s u i).length = 36 := by
  simp [readInputBody, inputBytes_length]

/-- The chatter count stands behind twenty-nine bytes of a READ_INPUT reply (R191). -/
theorem readInputBody_chatter (s : State) (u : UnitId) (i : InputId) :
    (readInputBody s u i).drop 29 = toBytes 1 (s.input u i).chatter ++ (readInputBody s u i).drop 30 := by
  simp [readInputBody, List.drop_append, inputBytes_length, List.drop_of_length_le]

/-- Settles O29: what each command answers, sent as the reply. -/
theorem inputCommandsConfigureAndRead : Obligations.InputCommandsConfigureAndRead := by
  intro s u i ku ki tk hku hki
  have hu := unitOf?_unitNumber hku
  have hi := inputOf?_inputNumber hki
  refine ⟨fun e c x p n cls he hc hx =>
      ⟨_, ?_, next_serve tk (askSetInput_eq hu hi (flagOf?_of_le he) hc (flagOf?_of_le hx) _ _ s)⟩,
    ⟨readInputBody s u i, readInputBody_length s u i, readInputBody_chatter s u i,
      next_serve tk (askReadInput_eq (clear := false) hu hi rfl s),
      next_serve tk (askReadInput_eq (clear := true) hu hi rfl s)⟩,
    fun f hf => next_serve tk (askReadInput_refused (.inr (.inr (.inr hf))) s)⟩
  simp [inputBytes_length]

/-- A reply sent from a state with the same link address answers the request and changes no record (R175, R185). -/
theorem sendReply_answered (code : Nat) (a : Answer) {s m : State} (address : m.lnu.address = s.lnu.address) :
    Answered code a s (sendReply code a m) ∧ SameRecords m (sendReply code a m) :=
  ⟨⟨rfl, by rw [← address]; rfl⟩, rfl⟩

/-- SET_TEST_MODE with a unit and a mode (R48). -/
theorem askSetTestMode_eq {k m : Nat} {u : UnitId} {test : Bool} (hu : unitOf? k = some u) (hm : flagOf? m = some test)
    (s : State) : askSetTestMode k m s = ({ s with tiu := { s.tiu with testMode := s.tiu.testMode.set u test } },
      { status := .ok, body := unitSetByte (s.tiu.testMode.set u test) }) := by
  simp only [askSetTestMode, hu, hm]

/-- SET_TEST_MODE with a unit or a mode out of range (R48, R176). -/
theorem askSetTestMode_refused {k m : Nat} (h : k = 0 ∨ 8 < k ∨ 1 < m) (s : State) :
    askSetTestMode k m s = (s, refuse .outOfRange) := by
  unfold askSetTestMode
  split
  · rename_i hk hm
    rcases h with h | h | h
    · rw [unitOf?_eq_none (.inl h)] at hk; cases hk
    · rw [unitOf?_eq_none (.inr h)] at hk; cases hk
    · rw [flagOf?_of_gt h] at hm; cases hm
  · rfl

/-- Settles O30: what SET_TEST_MODE answers in RUN, and what hold-up answers to it. -/
theorem setTestModeSetsTheUnit : Obligations.SetTestModeSetsTheUnit := by
  intro s k m listens
  refine ⟨fun run u hu hm => ?_, fun run refused => ?_, fun holdup => ?_⟩
  · have act := askSetTestMode_eq (unitOf?_unitNumber hu) (flagOf?_of_le hm) s
    exact ⟨_, next_serve ⟨listens, run⟩ act, sendReply_answered _ _ rfl⟩
  · have act := askSetTestMode_refused refused s
    exact ⟨_, congrArg Host.Outcome.next (serve_refused ⟨listens, run⟩ act), sendReply_answered _ _ rfl⟩
  · exact ⟨_, congrArg Host.Outcome.next (serve_holdup listens holdup), sendReply_answered _ _ rfl⟩

end Sys2Proof.Proofs
end

section
/-! PROOFS. Numbers not held: the first free number is free (R61, R83). -/

namespace Sys2Proof.Proofs

open Sys2Proof.Machine Sys2Proof.Safety

/-- The number some places on is as many higher, or has come round from 65,535 to 1 (R61). -/
theorem nextNumber_iterate (k n : Nat) : nextNumber^[k] n = n + k ∨ nextNumber^[k] n + 65535 ≤ n + k := by
  induction k with
  | zero => exact .inl rfl
  | succ k ih =>
    rw [Function.iterate_succ_apply', nextNumber]
    split <;> omega

theorem nextNumber_iterate_ne {i j n : Nat} (order : i < j) (few : j < 65535) :
    nextNumber^[i] n ≠ nextNumber^[j] n := by
  have split : nextNumber^[j] n = nextNumber^[j - i] (nextNumber^[i] n) := by
    rw [← Function.iterate_add_apply, Nat.sub_add_cancel order.le]
  have := nextNumber_iterate (j - i) (nextNumber^[i] n)
  omega

/-- The search ends at a number that is not held, or finds every number it tests held (R61). -/
theorem freeNumber_or (held : List Nat) (fuel n : Nat) :
    freeNumber held fuel n ∉ held ∨ ∀ k < fuel, nextNumber^[k] n ∈ held := by
  induction fuel generalizing n with
  | zero => exact .inr fun k none => absurd none (Nat.not_lt_zero k)
  | succ fuel ih =>
    rw [freeNumber]
    split
    · rename_i taken
      refine (ih (nextNumber n)).imp_right fun all k below => ?_
      cases k with
      | zero => exact taken
      | succ k => exact all k (Nat.lt_of_succ_lt_succ below)
    · rename_i free; exact .inl free

/-- With more tests than numbers held, the number found is not held (R61, R83). -/
theorem freeNumber_free {held : List Nat} {fuel : Nat} (n : Nat) (enough : held.length < fuel) (few : fuel ≤ 65535) :
    freeNumber held fuel n ∉ held := by
  refine (freeNumber_or held fuel n).resolve_right fun all => ?_
  have distinct : ((List.range fuel).map (nextNumber^[·] n)).Nodup := by
    refine (List.nodup_range).map_on fun i hi j hj same => ?_
    rw [List.mem_range] at hi hj
    by_contra ne
    rcases Nat.lt_or_gt_of_ne ne with order | order
    · exact nextNumber_iterate_ne order (by omega) same
    · exact nextNumber_iterate_ne order (by omega) same.symm
  have within : ((List.range fuel).map (nextNumber^[·] n)) ⊆ held := by
    intro m hm
    obtain ⟨k, hk, rfl⟩ := List.mem_map.mp hm
    exact all k (List.mem_range.mp hk)
  have := (distinct.subperm within).length_le
  rw [List.length_map, List.length_range] at this
  omega

/-! ### The numbers of the table -/

theorem mem_slotOrder (u : UnitId) (j : SlotId) : (u, j) ∈ slotOrder := by cases u <;> cases j <;> decide

theorem mem_cases {s : State} {c : Case} : c ∈ s.cases ↔ ∃ u j, s.slot u j = some c := by
  unfold State.cases
  rw [List.mem_filterMap]
  exact ⟨fun ⟨x, _, h⟩ => ⟨x.1, x.2, h⟩, fun ⟨u, j, h⟩ => ⟨(u, j), mem_slotOrder u j, h⟩⟩

theorem cases_length (s : State) : s.cases.length ≤ 32 := List.length_filterMap_le _ _

/-- The case that an assertion opens in a slot (R60 to R62). -/
def openedCase (a : Assertion) (i : SlotId) (s : State) : Case :=
  { number := freeNumber ((s.setSlot a.unit i none).cases.map (·.number)) 33 s.ct.counter
    unit := a.unit, input := a.input, cls := a.cls, state := .active, test := a.test,
    firstOut := false, provisional := false, releaseUnobserved := false, assertStamp := a.stamp,
    releaseStamp := none, repeats := 0, lastRetrip := none, groupId := 0, openedIn := s.shc.number,
    handovers := 0, ackBadge := none, clearBadge := none, snapMode := (s.unit a.unit).mode,
    snapGen := (s.account a.unit .gen).lifetime }

/-- The case opened takes a number that no other case holds (R61). -/
theorem openedCase_number (a : Assertion) (i : SlotId) (s : State) {v : UnitId} {l : SlotId} {c : Case}
    (h : s.slot v l = some c) (other : (v, l) ≠ (a.unit, i)) : c.number ≠ (openedCase a i s).number := by
  intro same
  have free : (openedCase a i s).number ∉ (s.setSlot a.unit i none).cases.map (·.number) :=
    freeNumber_free _ (by rw [List.length_map]; exact Nat.lt_succ_of_le (cases_length _)) (by decide)
  refine free (List.mem_map.mpr ⟨c, mem_cases.mpr ⟨v, l, ?_⟩, same⟩)
  rw [State.slot_setSlot, if_neg (by simpa using other), h]

/-- The slots after a case is opened (R60). -/
theorem openCase_slot (a : Assertion) (i : SlotId) (s : State) (v : UnitId) (l : SlotId) :
    (openCase a i s).slot v l = if v = a.unit ∧ l = i then some (openedCase a i s) else s.slot v l := by
  unfold openCase
  dsimp only
  rw [State.slot_congr (raiseFor_frame _ _ _).2.2.2.1, counter_slot, touchSlot_slot, State.slot_setSlot]
  split
  · rfl
  · rename_i other; rw [State.slot_setSlot, if_neg other]

/-- The case sets after a case is opened: its own unit's is accessed at the slot (R70). -/
theorem openCase_caseSet (a : Assertion) (i : SlotId) (s : State) :
    (openCase a i s).caseSet a.unit
        = { (s.caseSet a.unit).touch i with slots := ((openCase a i s).caseSet a.unit).slots }
      ∧ ∀ v, v ≠ a.unit → (openCase a i s).caseSet v = s.caseSet v := by
  have ct : (openCase a i s).ct.sets
      = (touchSlot a.unit i ((s.setSlot a.unit i none).setSlot a.unit i (some (openedCase a i s)))).ct.sets := rfl
  unfold State.caseSet
  rw [ct]
  refine ⟨?_, fun v other => ?_⟩
  · simp only [touchSlot, State.setSlot, State.setCaseSet, State.caseSet, PerUnit.get_set, if_true]
    cases i <;> rfl
  · simp only [touchSlot, State.setSlot, State.setCaseSet, State.caseSet, PerUnit.get_set, if_neg other]

theorem openCase_ct (a : Assertion) (i : SlotId) (s : State) :
    (openCase a i s).ct.counter = nextNumber (openedCase a i s).number
      ∧ (openCase a i s).ct.overflow = s.ct.overflow := ⟨rfl, rfl⟩

end Sys2Proof.Proofs
end

section
/-! PROOFS. Notices raised stay raised through what a trip and a start do (R179). -/

namespace Sys2Proof.Proofs

open Sys2Proof.Machine Sys2Proof.Safety

/-- Every flag that is set, and every unit in the unit set of a trip notice, stays (R179). -/
structure NoticesStay (s t : State) : Prop where
  flags : ∀ n, s.lnu.flags.get n = true → t.lnu.flags.get n = true
  newCase : ∀ u, s.lnu.unitSets.newCase.get u = true → t.lnu.unitSets.newCase.get u = true
  firstOutFinal : ∀ u, s.lnu.unitSets.firstOutFinal.get u = true → t.lnu.unitSets.firstOutFinal.get u = true
  overflow : ∀ u, s.lnu.unitSets.overflow.get u = true → t.lnu.unitSets.overflow.get u = true

namespace NoticesStay

theorem of_eq {s t : State} (flags : t.lnu.flags = s.lnu.flags) (sets : t.lnu.unitSets = s.lnu.unitSets) :
    NoticesStay s t := by
  constructor <;> simp [flags, sets]

theorem of_lnu {s t : State} (h : t.lnu = s.lnu) : NoticesStay s t := of_eq (by rw [h]) (by rw [h])

theorem refl (s : State) : NoticesStay s s := of_lnu rfl

theorem trans {s t u : State} (h : NoticesStay s t) (h' : NoticesStay t u) : NoticesStay s u where
  flags n := h'.flags n ∘ h.flags n
  newCase v := h'.newCase v ∘ h.newCase v
  firstOutFinal v := h'.firstOutFinal v ∘ h.firstOutFinal v
  overflow v := h'.overflow v ∘ h.overflow v

/-- The later step first, so that the state between is read from it. -/
theorem after {s t u : State} (h' : NoticesStay t u) (h : NoticesStay s t) : NoticesStay s u := h.trans h'

theorem foldl {α : Type} {f : State → α → State} (h : ∀ s x, NoticesStay s (f s x)) (l : List α) (s : State) :
    NoticesStay s (l.foldl f s) := by
  induction l generalizing s with
  | nil => exact refl s
  | cons x l ih => exact (h s x).trans (ih _)

theorem raise (n : Notice) (s : State) : NoticesStay s (raise n s) where
  flags m h := by
    rw [raise_flags, PerNotice.get_set]
    split
    · rfl
    · exact h
  newCase _ := id
  firstOutFinal _ := id
  overflow _ := id

theorem raiseFor (n : Notice) (u : UnitId) (s : State) : NoticesStay s (raiseFor n u s) := by
  have sets : (Machine.raiseFor n u s).lnu.unitSets = s.lnu.unitSets.add n u := rfl
  have added {p : PerUnit Bool} {v : UnitId} (h : p.get v = true) : (p.set u true).get v = true := by
    rw [PerUnit.get_set]
    split
    · rfl
    · exact h
  have flags (m : Notice) (h : s.lnu.flags.get m = true) : (Machine.raiseFor n u s).lnu.flags.get m = true := by
    by_cases own : m = n
    · rw [own]; exact (PerNotice.get_set _ _ _ _).trans (if_pos rfl)
    · rw [raiseFor_flag own, h]
  refine ⟨flags, ?_, ?_, ?_⟩ <;> intro v h <;> rw [sets] <;> cases n <;> first | exact h | exact added h

/-! ### The accounts and the store (R114 to R121, R137 to R147) -/

theorem requestQueue (u : UnitId) (k : Kind) (s : State) : NoticesStay s (requestQueue u k s) := by
  unfold Machine.requestQueue
  split
  · exact refl s
  · split
    · exact of_lnu rfl
    · exact after (raise _ _) (of_lnu rfl)

theorem increment (u : UnitId) (k : Kind) (s : State) : NoticesStay s (increment u k s) := by
  have change (s : State) : NoticesStay s (countChange u k s) := by
    unfold countChange queueChange
    (repeat' split) <;> first | exact requestQueue u k s | exact of_lnu rfl
  simp only [Machine.increment]
  (repeat' split) <;> first
    | exact of_lnu rfl
    | exact after (change _) (of_lnu rfl)

theorem takeTrigger (s : State) : NoticesStay s (takeTrigger s) := of_lnu (by simp)

theorem commitEnd (done : Bool) (s : State) : NoticesStay s (commitEnd done s) := by
  have rest (s : State) : NoticesStay s (takeRecommit (takeFreeze s)) := of_lnu (by simp)
  have faulted (c : Bool) (s : State) : NoticesStay s (if c = true then Machine.raise .storeFault s else s) := by
    split
    · exact raise _ s
    · exact refl s
  exact after (rest _) (after (raise _ _) (after (faulted _ _) (of_lnu rfl)))

theorem serveStore (s : State) : NoticesStay s (serveStore s) := by
  have choose (fuel : Nat) (s : State) : NoticesStay s (chooseNext fuel s) := by
    induction fuel generalizing s with
    | zero => exact refl s
    | succ n ih =>
      unfold chooseNext
      dsimp only
      (repeat' split) <;> first
        | exact of_lnu rfl
        | exact after (ih _) (after (commitEnd _ _) (of_lnu rfl))
  exact choose 3 s

theorem commitTrigger (s : State) : NoticesStay s (commitTrigger s) := (takeTrigger s).trans (serveStore _)

theorem countOne (u : UnitId) (k : Kind) (s : State) : NoticesStay s (countOne u k s) :=
  (increment u k s).trans (serveStore _)

theorem resumeLoad (s : State) : NoticesStay s (resumeLoad s) := by
  have recommit (s : State) : NoticesStay s (takeRecommit s) := of_lnu (by simp)
  unfold Machine.resumeLoad loadNextRead endLoad
  (repeat' split) <;> first
    | exact of_lnu rfl
    | exact after (serveStore _) (after (recommit _) (of_lnu rfl))

theorem holdupIfAsserted (s : State) : NoticesStay s (holdupIfAsserted s) := by
  unfold Machine.holdupIfAsserted enterHoldup
  split
  · exact after (commitTrigger _) (after (raise _ _) (of_lnu rfl))
  · exact refl s

/-! ### The cases and the groups (R58 to R92) -/

theorem closeGroup (u : UnitId) (r : CloseReason) (s : State) : NoticesStay s (closeGroup u r s) := by
  unfold Machine.closeGroup
  split
  · exact refl s
  · exact after (raiseFor _ _ _) (of_lnu rfl)

theorem report (us : List UnitId) (s : State) : NoticesStay s (report us s) := of_lnu (by simp)

theorem caseLamp (s : State) : NoticesStay s (evalCaseLamp s) := of_eq (by simp) (by simp)

theorem placeByOpening (a : Assertion) (n : Nat) (s : State) : NoticesStay s (placeByOpening a n s) := by
  have opened : NoticesStay s (openGroup a n s) := of_lnu (by simp)
  have tripped (s : State) : NoticesStay s (tripIfStops a s) := of_lnu (by simp)
  exact (opened.trans (countOne _ _ _)).trans (tripped _)

theorem placeCase (a : Assertion) (n held : Nat) (s : State) : NoticesStay s (placeCase a n held s) := by
  have due (s : State) : NoticesStay s (closeIfDue a.unit s) := by
    unfold closeIfDue
    (repeat' split) <;> first | exact refl s | exact closeGroup _ _ s
  unfold Machine.placeCase
  split
  · exact refl s
  · split
    · exact placeByOpening a n s
    · split
      · exact .trans (of_lnu (by split <;> simp)) (due _)
      · exact (closeGroup _ _ s).trans (placeByOpening a n _)

theorem openCase (a : Assertion) (i : SlotId) (s : State) : NoticesStay s (openCase a i s) :=
  after (raiseFor _ _ _) (of_lnu rfl)

theorem retripCase (a : Assertion) (i : SlotId) (c : Case) (s : State) : NoticesStay s (retripCase a i c s) :=
  after (raiseFor _ _ _) (of_lnu rfl)

theorem overflowAssertion (a : Assertion) (s : State) : NoticesStay s (overflowAssertion a s) := by
  refine .trans ?_ (raiseFor _ _ _)
  split <;> exact of_lnu rfl

theorem takeAssertion (a : Assertion) (s : State) : NoticesStay s (takeAssertion a s) := by
  have result : NoticesStay s (assertionResult a s) := by
    simp only [assertionResult]
    (repeat' split)
    · exact (openCase a _ s).trans (placeCase a _ _ _)
    · exact overflowAssertion a s
    · exact (retripCase a _ _ s).trans (placeCase a _ _ _)
    · exact overflowAssertion a s
  exact after (caseLamp _) (after (report _ _) result)

theorem takeRelease (u : UnitId) (i : InputId) (x : Option Stamp) (s : State) :
    NoticesStay s (takeRelease u i x s) := by
  unfold Machine.takeRelease
  (repeat' split) <;> first
    | exact refl s
    | exact after (caseLamp _) (after (report _ _) (of_lnu rfl))

/-! ### The start (R51, R130, R197) -/

theorem handOnRestart (x : Stamp) (s : State) (y : UnitId × InputId) : NoticesStay s (handOnRestart x s y) := by
  simp only [Machine.handOnRestart]
  (repeat' split) <;> first
    | exact refl s
    | exact takeAssertion _ s
    | exact takeRelease _ _ _ s

theorem restartInputs (s : State) : NoticesStay s (restartInputs s) :=
  after (foldl (handOnRestart s.now) inputOrder _) (of_lnu rfl)

theorem warmAccount (s : State) (x : UnitId × Kind) : NoticesStay s (warmAccount s x) := by
  simp only [Machine.warmAccount]
  (repeat' split) <;> first
    | exact of_lnu rfl
    | exact after (requestQueue _ _ _) (of_lnu rfl)

theorem warmAccounts (s : State) : NoticesStay s (warmAccounts s) := foldl warmAccount walkOrder s

theorem handoverLamp (s : State) : NoticesStay s (evalHandoverLamp s) := of_eq (by simp) (by simp)

theorem crossPoint (s : State) (x : Point × Nat) : NoticesStay s (crossPoint s x) := by
  unfold Machine.crossPoint crossOpening crossDue crossOverdue openWindow
  (repeat' split) <;> first
    | exact of_lnu rfl
    | exact after (handoverLamp _) (after (raise _ _) (of_lnu rfl))

theorem takeTimeOfDay (s : State) : NoticesStay s (takeTimeOfDay s) := by
  have crossed : NoticesStay s (crossPoints s) := by
    unfold crossPoints
    split
    · exact foldl crossPoint _ s
    · exact refl s
  exact after (of_lnu (seeTime_frame _ _ _).2.2.2.2.2.2.2.2.1) crossed

theorem warmShift (s : State) : NoticesStay s (warmShift s) := by
  have presence (s : State) : NoticesStay s (restartPresence s) :=
    of_eq (by simp [restartPresence]) (by simp [restartPresence])
  have taken := takeTimeOfDay s
  simp only [Machine.warmShift]
  split
  · exact taken.trans (presence _)
  · exact taken

theorem driveOutputs (s : State) : NoticesStay s (driveOutputs s) :=
  of_eq (by simp [Machine.driveOutputs]) (by simp [Machine.driveOutputs])

theorem startEnded (s : State) : NoticesStay s (startEnded s) :=
  after (driveOutputs _) (after (raise _ _) (warmShift s))

theorem startStored (s : State) : NoticesStay s (startStored s) :=
  ((resumeLoad s).trans (commitTrigger _)).trans (holdupIfAsserted _)

end NoticesStay

end Sys2Proof.Proofs
end

section
/-! PROOFS. A confirmed release, and a confirmed assertion that opens a case (R42, R44, R58 to R64, R70, R73). -/

namespace Sys2Proof.Proofs

open Sys2Proof.Machine Sys2Proof.Safety

/-! ### The confirmations (R42, R44) -/

theorem execReleaseConfirmation_due {s : State} {u : UnitId} {i : InputId} {p : Stamp} (powered : s.powered = true)
    (pending : (s.input u i).filter = .pendingRelease p)
    (due : p.elapsed + 5000 * 2 ^ (s.input u i).inForce.exponent ≤ s.elapsed) :
    exec (.releaseConfirmation u i) s
      = .next (takeRelease u i (some p) (s.setInput u i { s.input u i with filter := .idle })) := by
  have reached : s.reached ((s.input u i).confirmAt p) = true := decide_eq_true due
  simp only [exec, execReleaseConfirmation, releaseDue, pending, powered, reached, Bool.and_self, if_true]

theorem execAssertionConfirmation_due {s : State} {u : UnitId} {i : InputId} {p : Stamp} {test : Bool}
    (powered : s.powered = true) (pending : (s.input u i).filter = .pendingAssert p test)
    (due : p.elapsed + 5000 * 2 ^ (s.input u i).inForce.exponent ≤ s.elapsed) :
    exec (.assertionConfirmation u i) s = .next (takeAssertion ((s.input u i).assertion u i p test)
      (s.setInput u i { s.input u i with filter := .asserted })) := by
  have reached : s.reached ((s.input u i).confirmAt p) = true := decide_eq_true due
  simp only [exec, execAssertionConfirmation, assertionDue, pending, powered, reached, Bool.and_self, if_true]

/-- The case that stands for an input is not CLEARED and stands in its slot (R55). -/
theorem inputCase_slot {s : State} {u : UnitId} {i : InputId} {j : SlotId} {c : Case}
    (h : s.inputCase u i = some (j, c)) : s.slot u j = some c ∧ c.input = i ∧ c.state ≠ .cleared := by
  obtain ⟨l, -, hl⟩ := List.exists_of_findSome?_eq_some h
  cases slot : s.slot u l with
  | none => rw [slot] at hl; cases hl
  | some d =>
    simp only [slot] at hl
    split at hl
    · rename_i own
      obtain ⟨rfl, rfl⟩ := Prod.mk.inj (Option.some.inj hl)
      exact ⟨slot, own⟩
    · cases hl

/-! ### The release (R44, R64) -/

theorem takeRelease_of_asserted {s : State} {u : UnitId} {i : InputId} {j : SlotId} {c : Case}
    (h : s.inputCase u i = some (j, c)) (asserted : c.asserted = true) (x : Option Stamp) :
    takeRelease u i x s = evalCaseLamp (report [u] (s.setSlot u j (some (c.released x)))) := by
  simp only [takeRelease, h, asserted, if_true]

theorem takeRelease_of_not {s : State} {u : UnitId} {i : InputId}
    (h : ∀ j c, s.inputCase u i = some (j, c) → c.asserted = false) (x : Option Stamp) : takeRelease u i x s = s := by
  unfold takeRelease
  split
  · rename_i found; rw [h _ _ found]; rfl
  · rfl

theorem asserted_iff (c : Case) : c.asserted = true ↔ IsAsserted c := by simp [Case.asserted, IsAsserted]

theorem report_shc (us : List UnitId) (s : State) :
    (report us s).shc = { s.shc with version := (s.shc.version + 1) % 65536 } := by
  have : (report us s).shc = (bumpVersion s).shc := by simp [report]
  exact this

theorem report_only (us : List UnitId) (s : State) :
    report us s = { s with usm := (report us s).usm, shc := (report us s).shc } := by
  obtain ⟨tb, riu, tiu, ct, tgr, rha, asc, lnu, spm, pending⟩ := report_frame us s
  exact State.ext tb riu tiu ct tgr rfl rha asc rfl lnu spm pending

/-- A case written to one slot, reported, and shown by the case lamp (R73, R74). -/
theorem reported_slot (u : UnitId) (j : SlotId) (c : Case) (s : State) :
    let t := evalCaseLamp (report [u] (s.setSlot u j (some c)))
    t.slot u j = some c ∧ OnlySlot u j s t ∧ OnlyReported u s t ∧ t.lnu.flags = s.lnu.flags
      ∧ t.shc = { s.shc with version := (s.shc.version + 1) % 65536 }
      ∧ t = { s with ct := t.ct, usm := t.usm, shc := t.shc, lnu := t.lnu } := by
  intro t
  have reported := report_one u (s.setSlot u j (some c))
  obtain ⟨-, -, -, ct, -⟩ := report_frame [u] (s.setSlot u j (some c))
  have slots (v : UnitId) (k : SlotId) : t.slot v k = if v = u ∧ k = j then some c else s.slot v k :=
    (State.slot_congr ct v k).trans (State.slot_setSlot s u v j k (some c))
  refine ⟨by rw [slots, if_pos ⟨rfl, rfl⟩], ⟨fun v k other => by rw [slots, if_neg (by simpa using other)], ?_, ?_⟩,
    reported, ?_, report_shc _ _, ?_⟩
  · exact congrArg (·.overflow) ct
  · exact congrArg (·.counter) ct
  · simp [t]
  · have only := report_only [u] (s.setSlot u j (some c))
    simp only [t]
    rw [only]
    rfl

/-- Settles O28: the release writes the one case and reports it. -/
theorem confirmedReleaseLatchesTheCase : Obligations.ConfirmedReleaseLatchesTheCase := by
  intro s u i p powered pending due
  rw [execReleaseConfirmation_due powered pending due]
  have same : State.inputCase (s.setInput u i { s.input u i with filter := .idle }) u i = s.inputCase u i :=
    inputCase_congr rfl u i
  refine ⟨fun j c found asserted => ⟨_, rfl, ?_⟩, fun settled => congrArg Host.Outcome.next ?_⟩
  · rw [takeRelease_of_asserted (same.trans found) ((asserted_iff c).mpr asserted)]
    obtain ⟨slot, only, reported, flags, shc, rest⟩ :=
      reported_slot u j (c.released (some p)) (s.setInput u i { s.input u i with filter := .idle })
    generalize evalCaseLamp _ = t at *
    have tiu : t.tiu = _ := congrArg (·.tiu) rest
    exact ⟨slot, only, reported, tiu, flags, shc, rest.trans (by rw [tiu]; rfl)⟩
  · refine takeRelease_of_not (fun j c found => ?_) (some p)
    rcases settled j c (same ▸ found) with h | h <;> simp [Case.asserted, h]

end Sys2Proof.Proofs
end

section
/-! PROOFS. What the placing of a trip in its group writes to the Case Table: marks and group ids, and nothing else
(R83 to R90); and the case that a confirmed assertion opens. -/

namespace Sys2Proof.Proofs

open Sys2Proof.Machine Sys2Proof.Safety

/-! ### Marks and group ids -/

/-- Two cases agree but for the group id, the FIRST_OUT mark and the PROVISIONAL mark. -/
def SameButGroup (c d : Case) : Prop :=
  d = { c with groupId := d.groupId, firstOut := d.firstOut, provisional := d.provisional }

theorem SameButGroup.refl (c : Case) : SameButGroup c c := rfl

theorem SameButGroup.trans {c d e : Case} (h : SameButGroup c d) (h' : SameButGroup d e) : SameButGroup c e := by
  unfold SameButGroup at *; rw [h', h]

theorem SameButGroup.number {c d : Case} (h : SameButGroup c d) : d.number = c.number := by rw [h]

/-- A case after a placing: only the case placed may take another group id (R84, R86). -/
structure Remarked (n : Nat) (c d : Case) : Prop where
  same : SameButGroup c d
  group : c.number ≠ n → d.groupId = c.groupId

/-- What becomes of each case of a unit, slot by slot. -/
def EachCase (R : Case → Case → Prop) (s t : State) (u : UnitId) : Prop :=
  ∀ j, (∀ c, s.slot u j = some c → ∃ d, t.slot u j = some d ∧ R c d) ∧ (s.slot u j = none → t.slot u j = none)

theorem EachCase.origin {R : Case → Case → Prop} {s t : State} {u : UnitId} (h : EachCase R s t u) {j : SlotId}
    {d : Case} (hd : t.slot u j = some d) : ∃ c, s.slot u j = some c ∧ R c d := by
  cases slot : s.slot u j with
  | none => rw [(h j).2 slot] at hd; cases hd
  | some c =>
    obtain ⟨d', hd', r⟩ := (h j).1 c slot
    rw [hd] at hd'
    exact ⟨c, rfl, Option.some.inj hd' ▸ r⟩

theorem EachCase.of_ct {R : Case → Case → Prop} (refl : ∀ c, R c c) {s t : State} (h : t.ct = s.ct) (u : UnitId) :
    EachCase R s t u := by
  intro j
  rw [State.slot_congr h]
  exact ⟨fun c hc => ⟨c, hc, refl c⟩, id⟩

theorem EachCase.trans {R R' R'' : Case → Case → Prop} (comp : ∀ c d e, R c d → R' d e → R'' c e) {s t r : State}
    {u : UnitId} (h : EachCase R s t u) (h' : EachCase R' t r u) : EachCase R'' s r u := by
  intro j
  refine ⟨fun c hc => ?_, fun none => (h' j).2 ((h j).2 none)⟩
  obtain ⟨d, hd, r⟩ := (h j).1 c hc
  obtain ⟨e, he, r'⟩ := (h' j).1 d hd
  exact ⟨e, he, comp c d e r r'⟩

theorem EachCase.imp {R R' : Case → Case → Prop} {s t : State} {u : UnitId} (h : EachCase R s t u)
    (imp : ∀ c d, R c d → R' c d) : EachCase R' s t u :=
  fun j => ⟨fun c hc => ((h j).1 c hc).imp fun _ r => ⟨r.1, imp _ _ r.2⟩, (h j).2⟩

/-- A change to the case of a number, slot by slot. -/
theorem updateCase_slot (u : UnitId) (n : Nat) (f : Case → Case) (s : State) (v : UnitId) (j : SlotId) :
    (updateCase u n f s).slot v j
      = if v = u then (s.slot u j).map fun c => if c.number = n then f c else c else s.slot v j := by
  simp only [State.slot, updateCase, State.caseSet_setCaseSet]
  split
  · rw [PerSlot.get_map]
  · rfl

/-- The Case Table after a placing of the case of a number in a unit (R84 to R90). -/
structure Marked (u : UnitId) (n : Nat) (s t : State) : Prop where
  elsewhere : ∀ v, v ≠ u → t.caseSet v = s.caseSet v
  bits : t.caseSet u = { s.caseSet u with slots := (t.caseSet u).slots }
  cases : EachCase (Remarked n) s t u
  overflow : t.ct.overflow = s.ct.overflow
  counter : t.ct.counter = s.ct.counter

namespace Marked

variable {u : UnitId} {n : Nat} {s t r : State}

theorem of_ct (h : t.ct = s.ct) : Marked u n s t where
  elsewhere v _ := State.caseSet_congr h v
  bits := by rw [State.caseSet_congr h]
  cases := .of_ct (fun c => ⟨.refl c, fun _ => rfl⟩) h u
  overflow := by rw [h]
  counter := by rw [h]

theorem trans (h : Marked u n s t) (h' : Marked u n t r) : Marked u n s r where
  elsewhere v other := (h'.elsewhere v other).trans (h.elsewhere v other)
  bits := by rw [h'.bits, h.bits]
  cases := h.cases.trans (fun c d e r r' => ⟨r.same.trans r'.same, fun other =>
    (r'.group (r.same.number ▸ other)).trans (r.group other)⟩) h'.cases
  overflow := h'.overflow.trans h.overflow
  counter := h'.counter.trans h.counter

/-- The later step first, so that the state between is read from it. -/
theorem after (h' : Marked u n t r) (h : Marked u n s t) : Marked u n s r := h.trans h'

theorem updateCase {m : Nat} {f : Case → Case} (h : ∀ c, c.number = m → Remarked n c (f c)) (s : State) :
    Marked u n s (updateCase u m f s) where
  elsewhere v other := by rw [Machine.updateCase, State.caseSet_setCaseSet, if_neg other]
  bits := by simp only [Machine.updateCase, State.caseSet_setCaseSet, if_true]
  cases j := by
    rw [updateCase_slot, if_pos rfl]
    refine ⟨fun c hc => ⟨_, by rw [hc, Option.map_some], ?_⟩, fun none => by rw [none, Option.map_none]⟩
    split
    · rename_i own; exact h c own
    · exact ⟨.refl c, fun _ => rfl⟩
  overflow := rfl
  counter := rfl

theorem closeGroup (v : CloseReason) (s : State) : Marked u n s (closeGroup u v s) := by
  unfold Machine.closeGroup
  split
  · exact of_ct rfl
  · rename_i g _
    exact (updateCase (m := g.firstOut) (f := fun c => { c with provisional := false })
      (fun _ _ => ⟨rfl, fun _ => rfl⟩) s).trans (of_ct rfl)

theorem setGroup (v : UnitId) (g : Option OpenGroup) (s : State) : Marked u n s (setGroup v g s) := of_ct rfl

theorem openGroup (a : Assertion) (n : Nat) (s : State) : Marked a.unit n s (openGroup a n s) := by
  unfold Machine.openGroup
  refine after (updateCase ?_ _) (of_ct rfl)
  exact fun _ own => ⟨rfl, fun other => absurd own other⟩

theorem joinGroup (a : Assertion) (n : Nat) (g : OpenGroup) (s : State) : Marked a.unit n s (joinGroup a n g s) := by
  unfold Machine.joinGroup
  dsimp only
  split
  · refine after (setGroup _ _ _) (after (updateCase ?own _) (updateCase ?first _))
    case own => exact fun _ own => ⟨rfl, fun other => absurd own other⟩
    case first => exact fun _ _ => ⟨rfl, fun _ => rfl⟩
  · refine after (setGroup _ _ _) (updateCase ?_ _)
    exact fun _ own => ⟨rfl, fun other => absurd own other⟩

theorem tripIfStops (a : Assertion) (s : State) : Marked u n s (tripIfStops a s) := of_ct (by simp)

theorem placeByOpening (a : Assertion) (n : Nat) (s : State) : Marked a.unit n s (placeByOpening a n s) := by
  have counted (s : State) : Marked a.unit n s (countOne a.unit .trips s) := of_ct (by simp)
  exact after (tripIfStops a _) (after (counted _) (openGroup a n s))

theorem placeCase (a : Assertion) (n held : Nat) (s : State) : Marked a.unit n s (placeCase a n held s) := by
  have due (s : State) : Marked a.unit n s (closeIfDue a.unit s) := by
    unfold closeIfDue
    split
    · split
      · exact closeGroup _ s
      · exact of_ct rfl
    · exact of_ct rfl
  have joined (g : OpenGroup) : Marked a.unit n s (if held = g.id then s else Machine.joinGroup a n g s) := by
    split
    · exact of_ct rfl
    · exact joinGroup a n g s
  unfold Machine.placeCase
  split
  · exact of_ct rfl
  · split
    · exact placeByOpening a n s
    · rename_i g _
      split
      · exact after (due _) (after (tripIfStops a _) (joined g))
      · exact after (placeByOpening a n _) (closeGroup _ s)

end Marked

/-! ### Only the assertion's own unit changes -/

theorem tripIfStops_unit (a : Assertion) (s : State) {v : UnitId} (h : v ≠ a.unit) :
    (tripIfStops a s).unit v = s.unit v := by
  unfold tripIfStops
  split
  · rw [setTripped, State.unit_setUnit, if_neg h]
  · rfl

theorem placeCase_unit (a : Assertion) (n held : Nat) (s : State) {v : UnitId} (h : v ≠ a.unit) :
    (placeCase a n held s).unit v = s.unit v := by
  have opening (s : State) : (placeByOpening a n s).unit v = s.unit v := by
    rw [placeByOpening, tripIfStops_unit a _ h]
    have usm : (countOne a.unit .trips (openGroup a n s)).usm = s.usm := by simp
    rw [State.unit_congr usm]
  unfold placeCase
  split
  · rfl
  · split
    · exact opening s
    · rename_i g _
      split
      · have due (s : State) : (closeIfDue a.unit s).usm = s.usm := by simp
        rw [State.unit_congr (due _), tripIfStops_unit a _ h]
        split
        · rfl
        · have usm : (joinGroup a n g s).usm = s.usm := by simp
          rw [State.unit_congr usm]
      · have usm : (closeGroup a.unit .superseded s).usm = s.usm := by simp
        rw [opening, State.unit_congr usm]

/-! ### The case opened (R58 to R62) -/

/-- An assertion without a case, on a unit whose set gives a slot, opens one there and places it (R58, R60). -/
theorem takeAssertion_opens {a : Assertion} {j : SlotId} {s : State} (new : s.inputCase a.unit a.input = none)
    (free : (s.caseSet a.unit).allocate = some j) :
    takeAssertion a s = evalCaseLamp (report [a.unit]
      (placeCase a (openedCase a j s).number 0 (openCase a j s))) := by
  have number : slotNumber (openCase a j s) a.unit j = (openedCase a j s).number := by
    rw [slotNumber, openCase_slot, if_pos ⟨rfl, rfl⟩]; rfl
  simp only [takeAssertion, assertionResult, new, free, number]

theorem openCase_newCase (a : Assertion) (j : SlotId) (s : State) :
    (openCase a j s).lnu.flags.newCase = true ∧ (openCase a j s).lnu.unitSets.newCase.get a.unit = true :=
  ⟨rfl, (PerUnit.get_set _ _ _ _).trans (if_pos rfl)⟩

/-- What the report of an assertion's change and the case lamp leave (R73, R74). -/
theorem reported_blocks (u : UnitId) (p : State) :
    let t := evalCaseLamp (report [u] p)
    t.ct = p.ct ∧ t.tgr = p.tgr ∧ t.rha = p.rha ∧ t.asc = p.asc ∧ t.lnu.flags = p.lnu.flags
      ∧ t.lnu.unitSets = p.lnu.unitSets ∧ t.shc = { p.shc with version := (p.shc.version + 1) % 65536 }
      ∧ ∀ v, v ≠ u → t.unit v = p.unit v := by
  obtain ⟨-, -, -, ct, tgr, rha, asc, lnu, -⟩ := report_frame [u] p
  exact ⟨ct, tgr, rha, asc, congrArg (·.flags) lnu, congrArg (·.unitSets) lnu, report_shc _ _,
    (report_one u p).2.2.1⟩

/-- Settles O27: the case is opened in its slot, the placing in a group changes marks alone, and the change is
reported. -/
theorem confirmedAssertionOpensACase : Obligations.ConfirmedAssertionOpensACase := by
  intro s u i p test j powered pending due new free
  rw [execAssertionConfirmation_due powered pending due]
  generalize ha : (s.input u i).assertion u i p test = a
  obtain rfl : a.unit = u := by rw [← ha]; rfl
  obtain rfl : a.input = i := by rw [← ha]; rfl
  have cls : a.cls = (s.input a.unit a.input).inForce.cls := by rw [← ha]; rfl
  obtain rfl : a.stamp = p := by rw [← ha]; rfl
  obtain rfl : a.test = test := by rw [← ha]; rfl
  clear ha
  set m := s.setInput a.unit a.input { s.input a.unit a.input with filter := .asserted }
  have taken := takeAssertion_opens (s := m) ((inputCase_congr rfl _ _).trans new) free
  have marked := Marked.placeCase a (openedCase a j m).number 0 (openCase a j m)
  have notices := NoticesStay.placeCase a (openedCase a j m).number 0 (openCase a j m)
  have units := fun v (h : v ≠ a.unit) => placeCase_unit a (openedCase a j m).number 0 (openCase a j m) h
  have shc := (placeCase_frame a (openedCase a j m).number 0 (openCase a j m)).2.2.2.1
  have opened := openCase_slot a j m
  obtain ⟨bits, sets⟩ := openCase_caseSet a j m
  obtain ⟨newCase, newCaseOf⟩ := openCase_newCase a j m
  obtain ⟨counter, overflow⟩ := openCase_ct a j m
  obtain ⟨-, -, -, -, usm, -, -, shc', -⟩ := openCase_frame a j m
  obtain ⟨tb, riu, tiu, spm, pending', -⟩ := takeAssertion_frame a m
  have other (k : SlotId) (h : k ≠ j) : (openCase a j m).slot a.unit k = s.slot a.unit k := by
    rw [opened, if_neg fun both => h both.2]; rfl
  generalize openCase a j m = o at *
  generalize placeCase a _ 0 o = q at *
  obtain ⟨ct, -, -, -, flags, unitSets, shc'', rest⟩ := reported_blocks a.unit q
  rw [← taken] at ct flags unitSets shc'' rest
  generalize takeAssertion a m = t at *
  obtain ⟨c, slot, same, -⟩ := (marked.cases j).1 (openedCase a j m) (by rw [opened, if_pos ⟨rfl, rfl⟩])
  have field {α : Type} (f : Case → α)
      (h : ∀ x g b b', f { x with groupId := g, firstOut := b, provisional := b' } = f x) :
      f c = f (openedCase a j m) := by rw [same, h]
  refine ⟨t, c, rfl, (State.slot_congr ct _ _).trans slot, field (·.number) fun _ _ _ _ => rfl, ?counter,
    field (·.unit) fun _ _ _ _ => rfl, field (·.input) fun _ _ _ _ => rfl, field (·.state) fun _ _ _ _ => rfl,
    field (·.test) fun _ _ _ _ => rfl, (field (·.cls) fun _ _ _ _ => rfl).trans cls,
    field (·.assertStamp) fun _ _ _ _ => rfl,
    field (·.releaseStamp) fun _ _ _ _ => rfl, field (·.lastRetrip) fun _ _ _ _ => rfl,
    field (·.releaseUnobserved) fun _ _ _ _ => rfl, field (·.repeats) fun _ _ _ _ => rfl,
    field (·.openedIn) fun _ _ _ _ => rfl, field (·.handovers) fun _ _ _ _ => rfl,
    field (·.ackBadge) fun _ _ _ _ => rfl, field (·.clearBadge) fun _ _ _ _ => rfl,
    field (·.snapMode) fun _ _ _ _ => rfl, field (·.snapGen) fun _ _ _ _ => rfl, ?filter, ?flag, ?set, ?version,
    fun v h => ⟨?sets, ?units⟩, fun k h none => ?empty, fun k d h held => ?others, ?bits, ?overflow, ?rest⟩
  case counter =>
    rw [congrArg (·.counter) ct, marked.counter, counter, nextNumber, field (·.number) fun _ _ _ _ => rfl]
  case filter =>
    rw [State.input_congr tiu]
    simp [m]
  case flag => rw [flags]; exact notices.flags .newCase newCase
  case set => rw [unitSets]; exact notices.newCase _ newCaseOf
  case version => rw [shc'', shc, shc']; rfl
  case sets => rw [State.caseSet_congr ct, marked.elsewhere v h, sets v h]; rfl
  case units => rw [rest v h, units v h, State.unit_congr usm]; rfl
  case empty =>
    rw [State.slot_congr ct]
    exact (marked.cases k).2 ((other k h).trans none)
  case others =>
    obtain ⟨d', hd', r⟩ := (marked.cases k).1 d ((other k h).trans held)
    have fresh := openedCase_number a j m (v := a.unit) (l := k) held (by simpa using h)
    have same := r.same
    unfold SameButGroup at same
    rw [r.group fresh] at same
    exact ⟨d', (State.slot_congr ct _ _).trans hd', same⟩
  case bits =>
    rw [State.caseSet_congr ct]
    conv_lhs => rw [marked.bits, bits]
    rfl
  case overflow => rw [congrArg (·.overflow) ct, marked.overflow, overflow]; rfl
  case rest => exact State.ext tb riu rfl rfl rfl rfl rfl rfl rfl rfl spm pending'

end Sys2Proof.Proofs
end

section
/-! PROOFS. The accounts at a warm start: each leaves WRITING, and from there its persistence state stands until a
record of it is written (R114, R121, R130, R137, R147). -/

namespace Sys2Proof.Proofs

open Sys2Proof.Machine Sys2Proof.Safety

/-! ### The persistence state of one account while the store is served -/

/-- The write of an account has begun (R122). -/
def Begun (y : UnitId × Kind) (s : State) : Prop :=
  (s.account y.1 y.2).status = .writing .none ∧ InFlight s y

/-- An account keeps its persistence state and its place in the queue, and a record in flight stays in flight. -/
structure StatusStands (y : UnitId × Kind) (s t : State) : Prop where
  status : (t.account y.1 y.2).status = (s.account y.1 y.2).status
  queue : y ∈ s.asc.queue → y ∈ t.asc.queue
  flight : s.asc.inFlight.isSome = true → t.asc.inFlight = s.asc.inFlight

/-- An account's persistence state stands, or its write begins, which no other write then interrupts. -/
def Kept (y : UnitId × Kind) (s t : State) : Prop := StatusStands y s t ∨ s.asc.inFlight = none ∧ Begun y t

namespace Kept

variable {y : UnitId × Kind} {s t r : State}

theorem of_eq (rha : t.rha = s.rha) (queue : t.asc.queue = s.asc.queue) (flight : t.asc.inFlight = s.asc.inFlight) :
    Kept y s t := .inl ⟨by rw [State.account_congr rha], by rw [queue]; exact id, fun _ => flight⟩

theorem of_frame (rha : t.rha = s.rha) (asc : t.asc = s.asc) : Kept y s t := of_eq rha (by rw [asc]) (by rw [asc])

theorem refl (s : State) : Kept y s s := of_frame rfl rfl

theorem trans (h : Kept y s t) (h' : Kept y t r) : Kept y s r := by
  rcases h with ⟨status, queue, flight⟩ | ⟨free, begun⟩ <;> rcases h' with ⟨status', queue', flight'⟩ | ⟨free', begun'⟩
  · exact .inl ⟨status'.trans status, queue' ∘ queue, fun some => by
      have same := flight some
      rw [flight' (same ▸ some), same]⟩
  · refine .inr ⟨?_, begun'⟩
    by_contra some
    rw [flight (Option.isSome_iff_ne_none.mpr some)] at free'
    exact some free'
  · obtain ⟨writing, x, flying, item⟩ := begun
    have stays := flight' (by rw [flying]; rfl)
    exact .inr ⟨free, status'.trans writing, x, stays.trans flying, item⟩
  · obtain ⟨-, x, flying, -⟩ := begun
    rw [free'] at flying; cases flying

/-- No load begins while the store is served. -/
theorem outstanding (h : Kept y s t) (loading : isOutstanding (t.account y.1 y.2).status = true) :
    isOutstanding (s.account y.1 y.2).status = true := by
  rcases h with stands | ⟨-, writing, -⟩
  · exact stands.status ▸ loading
  · rw [writing] at loading; cases loading

theorem setStatus {u : UnitId} {k : Kind} (other : y ≠ (u, k)) (p : Persistence) (s : State) :
    Kept y s (s.setStatus u k p) := by
  refine .inl ⟨?_, id, fun _ => rfl⟩
  rw [State.account_setStatus, if_neg fun own => other (Prod.ext own.1 own.2)]

theorem requestQueue {u : UnitId} {k : Kind} (other : y ≠ (u, k)) (s : State) : Kept y s (requestQueue u k s) := by
  have appended : Kept y s { s with asc := { s.asc with queue := s.asc.queue ++ [(u, k)] } } :=
    .inl ⟨rfl, List.mem_append_left _, fun _ => rfl⟩
  have raised (s : State) : Kept y s (raise .queueFull s) := of_frame rfl rfl
  unfold Machine.requestQueue
  split
  · exact refl s
  · split
    · exact appended.trans (setStatus other _ _)
    · exact (setStatus other _ _).trans (raised _)

/-- The write of one account begun while no record is in flight (R122, R134). -/
theorem beginAccountWrite {u : UnitId} {k : Kind} {o : Origin} (free : s.asc.inFlight = none)
    (rha : t.rha = s.rha) (queue : y ∈ s.asc.queue → y ∈ t.asc.queue ∨ y = (u, k)) :
    Kept y s (beginAccountWrite u k o t) := by
  have status (v : UnitId) (l : Kind) : ((Machine.beginAccountWrite u k o t).account v l).status
      = if v = u ∧ l = k then .writing .none else (s.account v l).status := by
    have account : (Machine.beginAccountWrite u k o t).account v l
        = (t.setStatus u k (.writing .none)).account v l := rfl
    rw [account, State.account_setStatus, State.account_congr rha, State.account_congr rha]
    split <;> rfl
  by_cases own : y = (u, k)
  · subst own
    exact .inr ⟨free, by rw [status, if_pos ⟨rfl, rfl⟩], _, rfl, rfl⟩
  · refine .inl ⟨?_, fun waits => (queue waits).resolve_right own, fun some => ?_⟩
    · rw [status, if_neg fun both => own (Prod.ext both.1 both.2)]
    · rw [free] at some; cases some

theorem takeTrigger (s : State) : Kept y s (takeTrigger s) := by
  unfold Machine.takeTrigger beginCommit
  (repeat' split) <;> exact of_eq rfl rfl rfl

theorem commitEnd (done : Bool) (s : State) : Kept y s (commitEnd done s) := by
  have freeze (s : State) : Kept y s (takeFreeze s) := by
    unfold takeFreeze
    split <;> exact of_eq rfl rfl rfl
  have recommit (s : State) : Kept y s (takeRecommit s) := by
    have cleared : Kept y s { s with asc := { s.asc with recommit := false } } := of_eq rfl rfl rfl
    unfold takeRecommit
    split
    · exact cleared.trans (takeTrigger _)
    · exact refl s
  have raised (n : Notice) (s : State) : Kept y s (raise n s) := of_frame rfl rfl
  have faulted (c : Bool) (s : State) : Kept y s (if c = true then raise .storeFault s else s) := by
    split
    · exact raised _ s
    · exact refl s
  unfold Machine.commitEnd
  dsimp only
  refine .trans ?_ ((freeze _).trans (recommit _))
  refine .trans ?_ (raised _ _)
  refine .trans ?_ (faulted _ _)
  exact of_eq rfl rfl rfl

theorem serveStore (s : State) : Kept y s (serveStore s) := by
  have choose (fuel : Nat) (s : State) : Kept y s (chooseNext fuel s) := by
    induction fuel generalizing s with
    | zero => exact refl s
    | succ n ih =>
      unfold chooseNext
      split
      · exact refl s
      · rename_i guard
        have free : s.asc.inFlight = none := by
          cases h : s.asc.inFlight <;> simp_all
        split
        · rename_i u k rest hq
          refine beginAccountWrite free rfl fun waits => ?_
          rw [hq] at waits
          exact (List.mem_cons.mp waits).symm
        · dsimp only
          split
          · split
            · exact beginAccountWrite free rfl .inl
            · have moved : Kept y s { s with asc := { s.asc with cursor := 40, cursorTaken := true } } :=
                of_eq rfl rfl rfl
              split
              · refine .inl ⟨rfl, id, fun some => ?_⟩
                rw [free] at some; cases some
              · exact (moved.trans (commitEnd _ _)).trans (ih _)
          · exact refl s
  exact choose 3 s

theorem commitTrigger (s : State) : Kept y s (commitTrigger s) := (takeTrigger s).trans (serveStore _)

theorem countOne {u : UnitId} {k : Kind} (other : y ≠ (u, k)) (s : State) : Kept y s (countOne u k s) := by
  have counted (a : Account) (n : Nat) : Kept y s ((s.setAccount u k a).setTally u k n) := by
    refine .inl ⟨?_, id, fun _ => rfl⟩
    rw [State.account_setTally, State.account_setAccount, if_neg fun own => other (Prod.ext own.1 own.2)]
  have change (s : State) : Kept y s (countChange u k s) := by
    unfold countChange secondsChange queueChange
    (repeat' split) <;> first
      | exact setStatus other _ s
      | exact requestQueue other s
      | exact refl s
  refine .trans ?_ (serveStore _)
  simp only [increment]
  (repeat' split) <;> first
    | exact setStatus other _ s
    | exact refl s
    | exact counted _ _
    | exact (counted _ _).trans (change _)

/-- The load made again with no record in flight reads, and writes nothing (R147). -/
theorem resumeLoad (free : s.asc.inFlight = none) : Kept y s (resumeLoad s) := by
  have busy {t : State} (rha : t.rha = s.rha) (queue : t.asc.queue = s.asc.queue) : Kept y s t := by
    refine .inl ⟨by rw [State.account_congr rha], by rw [queue]; exact id, fun some => ?_⟩
    rw [free] at some; cases some
  unfold Machine.resumeLoad loadNextRead
  split
  · exact refl s
  · rename_i waits
    split
    · split
      · exact busy rfl rfl
      · rename_i none; rw [none] at waits; exact absurd rfl waits
    · exact busy rfl rfl

theorem startStored (free : s.asc.inFlight = none) : Kept y s (startStored s) := by
  have raised (n : Notice) (s : State) : Kept y s (raise n s) := of_frame rfl rfl
  have holdup (s : State) : Kept y s (holdupIfAsserted s) := by
    have supply : Kept y s { s with spm := { s.spm with supply := .holdup, lowRun := 0, restoreBy := none } } :=
      of_frame rfl rfl
    unfold holdupIfAsserted enterHoldup
    split
    · exact (supply.trans (raised _ _)).trans (commitTrigger _)
    · exact refl s
  exact ((resumeLoad free).trans (commitTrigger _)).trans (holdup _)

end Kept

end Sys2Proof.Proofs
end

section
/-! PROOFS. What a start's inputs do to the accounts: they count trips, and nothing else (R51, R85, R114); the accounts
that leave WRITING (R130); and a store that may write nothing (R137, R142). -/

namespace Sys2Proof.Proofs

open Sys2Proof.Machine Sys2Proof.Safety

/-! ### Trips handed on -/

/-- A relation that follows the accounts, the store and the supply, and that counting a trip keeps. -/
structure FollowsCounts (R : State → State → Prop) : Prop where
  trans : ∀ {s t r}, R s t → R t r → R s r
  frame : ∀ {s t}, t.rha = s.rha → t.asc = s.asc → t.spm = s.spm → R s t
  count : ∀ (u : UnitId) (s : State), R s (countOne u .trips s)

namespace FollowsCounts

variable {R : State → State → Prop} (h : FollowsCounts R)

include h

theorem placeByOpening (a : Assertion) (n : Nat) (s : State) : R s (placeByOpening a n s) := by
  have opened : R s (openGroup a n s) := h.frame (by simp) (by simp) (by simp)
  have tripped (s : State) : R s (tripIfStops a s) := h.frame (by simp) (by simp) (by simp)
  exact h.trans (h.trans opened (h.count _ _)) (tripped _)

theorem placeCase (a : Assertion) (n held : Nat) (s : State) : R s (placeCase a n held s) := by
  unfold Machine.placeCase
  split
  · exact h.frame rfl rfl rfl
  · split
    · exact h.placeByOpening a n s
    · split
      · exact h.frame (by split <;> simp) (by split <;> simp) (by split <;> simp)
      · exact h.trans (h.frame (by simp) (by simp) (by simp)) (h.placeByOpening a n _)

theorem takeAssertion (a : Assertion) (s : State) : R s (takeAssertion a s) := by
  have result : R s (assertionResult a s) := by
    have overflows (s : State) : R s (overflowAssertion a s) := h.frame (by simp) (by simp) (by simp)
    simp only [assertionResult]
    (repeat' split) <;> first
      | exact overflows s
      | exact h.trans (h.frame (by simp) (by simp) (by simp)) (h.placeCase a _ _ _)
  exact h.trans result (h.frame (by simp [Machine.takeAssertion]) (by simp [Machine.takeAssertion])
    (by simp [Machine.takeAssertion]))

theorem takeRelease (u : UnitId) (i : InputId) (x : Option Stamp) (s : State) : R s (takeRelease u i x s) :=
  h.frame (by simp) (by simp) (by simp)

theorem handOnRestart (x : Stamp) (s : State) (y : UnitId × InputId) : R s (handOnRestart x s y) := by
  simp only [Machine.handOnRestart]
  (repeat' split) <;> first
    | exact h.frame rfl rfl rfl
    | exact h.takeAssertion _ s
    | exact h.takeRelease _ _ _ s

theorem restartInputs (s : State) : R s (restartInputs s) := by
  have fold (l : List (UnitId × InputId)) (t : State) : R t (l.foldl (Machine.handOnRestart s.now) t) := by
    induction l generalizing t with
    | nil => exact h.frame rfl rfl rfl
    | cons y l ih => exact h.trans (h.handOnRestart s.now t y) (ih _)
  exact h.trans (h.frame (t := { s with tiu := rebuildInputs s.tiu }) rfl rfl rfl) (fold inputOrder _)

end FollowsCounts

theorem Kept.followsCounts {y : UnitId × Kind} (h : y.2 ≠ .trips) : FollowsCounts (Kept y) where
  trans := .trans
  frame rha asc _ := .of_frame rha asc
  count _ s := .countOne (fun own => h (congrArg (·.2) own)) s

/-! ### A store that writes nothing -/

/-- The store is FROZEN, no commit runs, and nothing of the supply lets a record be written (R137, R142). -/
structure Silent (s : State) : Prop where
  frozen : s.asc.frozen = true
  supply : s.spm.supply = .run
  resting : s.asc.activity ≠ .committing
  pfi : s.spm.pfiLevel = false

theorem Silent.serveStore {s : State} (h : Silent s) : serveStore s = s := by
  simp [Machine.serveStore, chooseNext, writingAllowed, h.frozen, h.supply, h.resting]

theorem Silent.congr {s t : State} (h : Silent s) (frozen : t.asc.frozen = s.asc.frozen)
    (activity : t.asc.activity = s.asc.activity) (spm : t.spm = s.spm) : Silent t :=
  ⟨frozen.trans h.frozen, spm ▸ h.supply, activity ▸ h.resting, spm ▸ h.pfi⟩

/-- While nothing is written, some accounts keep their persistence states. -/
def QuietFor (only : Kind → Prop) (s t : State) : Prop :=
  Silent s → Silent t ∧ ∀ u k, only k → (t.account u k).status = (s.account u k).status

theorem QuietFor.trans {only : Kind → Prop} {s t r : State} (h : QuietFor only s t) (h' : QuietFor only t r) :
    QuietFor only s r := fun silent =>
  have ⟨silent', same⟩ := h silent
  have ⟨silent'', same'⟩ := h' silent'
  ⟨silent'', fun u k hk => (same' u k hk).trans (same u k hk)⟩

namespace QuietFor

variable {only : Kind → Prop} {s t : State}

/-- An operation that writes no persistence state, and of the store at most the queue. -/
theorem of_eq (rha : t.rha = s.rha) (frozen : t.asc.frozen = s.asc.frozen) (activity : t.asc.activity = s.asc.activity)
    (spm : t.spm = s.spm) : QuietFor only s t := fun silent =>
  ⟨silent.congr frozen activity spm, fun u k _ => by rw [State.account_congr rha]⟩

theorem setAccount (u : UnitId) {k : Kind} (other : ¬ only k) (a : Account) (s : State) :
    QuietFor only s (s.setAccount u k a) := fun silent =>
  ⟨silent.congr rfl rfl rfl, fun v l hl => by
    rw [State.account_setAccount, if_neg]
    rintro ⟨-, rfl⟩
    exact other hl⟩

theorem setTally (u : UnitId) (k : Kind) (n : Nat) (s : State) : QuietFor only s (s.setTally u k n) := fun silent =>
  ⟨silent.congr rfl rfl rfl, fun v l _ => by rw [State.account_setTally]⟩

theorem countChange (u : UnitId) {k : Kind} (other : ¬ only k) (s : State) :
    QuietFor only s (countChange u k s) := by
  have appended : QuietFor only s { s with asc := { s.asc with queue := s.asc.queue ++ [(u, k)] } } :=
    of_eq rfl rfl rfl rfl
  have raised (s : State) : QuietFor only s (raise .queueFull s) := of_eq rfl rfl rfl rfl
  unfold Machine.countChange secondsChange queueChange requestQueue
  (repeat' split) <;> first
    | exact setAccount u other _ s
    | exact of_eq rfl rfl rfl rfl
    | exact appended.trans (setAccount u other _ _)
    | exact (setAccount u other _ s).trans (raised _)

theorem increment (u : UnitId) {k : Kind} (other : ¬ only k) (s : State) : QuietFor only s (increment u k s) := by
  have counted (a : Account) (n : Nat) : QuietFor only s ((s.setAccount u k a).setTally u k n) :=
    (setAccount u other a s).trans (setTally u k n _)
  simp only [Machine.increment]
  (repeat' split) <;> first
    | exact setAccount u other _ s
    | exact of_eq rfl rfl rfl rfl
    | exact counted _ _
    | exact (counted _ _).trans (countChange u other _)

theorem followsCounts : FollowsCounts (QuietFor (· ≠ .trips)) where
  trans := .trans
  frame rha asc spm := of_eq rha (by rw [asc]) (by rw [asc]) spm
  count u s silent := by
    have counted := increment (only := (· ≠ .trips)) u (k := .trips) (by simp) s silent
    rw [countOne, counted.1.serveStore]
    exact counted

end QuietFor

/-- A start whose store may write nothing changes no account and leaves the queue (R147). -/
theorem Silent.startStored {s : State} (h : Silent s) :
    Silent (startStored s) ∧ (startStored s).rha = s.rha ∧ (startStored s).asc.queue = s.asc.queue := by
  have loaded : Silent (resumeLoad s) ∧ (resumeLoad s).rha = s.rha ∧ (resumeLoad s).asc.queue = s.asc.queue := by
    have begun (t : State) (l : Load) (frozen : t.asc.frozen = s.asc.frozen) (spm : t.spm = s.spm)
        (activity : t.asc.activity = .loading l) : Silent t :=
      ⟨frozen.trans h.frozen, spm ▸ h.supply, by rw [activity]; simp, spm ▸ h.pfi⟩
    unfold resumeLoad loadNextRead
    split
    · exact ⟨h, rfl, rfl⟩
    · rename_i waits
      split
      · split
        · exact ⟨begun _ _ rfl rfl rfl, rfl, rfl⟩
        · rename_i none; rw [none] at waits; exact absurd rfl waits
      · exact ⟨begun _ _ rfl rfl rfl, rfl, rfl⟩
  obtain ⟨silent, rha, queue⟩ := loaded
  unfold Proofs.startStored
  generalize resumeLoad s = r at *
  have triggered : Silent (takeTrigger r) ∧ (takeTrigger r).rha = r.rha
      ∧ (takeTrigger r).asc.queue = r.asc.queue := by
    unfold takeTrigger
    split
    · rw [if_neg (by simp [silent.frozen, silent.supply])]; exact ⟨silent, rfl, rfl⟩
    · exact ⟨silent.congr rfl rfl rfl, rfl, rfl⟩
  obtain ⟨silent', rha', queue'⟩ := triggered
  have run : (commitTrigger r).spm.pfiLevel ≠ true := by simp [silent.pfi]
  rw [holdupIfAsserted, if_neg run, commitTrigger, silent'.serveStore]
  exact ⟨silent', rha'.trans rha, queue'.trans queue⟩

end Sys2Proof.Proofs
end

section
/-! PROOFS. The persistence states over a warm start (R121, R130, R137, R147). -/

namespace Sys2Proof.Proofs

open Sys2Proof.Machine Sys2Proof.Safety

/-! ### One account leaves WRITING (R130) -/

/-- What a start makes of a persistence state before any queue request (R130). -/
def settled : Persistence → Persistence
  | .writing _ => .dirty
  | p => p

theorem setStatus_status (s : State) (x : UnitId × Kind) (p : Persistence) (y : UnitId × Kind) :
    ((s.setStatus x.1 x.2 p).account y.1 y.2).status = if y = x then p else (s.account y.1 y.2).status := by
  rw [State.account_setStatus]
  by_cases own : y = x
  · rw [if_pos own, if_pos ⟨congrArg (·.1) own, congrArg (·.2) own⟩]
  · rw [if_neg own, if_neg fun both => own (Prod.ext both.1 both.2)]

theorem requestQueue_status (u : UnitId) (k : Kind) (s : State) (y : UnitId × Kind) :
    ((requestQueue u k s).account y.1 y.2).status = if y = (u, k) ∧ (u, k) ∉ s.asc.queue then
        (if s.asc.queue.length < 16 then .queued else .dirty) else (s.account y.1 y.2).status := by
  have set (t : State) (rha : t.rha = s.rha) (p : Persistence) :
      ((t.setStatus u k p).account y.1 y.2).status = if y = (u, k) then p else (s.account y.1 y.2).status := by
    rw [setStatus_status t (u, k), State.account_congr rha]
  unfold requestQueue
  by_cases waits : (u, k) ∈ s.asc.queue
  · rw [if_pos waits, if_neg fun both => both.2 waits]
  · rw [if_neg waits]
    simp only [waits, not_false_eq_true, and_true]
    by_cases room : s.asc.queue.length < 16
    · rw [if_pos room, if_pos room]; exact set _ rfl _
    · rw [if_neg room, if_neg room]; exact set s rfl _

theorem requestQueue_entries (u : UnitId) (k : Kind) (s : State) :
    (requestQueue u k s).asc.queue
      = if (u, k) ∉ s.asc.queue ∧ s.asc.queue.length < 16 then s.asc.queue ++ [(u, k)] else s.asc.queue := by
  unfold requestQueue
  by_cases waits : (u, k) ∈ s.asc.queue
  · rw [if_pos waits, if_neg fun both => both.1 waits]
  · rw [if_neg waits]
    by_cases room : s.asc.queue.length < 16
    · rw [if_pos room, if_pos ⟨waits, room⟩]; rfl
    · rw [if_neg room, if_neg fun both => room both.2]; rfl

theorem settled_ne (p : Persistence) : settled p ≠ .writing .queue := by cases p <;> simp [settled]

/-- An account with a queue change waiting becomes DIRTY and makes its queue request (R130). -/
theorem warmAccount_queueing {s : State} {x : UnitId × Kind} (h : (s.account x.1 x.2).status = .writing .queue) :
    warmAccount s x = requestQueue x.1 x.2 (s.setStatus x.1 x.2 .dirty) := by
  simp only [warmAccount, h, if_true]

/-- Any other account settles (R130). -/
theorem warmAccount_settling {s : State} {x : UnitId × Kind} (h : (s.account x.1 x.2).status ≠ .writing .queue) :
    (warmAccount s x).asc = s.asc ∧ ∀ y : UnitId × Kind, ((warmAccount s x).account y.1 y.2).status
      = if y = x then settled (s.account x.1 x.2).status else (s.account y.1 y.2).status := by
  simp only [warmAccount]
  split
  · rename_i c writing
    rw [if_neg (by rintro rfl; exact h writing), writing]
    exact ⟨rfl, setStatus_status s x .dirty⟩
  · rename_i other
    refine ⟨rfl, fun y => ?_⟩
    by_cases own : y = x
    · rw [if_pos own, own]
      unfold settled
      split
      · rename_i c writing; exact absurd writing (other c)
      · rfl
    · rw [if_neg own]

/-- The accounts that a start passes before or after another: that one's record stands, and its place in the queue. -/
structure Passed (y : UnitId × Kind) (s t : State) : Prop where
  status : (t.account y.1 y.2).status = (s.account y.1 y.2).status
  present : y ∈ s.asc.queue → y ∈ t.asc.queue
  absent : y ∉ s.asc.queue → y ∉ t.asc.queue
  alone : (∀ z, z ≠ y → (s.account z.1 z.2).status ≠ .writing .queue) →
    t.asc.queue = s.asc.queue ∧ ∀ z, z ≠ y → (t.account z.1 z.2).status ≠ .writing .queue

theorem warmAccount_passed {x y : UnitId × Kind} (other : x ≠ y) (s : State) : Passed y s (warmAccount s x) := by
  by_cases writing : (s.account x.1 x.2).status = .writing .queue
  · rw [warmAccount_queueing writing]
    refine ⟨?_, ?_, ?_, fun alone => absurd writing (alone x other)⟩
    · rw [requestQueue_status, if_neg fun both => other both.1.symm, setStatus_status,
        if_neg other.symm]
    · rw [requestQueue_entries]
      split
      · exact List.mem_append_left _
      · exact id
    · rw [requestQueue_entries]
      split
      · intro absent waits
        rcases List.mem_append.mp waits with old | new
        · exact absent old
        · exact other (List.mem_singleton.mp new).symm
      · exact id
  · obtain ⟨asc, status⟩ := warmAccount_settling writing
    refine ⟨by rw [status, if_neg other.symm], by rw [asc]; exact id, by rw [asc]; exact id,
      fun alone => ⟨by rw [asc], fun z hz => ?_⟩⟩
    rw [status]
    split
    · exact settled_ne _
    · exact alone z hz

theorem Passed.fold {y : UnitId × Kind} {l : List (UnitId × Kind)} (other : y ∉ l) (s : State) :
    Passed y s (l.foldl warmAccount s) := by
  induction l generalizing s with
  | nil => exact ⟨rfl, id, id, fun alone => ⟨rfl, alone⟩⟩
  | cons x l ih =>
    rw [List.mem_cons, not_or] at other
    have one := warmAccount_passed (Ne.symm other.1) s
    have rest := ih other.2 (warmAccount s x)
    exact ⟨rest.status.trans one.status, rest.present ∘ one.present, rest.absent ∘ one.absent, fun alone => by
      obtain ⟨queue, alone'⟩ := one.alone alone
      obtain ⟨queue', alone''⟩ := rest.alone alone'
      exact ⟨queue'.trans queue, alone''⟩⟩

theorem NoticesStay.queueFull {s t : State} (h : NoticesStay s t) (raised : s.lnu.flags.queueFull = true) :
    t.lnu.flags.queueFull = true := h.flags .queueFull raised

/-- What a start makes of an account that it finds WRITING with a queue change waiting, and of the queue
(R121, R130). -/
structure Requested (y : UnitId × Kind) (s t : State) : Prop where
  taken : (t.account y.1 y.2).status = .queued ∧ y ∈ t.asc.queue
    ∨ (t.account y.1 y.2).status = .dirty ∧ t.lnu.flags.queueFull = true
  room : (∀ z, z ≠ y → (s.account z.1 z.2).status ≠ .writing .queue) → s.asc.queue.length < 16 →
    (t.account y.1 y.2).status = .queued ∧ t.asc.queue = s.asc.queue ++ [y]
  full : (∀ z, z ≠ y → (s.account z.1 z.2).status ≠ .writing .queue) → 16 ≤ s.asc.queue.length →
    (t.account y.1 y.2).status = .dirty ∧ t.asc.queue = s.asc.queue ∧ t.lnu.flags.queueFull = true

theorem warmAccount_requested {y : UnitId × Kind} {s : State}
    (writing : (s.account y.1 y.2).status = .writing .queue) (absent : y ∉ s.asc.queue) :
    Requested y s (warmAccount s y) := by
  have status := requestQueue_status y.1 y.2 (s.setStatus y.1 y.2 .dirty) y
  have entries := requestQueue_entries y.1 y.2 (s.setStatus y.1 y.2 .dirty)
  have same : (s.setStatus y.1 y.2 .dirty).asc = s.asc := rfl
  rw [same, if_pos ⟨rfl, absent⟩] at status
  rw [same] at entries
  rw [warmAccount_queueing writing]
  by_cases room : s.asc.queue.length < 16
  · rw [if_pos room] at status
    rw [if_pos ⟨absent, room⟩] at entries
    exact ⟨.inl ⟨status, by rw [entries]; simp⟩, fun _ _ => ⟨status, entries⟩, fun _ full => absurd room (by omega)⟩
  · rw [if_neg room] at status
    rw [if_neg fun both => room both.2] at entries
    have flag : (requestQueue y.1 y.2 (s.setStatus y.1 y.2 .dirty)).lnu.flags.queueFull = true := by
      have absent' : (y.1, y.2) ∉ (s.setStatus y.1 y.2 .dirty).asc.queue := absent
      have room' : ¬ (s.setStatus y.1 y.2 .dirty).asc.queue.length < 16 := room
      rw [requestQueue, if_neg absent', if_neg room', raise_flags]; rfl
    exact ⟨.inr ⟨status, flag⟩, fun _ less => absurd less room, fun _ _ => ⟨status, entries, flag⟩⟩

/-- Each account settles at a start, or makes its queue request (R130). -/
theorem warmAccounts_leave (y : UnitId × Kind) (s : State) :
    ((s.account y.1 y.2).status ≠ .writing .queue →
        ((warmAccounts s).account y.1 y.2).status = settled (s.account y.1 y.2).status)
      ∧ ((s.account y.1 y.2).status = .writing .queue → y ∉ s.asc.queue → Requested y s (warmAccounts s)) := by
  obtain ⟨before, after, order⟩ := List.append_of_mem (mem_walkOrder y.1 y.2)
  have distinct : walkOrder.Nodup := by decide
  rw [order] at distinct
  obtain ⟨-, rest, apart⟩ := List.nodup_append.mp distinct
  have first := Passed.fold (y := y) (fun old => apart _ old _ List.mem_cons_self rfl) s
  have last := Passed.fold (y := y) (List.nodup_cons.mp rest).1 (warmAccount (before.foldl warmAccount s) y)
  have noticed : NoticesStay (warmAccount (before.foldl warmAccount s) y) (warmAccounts s) := by
    rw [warmAccounts, order, List.foldl_append, List.foldl_cons]
    exact .foldl .warmAccount after _
  have all : warmAccounts s = after.foldl warmAccount (warmAccount (before.foldl warmAccount s) y) := by
    rw [warmAccounts, order, List.foldl_append, List.foldl_cons]
  rw [← all] at last
  generalize warmAccounts s = t at *
  generalize before.foldl warmAccount s = r at *
  rw [← first.status]
  refine ⟨fun other => ?_, fun writing absent => ?_⟩
  · rw [last.status, (warmAccount_settling other).2, if_pos rfl]
  · have request := warmAccount_requested writing (first.absent absent)
    have after_alone (quiet : ∀ z, z ≠ y → (r.account z.1 z.2).status ≠ .writing .queue) :=
      (last.alone fun z hz => (warmAccount_passed hz.symm r).status ▸ quiet z hz).1
    refine ⟨?_, fun alone less => ?_, fun alone more => ?_⟩
    · rw [last.status]
      exact request.taken.imp (.imp_right last.present) (.imp_right (noticed.queueFull))
    · obtain ⟨queue, quiet⟩ := first.alone alone
      obtain ⟨queued, entries⟩ := request.room quiet (queue ▸ less)
      exact ⟨last.status.trans queued, by rw [after_alone quiet, entries, queue]⟩
    · obtain ⟨queue, quiet⟩ := first.alone alone
      obtain ⟨dirty, entries, flag⟩ := request.full quiet (queue ▸ more)
      exact ⟨last.status.trans dirty, by rw [after_alone quiet, entries, queue], noticed.queueFull flag⟩

/-! ### The stages that follow (R137, R147) -/

/-- The inputs that a start reads leave the accounts of the other kinds, and every account where the contacts agree
with the cases (R51). -/
theorem restartInputs_kept {y : UnitId × Kind} {v : State} (h : y.2 ≠ .trips ∨ InputsAgree v) :
    Kept y v (restartInputs v) := by
  rcases h with other | agree
  · exact (Kept.followsCounts other).restartInputs v
  · rw [restartInputs_of_agree agree]; exact .of_frame rfl rfl

theorem restartInputs_quiet {y : UnitId × Kind} {v : State} (h : y.2 ≠ .trips ∨ InputsAgree v) (silent : Silent v) :
    ((restartInputs v).account y.1 y.2).status = (v.account y.1 y.2).status := by
  rcases h with other | agree
  · exact (QuietFor.followsCounts.restartInputs v silent).2 y.1 y.2 other
  · rw [restartInputs_of_agree agree]; rfl

theorem storeRestarted_account (q : State) (u : UnitId) (k : Kind) :
    (storeRestarted q).account u k = q.account u k := State.account_congr rfl u k

theorem storeRestarted_queue (q : State) : (storeRestarted q).asc.queue = q.asc.queue := rfl

theorem storeRestarted_notices (q : State) : NoticesStay q (storeRestarted q) := .of_lnu rfl

/-- What the last stages of a start leave of an account, once the accounts have left WRITING. -/
theorem afterQueue_kept {y : UnitId × Kind} {q t : State} (h : y.2 ≠ .trips ∨ InputsAgree q)
    (ht : t = startEnded (restartInputs (startStored (storeRestarted q)))) :
    Kept y (storeRestarted q) t ∧ NoticesStay q t
      ∧ (Silent (storeRestarted q) → (t.account y.1 y.2).status = (q.account y.1 y.2).status
        ∧ (InputsAgree q → t.asc.queue = q.asc.queue)) := by
  obtain ⟨tiu, ct, -⟩ := startStored_blocks q
  have stored := Kept.startStored (y := y) (storeRestarted_free q)
  have noticed := NoticesStay.startStored (storeRestarted q)
  have quiet := Silent.startStored (s := storeRestarted q)
  have agrees : InputsAgree q → InputsAgree (startStored (storeRestarted q)) := inputsAgree_congr tiu ct
  have rha (s : State) : (startEnded s).rha = s.rha := by simp [startEnded]
  have asc (s : State) : (startEnded s).asc = s.asc := by simp [startEnded]
  generalize startStored (storeRestarted q) = v at *
  have h' := h.imp_right agrees
  have ended : Kept y (restartInputs v) (startEnded (restartInputs v)) := .of_frame (rha _) (asc _)
  rw [ht]
  refine ⟨(stored.trans (restartInputs_kept h')).trans ended,
    (((storeRestarted_notices q).trans noticed).trans (.restartInputs v)).trans (.startEnded _), fun silent => ?_⟩
  obtain ⟨silent', rha', queue'⟩ := quiet silent
  refine ⟨?_, fun agree => ?_⟩
  · rw [State.account_congr (rha _), restartInputs_quiet h' silent', State.account_congr rha',
      storeRestarted_account]
  · rw [asc, restartInputs_of_agree (agrees agree)]
    exact queue'.trans (storeRestarted_queue q)

/-- A store restarted may write nothing where it is FROZEN and no supply lets a record be written (R142, R147). -/
theorem storeRestarted_silent {q : State} (frozen : (q.asc.frozen || q.asc.freezePending) = true)
    (supply : q.spm.supply = .run) (pfi : q.spm.pfiLevel = false) : Silent (storeRestarted q) :=
  ⟨frozen, supply, Activity.noConfusion, pfi⟩

/-- What a warm start makes of the persistence state of one account (R121, R130, R137). -/
structure StatusLeft (y : UnitId × Kind) (s t : State) : Prop where
  settles : (s.account y.1 y.2).status ≠ .writing .queue →
    (t.account y.1 y.2).status = settled (s.account y.1 y.2).status ∨ Begun y t
  requests : (s.account y.1 y.2).status = .writing .queue → y ∉ s.asc.queue →
    (t.account y.1 y.2).status = .queued ∧ y ∈ t.asc.queue ∨ Begun y t
      ∨ (t.account y.1 y.2).status = .dirty ∧ t.lnu.flags.queueFull = true
  quiet : (s.asc.frozen || s.asc.freezePending) = true → s.spm.pfiLevel = false →
    ((s.account y.1 y.2).status ≠ .writing .queue →
        (t.account y.1 y.2).status = settled (s.account y.1 y.2).status)
      ∧ ((s.account y.1 y.2).status = .writing .queue → y ∉ s.asc.queue → ContactsAgree s → Requested y s t)

theorem warmStart_statusLeft (a : BitVec 5) (f : Bool) (d : Nat) {s : State} {y : UnitId × Kind}
    (h : y.2 ≠ .trips ∨ ContactsAgree s) : StatusLeft y s (warmStart a f d s) := by
  obtain ⟨-, -, rha, asc, ct, tgr, tiu, spm, -⟩ := startBegun_blocks a f d s
  obtain ⟨b, q, hb, hq, ht⟩ := warmStart_stages a f d s
  rw [← hb] at rha asc ct tgr tiu spm
  generalize warmStart a f d s = t at *
  have agrees (agree : ContactsAgree s) : InputsAgree q := by
    have same : q = warmAccounts b := by rw [hq, warmGroups_none (by rw [tgr]; exact agree.1)]
    exact inputsAgree_congr (by rw [same]; simp [tiu]) (by rw [same]; simp [ct]) agree.2
  obtain ⟨kept, noticed, quiet⟩ := afterQueue_kept (h.imp_right agrees) ht
  obtain ⟨settles, requests⟩ := warmAccounts_leave y (warmGroups b)
  have rha' : (warmGroups b).rha = s.rha := Eq.trans (by simp) rha
  have asc' : (warmGroups b).asc = s.asc := (warmGroups_asc b).trans asc
  have silent (frozen : (s.asc.frozen || s.asc.freezePending) = true) (pfi : s.spm.pfiLevel = false) :
      Silent (storeRestarted q) := by
    have store := (startQueued_stands (fun _ => True) b).store.frozen
    have spm' : q.spm = s.spm.restarted := by rw [hq]; simp [spm]
    rw [← hq, asc, frozen] at store
    have supply : q.spm.supply = .run := by rw [spm']; rfl
    have level : q.spm.pfiLevel = s.spm.pfiLevel := by rw [spm']; rfl
    exact storeRestarted_silent store supply (level.trans pfi)
  rw [← hq] at settles requests
  generalize warmGroups b = g at *
  have account (z : UnitId × Kind) : g.account z.1 z.2 = s.account z.1 z.2 := State.account_congr rha' _ _
  rw [account y] at settles requests
  rw [asc'] at requests
  refine ⟨fun other => ?_, fun writing absent => ?_,
    fun frozen pfi => ⟨fun other => ?_, fun writing absent agree => ?_⟩⟩
  · refine kept.imp (fun stands => ?_) (·.2)
    rw [stands.status, storeRestarted_account, settles other]
  · rcases kept with stands | ⟨-, begun⟩
    · have status := stands.status
      rw [storeRestarted_account] at status
      rcases (requests writing absent).taken with ⟨queued, waits⟩ | ⟨dirty, flag⟩
      · exact .inl ⟨status.trans queued, stands.queue (storeRestarted_queue q ▸ waits)⟩
      · exact .inr (.inr ⟨status.trans dirty, noticed.queueFull flag⟩)
    · exact .inr (.inl begun)
  · exact (quiet (silent frozen pfi)).1.trans (settles other)
  · obtain ⟨same, queue⟩ := quiet (silent frozen pfi)
    have queue := queue (agrees agree)
    obtain ⟨taken, room, full⟩ := requests writing absent
    simp only [account, asc'] at room full
    rw [← same, ← queue] at taken room full
    exact ⟨taken.imp_right (.imp_right (noticed.queueFull)), room, fun alone more =>
      (full alone more).imp_right (.imp_right (noticed.queueFull))⟩

end Sys2Proof.Proofs
end

section
/-! PROOFS. The placing of the trips that a start hands on: with one restart stamp they all come into one group of their
unit, which no placing closes, and which counts once in TRIPS (R51, R83 to R90, R114). -/

namespace Sys2Proof.Proofs

open Sys2Proof.Machine Sys2Proof.Safety

/-! ### The TRIPS account of a unit (R85, R114) -/

/-- The TRIPS account of a unit and its tally stand, but for the persistence state, and no load of it begins. -/
structure TripsStand (u : UnitId) (s t : State) : Prop where
  values : accountValues (t.account u .trips) = accountValues (s.account u .trips)
  tally : t.tally u .trips = s.tally u .trips
  loaded : isOutstanding (t.account u .trips).status = true → isOutstanding (s.account u .trips).status = true

/-- The TRIPS account of a unit has taken one increment, unless its load is outstanding or it is retired. -/
def TripTaken (u : UnitId) (s t : State) : Prop :=
  isOutstanding (s.account u .trips).status = true ∨ (s.account u .trips).retired = true
    ∨ accountValues (t.account u .trips) = accountValues (s.account u .trips).incremented
      ∧ t.tally u .trips = bump limit32 (s.tally u .trips)

theorem values_retired {a b : Account} (h : accountValues a = accountValues b) : a.retired = b.retired := by
  rw [eq_of_accountValues h]

theorem values_incremented {a b : Account} (h : accountValues a = accountValues b) :
    accountValues a.incremented = accountValues b.incremented := by
  rw [eq_of_accountValues h]; rfl

namespace TripsStand

variable {u : UnitId} {s t r : State}

theorem of_rha (h : t.rha = s.rha) (u : UnitId) : TripsStand u s t := by
  refine ⟨?_, State.tally_congr h _ _, ?_⟩ <;> rw [State.account_congr h]
  exact id

theorem trans (h : TripsStand u s t) (h' : TripsStand u t r) : TripsStand u s r :=
  ⟨h'.values.trans h.values, h'.tally.trans h.tally, h.loaded ∘ h'.loaded⟩

theorem taken (h : TripsStand u s t) (h' : TripTaken u t r) : TripTaken u s r := by
  rcases h' with loading | retired | ⟨values, tally⟩
  · exact .inl (h.loaded loading)
  · exact .inr (.inl (values_retired h.values ▸ retired))
  · exact .inr (.inr ⟨values.trans (values_incremented h.values), by rw [tally, h.tally]⟩)

theorem of_accounts {only : Kind → Prop} (h : only .trips) (stands : AccountsStand only s t)
    (kept : Kept (u, .trips) s t) : TripsStand u s t :=
  ⟨(stands u .trips h).1, (stands u .trips h).2, kept.outstanding⟩

theorem serveStore (s : State) : TripsStand u s (serveStore s) :=
  of_accounts (only := fun _ => True) trivial (serveStore_stands _ s).accounts (.serveStore s)

end TripsStand

theorem TripTaken.stand {u : UnitId} {s t r : State} (h : TripTaken u s t) (h' : TripsStand u t r) : TripTaken u s r :=
  h.imp_right <| .imp_right fun ⟨values, tally⟩ => ⟨h'.values.trans values, h'.tally.trans tally⟩

/-- What an increment does to the values of the accounts: nothing, or it counts in the one account (R114). -/
theorem increment_values (u : UnitId) (k : Kind) (s : State) :
    (isOutstanding (s.account u k).status = true ∨ (s.account u k).retired = true)
        ∧ AccountsStand (fun _ => True) s (increment u k s)
      ∨ AccountsStand (fun _ => True)
          ((s.setAccount u k (s.account u k).incremented).setTally u k (bump limit32 (s.tally u k)))
          (increment u k s) := by
  simp only [increment]
  split
  · rename_i n loading
    exact .inl ⟨.inl (by rw [loading]; rfl), setStatus_accountsStand _ u k _ s⟩
  · split
    · rename_i retired
      exact .inl ⟨.inr retired, fun _ _ _ => ⟨rfl, rfl⟩⟩
    · refine .inr ?_
      split
      · exact fun _ _ _ => ⟨rfl, rfl⟩
      · unfold countChange secondsChange
        split
        · exact setStatus_accountsStand _ u k _ _
        · exact (queueChange_stands _ u k _).accounts

theorem countOne_taken (u : UnitId) (s : State) : TripTaken u s (countOne u .trips s) := by
  have taken : TripTaken u s (increment u .trips s) := by
    rcases increment_values u .trips s with ⟨loading | retired, -⟩ | counted
    · exact .inl loading
    · exact .inr (.inl retired)
    · obtain ⟨values, tally⟩ := counted u .trips trivial
      exact .inr (.inr ⟨values.trans (by simp), tally.trans (by simp)⟩)
  exact taken.stand (.serveStore _)

theorem countOne_tripsStand {u v : UnitId} (h : v ≠ u) (s : State) : TripsStand v s (countOne u .trips s) := by
  have kept : Kept (v, .trips) s (countOne u .trips s) := .countOne (by simp [h]) s
  have served := (serveStore_stands (fun _ => True) (increment u .trips s)).accounts v .trips trivial
  have values : accountValues ((increment u .trips s).account v .trips) = accountValues (s.account v .trips)
      ∧ (increment u .trips s).tally v .trips = s.tally v .trips := by
    rcases increment_values u .trips s with ⟨-, stands⟩ | counted
    · exact stands v .trips trivial
    · obtain ⟨values, tally⟩ := counted v .trips trivial
      exact ⟨values.trans (by simp [h]), tally.trans (by simp [h])⟩
  exact ⟨served.1.trans values.1, served.2.trans values.2, kept.outstanding⟩

/-! ### The group that a placing leaves -/

/-- A group at a restart stamp, whose window and close-at that instant does not pass. -/
def AtRestart (x : Stamp) (g : OpenGroup) : Prop := g.earliest = x ∧ Standing x.elapsed g

/-- What the placing of a restart assertion's case leaves (R84 to R86, R90). -/
structure Gathered (a : Assertion) (n held : Nat) (s t : State) (g : OpenGroup) : Prop where
  group : t.tgr.groups.get a.unit = some g
  restart : AtRestart a.stamp g
  same : ∀ g', s.tgr.groups.get a.unit = some g' → g.id = g'.id
  closed : t.tgr.closed = s.tgr.closed
  member : ∀ j d, t.slot a.unit j = some d → d.number = n →
    d.groupId = g.id ∨ held = g.id ∧ s.slot a.unit j = some d
  first : s.tgr.groups.get a.unit = none → g.firstOut = n ∧ TripTaken a.unit s t
    ∧ ∀ j d, t.slot a.unit j = some d → d.number = n → d.groupId = g.id ∧ d.firstOut = true ∧ d.provisional = true
  later : s.tgr.groups.get a.unit ≠ none → t.rha = s.rha

/-- A case that bears the number after a change to the case of that number is one changed. -/
theorem updateCase_own {u : UnitId} {n : Nat} {f : Case → Case} {s : State} {j : SlotId} {d : Case}
    (h : (updateCase u n f s).slot u j = some d) (own : d.number = n) : ∃ c, d = f c := by
  rw [updateCase_slot, if_pos rfl, Option.map_eq_some_iff] at h
  obtain ⟨c, -, rfl⟩ := h
  split at own
  · rename_i same; exact ⟨c, if_pos same⟩
  · rename_i other; exact absurd own other

/-- A group that opens takes its case as first-out (R83, R85). -/
theorem openGroup_gathers (a : Assertion) (n : Nat) (s : State) :
    ∃ g, (openGroup a n s).tgr.groups.get a.unit = some g ∧ AtRestart a.stamp g ∧ g.firstOut = n
      ∧ (openGroup a n s).tgr.closed = s.tgr.closed
      ∧ ∀ j d, (openGroup a n s).slot a.unit j = some d → d.number = n →
          d.groupId = g.id ∧ d.firstOut = true ∧ d.provisional = true := by
  have window : 0 < groupWindow s.tgr.windowExp := Nat.mul_pos (by decide) (Nat.pow_pos (by decide))
  refine ⟨_, (PerUnit.get_set _ _ _ _).trans (if_pos rfl), ⟨rfl, window, ?_, ?_⟩, rfl, rfl, fun j d hd own => ?_⟩
  · dsimp only; omega
  · dsimp only; omega
  · obtain ⟨c, rfl⟩ := updateCase_own hd own
    exact ⟨rfl, rfl, rfl⟩

/-- A case that joins a group at the same stamp leaves the group at that stamp (R84, R86). -/
theorem joinGroup_gathers (a : Assertion) (n : Nat) {g : OpenGroup} (s : State) (h : AtRestart a.stamp g) :
    ∃ g', (joinGroup a n g s).tgr.groups.get a.unit = some g' ∧ AtRestart a.stamp g' ∧ g'.id = g.id
      ∧ (joinGroup a n g s).tgr.closed = s.tgr.closed
      ∧ ∀ j d, (joinGroup a n g s).slot a.unit j = some d → d.number = n → d.groupId = g.id := by
  obtain ⟨earliest, window, due, within⟩ := h
  unfold joinGroup
  dsimp only
  split
  · refine ⟨_, (PerUnit.get_set _ _ _ _).trans (if_pos rfl), ⟨rfl, window, ?_, ?_⟩, rfl, rfl, fun j d hd own => ?_⟩
    · dsimp only; omega
    · dsimp only; omega
    · obtain ⟨c, rfl⟩ := updateCase_own hd own
      rfl
  · refine ⟨_, (PerUnit.get_set _ _ _ _).trans (if_pos rfl), ⟨earliest, window, due, within⟩, rfl, rfl,
      fun j d hd own => ?_⟩
    obtain ⟨c, rfl⟩ := updateCase_own hd own
    rfl

/-- A restart assertion opens the group of its unit, or joins the one that an earlier restart assertion opened. -/
theorem placeCase_gathers {a : Assertion} {n held : Nat} {s : State} (test : a.test = false)
    (now : a.stamp.elapsed = s.elapsed) (restart : ∀ g, s.tgr.groups.get a.unit = some g → AtRestart a.stamp g) :
    ∃ g, Gathered a n held s (placeCase a n held s) g := by
  unfold placeCase
  rw [if_neg (by simp [test])]
  cases found : s.tgr.groups.get a.unit with
  | none =>
    obtain ⟨g, group, fresh, first, closed, opened⟩ := openGroup_gathers a n s
    have rha : (openGroup a n s).rha = s.rha := by simp
    have tgr : (placeByOpening a n s).tgr = (openGroup a n s).tgr := by simp [placeByOpening]
    have ct : (placeByOpening a n s).ct = (openGroup a n s).ct := by simp [placeByOpening]
    have rha' : (placeByOpening a n s).rha = (countOne a.unit .trips (openGroup a n s)).rha := by simp [placeByOpening]
    have marks : ∀ j d, (placeByOpening a n s).slot a.unit j = some d → d.number = n →
        d.groupId = g.id ∧ d.firstOut = true ∧ d.provisional = true := fun j d hd =>
      opened j d ((State.slot_congr ct a.unit j) ▸ hd)
    have taken : TripTaken a.unit s (placeByOpening a n s) :=
      (TripsStand.of_rha rha a.unit).taken ((countOne_taken a.unit _).stand (.of_rha rha' a.unit))
    exact ⟨g, by rw [tgr, group], fresh, fun g' some => absurd (found.symm.trans some) (by simp), by rw [tgr, closed],
      fun j d hd own => .inl (marks j d hd own).1, fun _ => ⟨first, taken, marks⟩, fun other => absurd found other⟩
  | some g =>
    have old := restart g found
    dsimp only
    rw [if_pos old.2.2.2]
    have joined : ∃ o g', (if held = g.id then s else joinGroup a n g s) = o ∧ o.tgr.groups.get a.unit = some g'
        ∧ AtRestart a.stamp g' ∧ g'.id = g.id ∧ o.tgr.closed = s.tgr.closed ∧ o.elapsed = s.elapsed ∧ o.rha = s.rha
        ∧ ∀ j d, o.slot a.unit j = some d → d.number = n →
            d.groupId = g.id ∨ held = g.id ∧ s.slot a.unit j = some d := by
      refine ⟨if held = g.id then s else joinGroup a n g s, ?_⟩
      split
      · rename_i member
        exact ⟨g, rfl, found, old, rfl, rfl, rfl, rfl, fun j d hd _ => .inr ⟨member, hd⟩⟩
      · obtain ⟨g', group, fresh, same, closed, opened⟩ := joinGroup_gathers a n s old
        exact ⟨g', rfl, group, fresh, same, closed, State.elapsed_congr (by simp), by simp,
          fun j d hd own => .inl (opened j d hd own)⟩
    obtain ⟨o, g', ho, group, fresh, same, closed, elapsed, rha, opened⟩ := joined
    rw [ho]
    have tgr : (tripIfStops a o).tgr = o.tgr := by simp
    have ct : (tripIfStops a o).ct = o.ct := by simp
    have rha' : (tripIfStops a o).rha = s.rha := Eq.trans (by simp) rha
    have tb : (tripIfStops a o).tb = o.tb := by simp
    have present : (tripIfStops a o).elapsed = a.stamp.elapsed := by rw [State.elapsed_congr tb, elapsed, now]
    rw [closeIfDue_standing (g := g') (by rw [tgr, group]) (present ▸ fresh.2)]
    exact ⟨g', by rw [tgr, group], fresh, fun g'' some => by rw [same, Option.some.inj (found.symm.trans some)],
      by rw [tgr, closed], fun j d hd own => by rw [same]; exact opened j d (State.slot_congr ct _ _ ▸ hd) own,
      fun none => absurd (found.symm.trans none) (by simp), fun _ => rha'⟩

end Sys2Proof.Proofs
end

section
/-! PROOFS. One input read at a start: what it hands on, and what that leaves of the cases, the groups and the accounts
(R51, R58 to R65, R71, R83 to R90). -/

namespace Sys2Proof.Proofs

open Sys2Proof.Machine Sys2Proof.Safety

/-! ### What an input hands on (R51) -/

/-- The assertion that a start hands on for an input (R51). -/
def restartAssertion (x : Stamp) (s : State) (y : UnitId × InputId) : Assertion :=
  (s.input y.1 y.2).assertion y.1 y.2 x (s.tiu.testMode.get y.1)

/-- What a start does with one input, case by case (R51, R58, R64, R65). -/
inductive HandsOn (x : Stamp) (s : State) (y : UnitId × InputId) : State → Prop
  | rests (agree : (s.input y.1 y.2).filter = .asserted ↔
      ∃ j c, s.inputCase y.1 y.2 = some (j, c) ∧ c.asserted = true) : HandsOn x s y s
  | releases (j : SlotId) (c : Case) (idle : (s.input y.1 y.2).filter ≠ .asserted)
      (found : s.inputCase y.1 y.2 = some (j, c)) (held : c.asserted = true) :
      HandsOn x s y (evalCaseLamp (report [y.1] (s.setSlot y.1 j (some (c.released none)))))
  | overflows (asserted : (s.input y.1 y.2).filter = .asserted)
      (full : (s.inputCase y.1 y.2 = none ∧ (s.caseSet y.1).allocate = none)
        ∨ ∃ j c, s.inputCase y.1 y.2 = some (j, c) ∧ c.asserted = false ∧ c.test ≠ s.tiu.testMode.get y.1) :
      HandsOn x s y (evalCaseLamp (report [y.1] (overflowAssertion (restartAssertion x s y) s)))
  | opens (j : SlotId) (asserted : (s.input y.1 y.2).filter = .asserted) (new : s.inputCase y.1 y.2 = none)
      (free : (s.caseSet y.1).allocate = some j) :
      HandsOn x s y (evalCaseLamp (report [y.1] (placeCase (restartAssertion x s y)
        (openedCase (restartAssertion x s y) j s).number 0 (openCase (restartAssertion x s y) j s))))
  | retrips (j : SlotId) (c : Case) (asserted : (s.input y.1 y.2).filter = .asserted)
      (found : s.inputCase y.1 y.2 = some (j, c)) (released : c.asserted = false)
      (same : c.test = s.tiu.testMode.get y.1) :
      HandsOn x s y (evalCaseLamp (report [y.1] (placeCase (restartAssertion x s y) c.number c.groupId
        (retripCase (restartAssertion x s y) j c s))))

/-- An assertion handed on, by what it finds of the input's case (R58). -/
theorem takeAssertion_handsOn (x : Stamp) (s : State) (y : UnitId × InputId)
    (asserted : (s.input y.1 y.2).filter = .asserted)
    (released : ∀ j c, s.inputCase y.1 y.2 = some (j, c) → c.asserted = false) :
    HandsOn x s y (takeAssertion (restartAssertion x s y) s) := by
  cases found : s.inputCase y.1 y.2 with
  | none =>
    cases free : (s.caseSet y.1).allocate with
    | none =>
      have overflow : assertionResult (restartAssertion x s y) s = overflowAssertion (restartAssertion x s y) s := by
        have found' : s.inputCase (restartAssertion x s y).unit (restartAssertion x s y).input = none := found
        have free' : (s.caseSet (restartAssertion x s y).unit).allocate = none := free
        simp only [assertionResult, found', free']
      rw [takeAssertion, overflow]
      exact .overflows asserted (.inl ⟨found, free⟩)
    | some j =>
      rw [takeAssertion_opens (j := j) (a := restartAssertion x s y) found free]
      exact .opens j asserted found free
  | some z =>
    obtain ⟨j, c⟩ := z
    have found' : s.inputCase (restartAssertion x s y).unit (restartAssertion x s y).input = some (j, c) := found
    by_cases same : c.test = s.tiu.testMode.get y.1
    · have result : assertionResult (restartAssertion x s y) s = placeCase (restartAssertion x s y) c.number c.groupId
          (retripCase (restartAssertion x s y) j c s) := by
        have same' : c.test = (restartAssertion x s y).test := same
        simp only [assertionResult, found', if_pos same']
      rw [takeAssertion, result]
      exact .retrips j c asserted found (released j c found) same
    · have result : assertionResult (restartAssertion x s y) s = overflowAssertion (restartAssertion x s y) s := by
        have same' : ¬ c.test = (restartAssertion x s y).test := same
        simp only [assertionResult, found', if_neg same']
      rw [takeAssertion, result]
      exact .overflows asserted (.inr ⟨j, c, found, released j c found, same⟩)

theorem handOnRestart_handsOn (x : Stamp) (s : State) (y : UnitId × InputId) :
    HandsOn x s y (handOnRestart x s y) := by
  have assertion : (s.input y.1 y.2).assertion y.1 y.2 x (s.tiu.testMode.get y.1) = restartAssertion x s y := rfl
  simp only [handOnRestart, assertion]
  cases found : s.inputCase y.1 y.2 with
  | none =>
    by_cases asserted : (s.input y.1 y.2).filter = .asserted
    · rw [if_pos asserted, if_neg (by decide)]
      exact takeAssertion_handsOn x s y asserted fun j c some => absurd (found.symm.trans some) (by simp)
    · rw [if_neg asserted, if_neg (by decide)]
      exact .rests (iff_of_false asserted fun ⟨j, c, h, _⟩ => absurd (found.symm.trans h) (by simp))
  | some z =>
    obtain ⟨j, c⟩ := z
    dsimp only
    have only {k : SlotId} {d : Case} (h : s.inputCase y.1 y.2 = some (k, d)) : d = c :=
      (Prod.mk.inj (Option.some.inj (h.symm.trans found))).2
    by_cases asserted : (s.input y.1 y.2).filter = .asserted
    · rw [if_pos asserted]
      by_cases held : c.asserted = true
      · rw [if_pos held]
        exact .rests (iff_of_true asserted ⟨j, c, found, held⟩)
      · rw [if_neg held]
        exact takeAssertion_handsOn x s y asserted fun k d h => by rw [only h]; exact Bool.eq_false_of_not_eq_true held
    · rw [if_neg asserted]
      by_cases held : c.asserted = true
      · rw [if_pos held, takeRelease_of_asserted found held]
        exact .releases j c asserted found held
      · rw [if_neg held]
        exact .rests (iff_of_false asserted fun ⟨k, d, h, held'⟩ => held (only h ▸ held'))

/-! ### A case written to a slot -/

/-- One slot takes a case; the other slots, the overflow records, the groups and the accounts stand. -/
structure SlotPut (u : UnitId) (j : SlotId) (d : Case) (s m : State) : Prop where
  slots : ∀ v l, m.slot v l = if v = u ∧ l = j then some d else s.slot v l
  elsewhere : ∀ v, v ≠ u → m.caseSet v = s.caseSet v
  overflow : m.ct.overflow = s.ct.overflow
  tb : m.tb = s.tb
  tgr : m.tgr = s.tgr
  rha : m.rha = s.rha

theorem setSlot_put (u : UnitId) (j : SlotId) (d : Case) (s : State) : SlotPut u j d s (s.setSlot u j (some d)) where
  slots v l := State.slot_setSlot s u v j l (some d)
  elsewhere v other := by rw [State.setSlot, State.caseSet_setCaseSet, if_neg other]
  overflow := rfl
  tb := rfl
  tgr := rfl
  rha := rfl

theorem openCase_put (a : Assertion) (j : SlotId) (s : State) :
    SlotPut a.unit j (openedCase a j s) s (openCase a j s) where
  slots := openCase_slot a j s
  elsewhere := (openCase_caseSet a j s).2
  overflow := rfl
  tb := by simp
  tgr := by simp
  rha := by simp

/-- A case after a re-trip by an assertion (R63). -/
def retrippedCase (a : Assertion) (c : Case) (s : State) : Case :=
  c.retripped a.stamp (s.unit a.unit).mode (s.account a.unit .gen).lifetime

theorem retripCase_put (a : Assertion) (j : SlotId) (c : Case) (s : State) :
    SlotPut a.unit j (retrippedCase a c s) s (retripCase a j c s) where
  slots v l := by
    unfold retripCase
    rw [State.slot_congr (raiseFor_frame _ _ _).2.2.2.1, touchSlot_slot, State.slot_setSlot]
    rfl
  elsewhere v other := by
    unfold retripCase
    rw [State.caseSet_congr (raiseFor_frame _ _ _).2.2.2.1, touchSlot, State.caseSet_setCaseSet, if_neg other,
      State.setSlot, State.caseSet_setCaseSet, if_neg other]
  overflow := rfl
  tb := by simp
  tgr := by simp
  rha := by simp

/-! ### The groups after an input is read -/

/-- A case keeps its group id or takes the OPEN group's, and with no group OPEN keeps its PROVISIONAL mark. -/
structure Regrouped (u : UnitId) (t : State) (c d : Case) : Prop where
  same : SameButGroup c d
  group : d.groupId = c.groupId ∨ ∃ g, t.tgr.groups.get u = some g ∧ d.groupId = g.id
  provisional : t.tgr.groups.get u = none → d.provisional = c.provisional

/-- TRIPS of a unit counts once when its group opens, and not while the group stands (R85). -/
structure TripsRead (u : UnitId) (s t : State) : Prop where
  rests : s.tgr.groups.get u = none → t.tgr.groups.get u = none → TripsStand u s t
  opens : s.tgr.groups.get u = none → t.tgr.groups.get u ≠ none → TripTaken u s t
  stands : s.tgr.groups.get u ≠ none → t.tgr.groups.get u ≠ none ∧ TripsStand u s t

/-- What a placing leaves of a unit's cases and group, and of every TRIPS account. -/
structure Regrouping (x : Stamp) (u : UnitId) (s t : State) : Prop where
  cases : EachCase (Regrouped u t) s t u
  elsewhere : ∀ v, v ≠ u → t.caseSet v = s.caseSet v
  overflow : t.ct.overflow = s.ct.overflow
  closed : t.tgr.closed = s.tgr.closed
  groups : ∀ g, s.tgr.groups.get u = some g → ∃ g', t.tgr.groups.get u = some g' ∧ g'.id = g.id
  restart : ∀ g, t.tgr.groups.get u = some g → AtRestart x g
  trips : TripsRead u s t
  others : ∀ v, v ≠ u → TripsStand v s t

theorem TripsRead.of_eq {u : UnitId} {s t : State} (rha : t.rha = s.rha) (tgr : t.tgr = s.tgr) : TripsRead u s t :=
  ⟨fun _ _ => .of_rha rha u, fun none some => absurd (tgr ▸ none) some, fun some => ⟨tgr ▸ some, .of_rha rha u⟩⟩

theorem TripsRead.trans {u : UnitId} {s t r : State} (h : TripsRead u s t) (h' : TripsRead u t r) :
    TripsRead u s r := by
  refine ⟨fun none none' => ?_, fun none some => ?_, fun some => ?_⟩
  · by_cases mid : t.tgr.groups.get u = .none
    · exact (h.rests none mid).trans (h'.rests mid none')
    · exact absurd none' (h'.stands mid).1
  · by_cases mid : t.tgr.groups.get u = .none
    · exact (h.rests none mid).taken (h'.opens mid some)
    · exact (h.opens none mid).stand (h'.stands mid).2
  · obtain ⟨mid, stand⟩ := h.stands some
    obtain ⟨last, stand'⟩ := h'.stands mid
    exact ⟨last, stand.trans stand'⟩

namespace Regrouping

variable {x : Stamp} {u : UnitId} {s t r : State}

theorem of_eq (ct : t.ct = s.ct) (tgr : t.tgr = s.tgr) (rha : t.rha = s.rha)
    (restart : ∀ g, s.tgr.groups.get u = some g → AtRestart x g) : Regrouping x u s t where
  cases := .of_ct (fun c => ⟨.refl c, .inl rfl, fun _ => rfl⟩) ct u
  elsewhere v _ := State.caseSet_congr ct v
  overflow := by rw [ct]
  closed := by rw [tgr]
  groups g found := ⟨g, by rw [tgr, found], rfl⟩
  restart g found := restart g (tgr ▸ found)
  trips := .of_eq rha tgr
  others v _ := .of_rha rha v

theorem congr (h : Regrouping x u s t) (ct : r.ct = t.ct) (tgr : r.tgr = t.tgr) (rha : r.rha = t.rha) :
    Regrouping x u s r where
  cases j := by
    rw [State.slot_congr ct]
    refine ⟨fun c hc => ?_, (h.cases j).2⟩
    obtain ⟨d, hd, same, group, provisional⟩ := (h.cases j).1 c hc
    exact ⟨d, hd, same, by rw [tgr]; exact group, by rw [tgr]; exact provisional⟩
  elsewhere v other := (State.caseSet_congr ct v).trans (h.elsewhere v other)
  overflow := by rw [ct, h.overflow]
  closed := by rw [tgr, h.closed]
  groups := by rw [tgr]; exact h.groups
  restart := by rw [tgr]; exact h.restart
  trips := h.trips.trans (.of_eq rha tgr)
  others v other := (h.others v other).trans (.of_rha rha v)

end Regrouping

theorem placeCase_others (a : Assertion) (n held : Nat) (s : State) {v : UnitId} (h : v ≠ a.unit) :
    TripsStand v s (placeCase a n held s) := by
  have opening (s : State) : TripsStand v s (placeByOpening a n s) := by
    have opened : TripsStand v s (openGroup a n s) := .of_rha (by simp) v
    have tripped (s : State) : TripsStand v s (tripIfStops a s) := .of_rha (by simp) v
    exact (opened.trans (countOne_tripsStand h _)).trans (tripped _)
  unfold placeCase
  split
  · exact .of_rha rfl v
  · split
    · exact opening s
    · split
      · exact .of_rha (by split <;> simp) v
      · exact .trans (.of_rha (by simp) v) (opening _)

/-- A placing at a restart stamp, of a case marked TEST or not (R84, R90). -/
theorem placeCase_regrouping {a : Assertion} {n held : Nat} {s : State} (now : a.stamp.elapsed = s.elapsed)
    (restart : ∀ g, s.tgr.groups.get a.unit = some g → AtRestart a.stamp g) :
    Regrouping a.stamp a.unit s (placeCase a n held s) := by
  cases test : a.test with
  | true =>
    have stays : placeCase a n held s = s := by rw [placeCase, if_pos test]
    rw [stays]
    exact .of_eq rfl rfl rfl restart
  | false =>
    obtain ⟨g, gathered⟩ := placeCase_gathers (n := n) (held := held) test now restart
    have marked := Marked.placeCase a n held s
    have others (v : UnitId) (other : v ≠ a.unit) := placeCase_others a n held s other
    generalize placeCase a n held s = t at *
    have some : t.tgr.groups.get a.unit ≠ none := by rw [gathered.group]; simp
    exact {
      elsewhere := marked.elsewhere, overflow := marked.overflow, closed := gathered.closed, others := others
      cases := fun j => by
        refine ⟨fun c hc => ?_, (marked.cases j).2⟩
        obtain ⟨d, hd, same, group⟩ := (marked.cases j).1 c hc
        refine ⟨d, hd, same, ?_, fun none => absurd none some⟩
        by_cases own : c.number = n
        · rcases gathered.member j d hd (same.number.trans own) with joined | ⟨-, stays⟩
          · exact .inr ⟨g, gathered.group, joined⟩
          · rw [hc] at stays; exact .inl (by rw [Option.some.inj stays])
        · exact .inl (group own)
      groups := fun g' found => ⟨g, gathered.group, gathered.same g' found⟩
      restart := fun g' found => Option.some.inj (gathered.group.symm.trans found) ▸ gathered.restart
      trips := ⟨fun _ none => absurd none some, fun none _ => (gathered.first none).2.1,
        fun old => ⟨some, .of_rha (gathered.later old) _⟩⟩ }

end Sys2Proof.Proofs
end

section
/-! PROOFS. What the reading of one input at a start leaves of the part (R51, R58 to R65, R71, R83 to R90). -/

namespace Sys2Proof.Proofs

open Sys2Proof.Machine Sys2Proof.Safety

/-! ### The slots -/

/-- A slot of a unit keeps its case, which may take a group, or stays empty. -/
def SlotKept (u : UnitId) (s t : State) (l : SlotId) : Prop :=
  (∀ c, s.slot u l = some c → ∃ d, t.slot u l = some d ∧ Regrouped u t c d) ∧ (s.slot u l = none → t.slot u l = none)

/-- A case keeps the number and the PROVISIONAL mark of the one before it in its slot, or has a number that no other
case holds, and no PROVISIONAL mark. -/
def Numbered (u : UnitId) (l : SlotId) (s : State) (d : Case) : Prop :=
  (∃ c, s.slot u l = some c ∧ d.number = c.number ∧ d.provisional = c.provisional)
    ∨ (∀ v k c, s.slot v k = some c → (v, k) ≠ (u, l) → c.number ≠ d.number) ∧ d.provisional = false

/-- A slot takes a case of the input read, over that input's own case, a CLEARED one or none (R59, R63). -/
structure SlotWritten (y : UnitId × InputId) (s t : State) (l : SlotId) : Prop where
  replaced : ∀ c, s.slot y.1 l = some c → c.input = y.2 ∨ c.state = .cleared
  own : ∃ d e, t.slot y.1 l = some e ∧ Regrouped y.1 t d e ∧ d.input = y.2 ∧ Numbered y.1 l s d

/-- What the reading of an input leaves of the cases, the groups and the TRIPS accounts. -/
structure CasesRead (x : Stamp) (y : UnitId × InputId) (s t : State) : Prop where
  slots : ∀ l, SlotKept y.1 s t l ∨ SlotWritten y s t l
  elsewhere : ∀ v, v ≠ y.1 → t.caseSet v = s.caseSet v
  overflow : ∀ v, t.ct.overflow.get v = s.ct.overflow.get v
    ∨ t.ct.overflow.get v = (s.ct.overflow.get v).counted y.2 x
  closed : t.tgr.closed = s.tgr.closed
  groups : ∀ g, s.tgr.groups.get y.1 = some g → ∃ g', t.tgr.groups.get y.1 = some g' ∧ g'.id = g.id
  restart : ∀ g, t.tgr.groups.get y.1 = some g → AtRestart x g
  trips : TripsRead y.1 s t
  others : ∀ v, v ≠ y.1 → TripsStand v s t

namespace CasesRead

variable {x : Stamp} {y : UnitId × InputId} {s m t : State}

/-- Where no slot is written, the input read at most overflows. -/
theorem of_slots (slots : ∀ v k, t.slot v k = s.slot v k) (elsewhere : ∀ v, v ≠ y.1 → t.caseSet v = s.caseSet v)
    (overflow : ∀ v, t.ct.overflow.get v = s.ct.overflow.get v
      ∨ t.ct.overflow.get v = (s.ct.overflow.get v).counted y.2 x)
    (tgr : t.tgr = s.tgr) (rha : t.rha = s.rha) (restart : ∀ g, s.tgr.groups.get y.1 = some g → AtRestart x g) :
    CasesRead x y s t where
  slots l := .inl (by
    rw [SlotKept, slots]
    exact ⟨fun c hc => ⟨c, hc, .refl c, .inl rfl, fun _ => rfl⟩, id⟩)
  elsewhere := elsewhere
  overflow := overflow
  closed := by rw [tgr]
  groups g found := ⟨g, tgr ▸ found, rfl⟩
  restart g found := restart g (tgr ▸ found)
  trips := .of_eq rha tgr
  others v _ := .of_rha rha v

/-- Where a slot is written and the unit's cases are then grouped. -/
theorem of_put {j : SlotId} {d : Case} (put : SlotPut y.1 j d s m) (group : Regrouping x y.1 m t)
    (input : d.input = y.2) (replaced : ∀ c, s.slot y.1 j = some c → c.input = y.2 ∨ c.state = .cleared)
    (number : Numbered y.1 j s d) : CasesRead x y s t where
  slots l := by
    have slot := put.slots y.1 l
    by_cases own : l = j
    · subst own
      rw [if_pos ⟨rfl, rfl⟩] at slot
      obtain ⟨e, he, regrouped⟩ := (group.cases l).1 d slot
      exact .inr ⟨replaced, d, e, he, regrouped, input, number⟩
    · rw [if_neg fun both => own both.2] at slot
      exact .inl (by rw [SlotKept, ← slot]; exact group.cases l)
  elsewhere v other := (group.elsewhere v other).trans (put.elsewhere v other)
  overflow v := .inl (by rw [group.overflow, put.overflow])
  closed := by rw [group.closed, put.tgr]
  groups g found := group.groups g (put.tgr ▸ found)
  restart := group.restart
  trips := (TripsRead.of_eq put.rha put.tgr).trans group.trips
  others v other := (TripsStand.of_rha put.rha v).trans (group.others v other)

end CasesRead

/-- The slot given to a new case is INVALID or holds a CLEARED case (R59). -/
theorem allocate_replaces {c : CaseSet} {j : SlotId} (h : c.allocate = some j) {d : Case}
    (held : c.slots.get j = some d) : d.state = .cleared := by
  have cleared (free : isCleared (c.slots.get j) = true) : d.state = .cleared := by
    rw [held] at free
    simpa [isCleared] using free
  unfold CaseSet.allocate at h
  split at h
  · rename_i i found
    obtain rfl := Option.some.inj h
    have := List.find?_some found
    rw [held] at this; cases this
  · split at h
    · rename_i free
      obtain rfl := Option.some.inj h
      exact cleared free
    · exact cleared (List.find?_some (p := fun i => isCleared (c.slots.get i)) h)

/-! ### One input -/

theorem overflowAssertion_ct (a : Assertion) (s : State) : (overflowAssertion a s).ct = { s.ct with
    overflow := s.ct.overflow.set a.unit ((s.ct.overflow.get a.unit).counted a.input a.stamp) } := by
  unfold overflowAssertion
  rw [(raiseFor_frame _ _ _).2.2.2.1]
  split <;> rfl

/-- A case placed at a restart stamp and reported (R73, R84). -/
theorem placed_regrouping {a : Assertion} {n held : Nat} {m : State} (now : a.stamp.elapsed = m.elapsed)
    (restart : ∀ g, m.tgr.groups.get a.unit = some g → AtRestart a.stamp g) :
    Regrouping a.stamp a.unit m (evalCaseLamp (report [a.unit] (placeCase a n held m))) := by
  obtain ⟨ct, tgr, rha, -⟩ := reported_blocks a.unit (placeCase a n held m)
  exact (placeCase_regrouping now restart).congr ct tgr rha

/-- What the reading of one input leaves, where every group OPEN in its unit is at the restart stamp. -/
theorem handOnRestart_casesRead {x : Stamp} {s : State} {y : UnitId × InputId} (now : x.elapsed = s.elapsed)
    (restart : ∀ g, s.tgr.groups.get y.1 = some g → AtRestart x g) : CasesRead x y s (handOnRestart x s y) := by
  have placed {j : SlotId} {d : Case} {n held : Nat} {m : State} (put : SlotPut y.1 j d s m) : Regrouping x y.1 m
      (evalCaseLamp (report [y.1] (placeCase (restartAssertion x s y) n held m))) :=
    placed_regrouping (a := restartAssertion x s y) (now.trans (State.elapsed_congr put.tb.symm))
      (by rw [put.tgr]; exact restart)
  have hands := handOnRestart_handsOn x s y
  generalize handOnRestart x s y = t at hands
  cases hands with
  | rests => exact .of_slots (fun _ _ => rfl) (fun _ _ => rfl) (fun _ => .inl rfl) rfl rfl restart
  | releases j c idle found held =>
    obtain ⟨slot, input, -⟩ := inputCase_slot found
    obtain ⟨ct, tgr, rha, -⟩ := reported_blocks y.1 (s.setSlot y.1 j (some (c.released none)))
    refine .of_put (setSlot_put y.1 j (c.released none) s) (.of_eq ct tgr rha restart) input (fun d hd => .inl ?_)
      (.inl ⟨c, slot, rfl, rfl⟩)
    rw [← Option.some.inj (slot.symm.trans hd), input]
  | overflows =>
    obtain ⟨ct, tgr, rha, -⟩ := reported_blocks y.1 (overflowAssertion (restartAssertion x s y) s)
    have counted := ct.trans (overflowAssertion_ct (restartAssertion x s y) s)
    have sets := congrArg (·.sets) counted
    have caseSet (v : UnitId) : (evalCaseLamp (report [y.1] (overflowAssertion (restartAssertion x s y) s))).caseSet v
        = s.caseSet v := congrArg (·.get v) sets
    refine .of_slots (fun v k => congrArg (·.slots.get k) (caseSet v)) (fun v _ => caseSet v) (fun v => ?_)
      (tgr.trans (by simp)) (rha.trans (by simp)) restart
    rw [counted, PerUnit.get_set]
    split
    · rename_i own; rw [own]; exact .inr rfl
    · exact .inl rfl
  | opens j asserted new free =>
    have put : SlotPut y.1 j _ s _ := openCase_put (restartAssertion x s y) j s
    refine .of_put put (placed put) rfl
      (fun d hd => .inr (allocate_replaces free hd)) (.inr ⟨fun v k c hc other => ?_, rfl⟩)
    exact openedCase_number _ j s hc other
  | retrips j c asserted found released same =>
    obtain ⟨slot, input, -⟩ := inputCase_slot found
    have put : SlotPut y.1 j _ s _ := retripCase_put (restartAssertion x s y) j c s
    refine .of_put put (placed put) input (fun d hd => .inl ?_) (.inl ⟨c, slot, rfl, rfl⟩)
    rw [← Option.some.inj (slot.symm.trans hd), input]

/-- The groups of the other units stand (R84). -/
theorem handOnRestart_groups (x : Stamp) (s : State) (y : UnitId × InputId) {v : UnitId} (h : v ≠ y.1) :
    (handOnRestart x s y).tgr.groups.get v = s.tgr.groups.get v := by
  simp only [handOnRestart]
  (repeat' split) <;> first
    | rfl
    | exact takeAssertion_groups _ _ h
    | rw [(takeRelease_frame _ _ _ _).2.2.2.1]

/-- An input not found closed and enabled leaves every group (R51). -/
theorem handOnRestart_idle {x : Stamp} {s : State} {y : UnitId × InputId}
    (h : (s.input y.1 y.2).filter ≠ .asserted) : (handOnRestart x s y).tgr = s.tgr := by
  simp only [handOnRestart, if_neg h]
  (repeat' split) <;> first
    | rfl
    | rw [(takeRelease_frame _ _ _ _).2.2.2.1]

theorem handOnRestart_stands (x : Stamp) (s : State) (y : UnitId × InputId) :
    RecordsStand (· ≠ .trips) s (handOnRestart x s y) := by
  simp only [handOnRestart]
  (repeat' split) <;> first
    | exact .refl s
    | exact takeAssertion_stands _ s
    | exact takeRelease_stands _ _ _ _ s

end Sys2Proof.Proofs
end

section
/-! PROOFS. The reading of the inputs one after the other: what it leaves of the whole part, and of the cases of an
input that it does not reach (R51). -/

namespace Sys2Proof.Proofs

open Sys2Proof.Machine Sys2Proof.Safety

/-! ### The reading under way -/

/-- A start is reading its inputs: the instant stands, the inputs are rebuilt, and each OPEN group is one that the
reading opened (R51, R92). -/
structure Reading (v : State) (x : Stamp) (t : State) : Prop where
  tb : t.tb = v.tb
  tiu : t.tiu = rebuildInputs v.tiu
  restart : ∀ u g, t.tgr.groups.get u = some g → AtRestart x g

theorem Reading.casesRead {v t : State} {x : Stamp} (h : Reading v x t) (now : x.elapsed = v.elapsed)
    (y : UnitId × InputId) : CasesRead x y t (handOnRestart x t y) :=
  handOnRestart_casesRead (now.trans (State.elapsed_congr h.tb.symm)) (h.restart y.1)

theorem Reading.next {v t : State} {x : Stamp} (h : Reading v x t) (now : x.elapsed = v.elapsed)
    (y : UnitId × InputId) : Reading v x (handOnRestart x t y) := by
  obtain ⟨tb, -, tiu, -⟩ := handOnRestart_frame x y t
  refine ⟨tb.trans h.tb, tiu.trans h.tiu, fun u g found => ?_⟩
  by_cases own : u = y.1
  · exact (h.casesRead now y).restart g (own ▸ found)
  · rw [handOnRestart_groups x t y own] at found
    exact h.restart u g found

/-- A relation that the reading of each input of a list keeps holds over the list. -/
theorem Reading.fold {R : State → State → Prop} (refl : ∀ s, R s s) (trans : ∀ {s t r}, R s t → R t r → R s r)
    {v t : State} {x : Stamp} (now : x.elapsed = v.elapsed) {l : List (UnitId × InputId)}
    (one : ∀ t, Reading v x t → ∀ y ∈ l, R t (handOnRestart x t y)) (h : Reading v x t) :
    R t (l.foldl (handOnRestart x) t) ∧ Reading v x (l.foldl (handOnRestart x) t) := by
  induction l generalizing t with
  | nil => exact ⟨refl t, h⟩
  | cons y l ih =>
    obtain ⟨rest, reading⟩ := ih (fun t h z hz => one t h z (List.mem_cons_of_mem y hz)) (h.next now y)
    exact ⟨trans (one t h y List.mem_cons_self) rest, reading⟩

/-! ### The whole part -/

/-- No case of a number in a unit is PROVISIONAL. -/
def Unmarked (u : UnitId) (n : Nat) (s : State) : Prop :=
  ∀ j c, s.slot u j = some c → c.number = n → c.provisional = false

/-- What the reading of any inputs keeps. -/
structure Ahead (x : Stamp) (s t : State) : Prop where
  stands : RecordsStand (· ≠ .trips) s t
  notices : NoticesStay s t
  trips : ∀ u, TripsRead u s t
  closed : t.tgr.closed = s.tgr.closed
  groups : ∀ u g, s.tgr.groups.get u = some g → ∃ g', t.tgr.groups.get u = some g' ∧ g'.id = g.id
  seen : ∀ u i, (s.ct.overflow.get u).seen.get i = true → (t.ct.overflow.get u).seen.get i = true
  last : ∀ u, (s.ct.overflow.get u).last = some x → (t.ct.overflow.get u).last = some x
  unmarked : ∀ u n, t.tgr.groups.get u = none → Unmarked u n s → Unmarked u n t

namespace Ahead

variable {x : Stamp} {s t r : State}

theorem refl (s : State) : Ahead x s s :=
  ⟨.refl s, .refl s, fun _ => .of_eq rfl rfl, rfl, fun _ g found => ⟨g, found, rfl⟩, fun _ _ => id, fun _ => id,
    fun _ _ _ => id⟩

theorem rebuilt (s : State) : Ahead x s { s with tiu := rebuildInputs s.tiu } :=
  ⟨.of_frame rfl rfl rfl rfl, .of_lnu rfl, fun _ => .of_eq rfl rfl, rfl, fun _ g found => ⟨g, found, rfl⟩,
    fun _ _ => id, fun _ => id, fun _ _ _ => id⟩

theorem trans (h : Ahead x s t) (h' : Ahead x t r) : Ahead x s r where
  stands := h.stands.trans h'.stands
  notices := h.notices.trans h'.notices
  trips u := (h.trips u).trans (h'.trips u)
  closed := h'.closed.trans h.closed
  groups u g found := by
    obtain ⟨g', found', same⟩ := h.groups u g found
    obtain ⟨g'', found'', same'⟩ := h'.groups u g' found'
    exact ⟨g'', found'', same'.trans same⟩
  seen u i := h'.seen u i ∘ h.seen u i
  last u := h'.last u ∘ h.last u
  unmarked u n none quiet := by
    refine h'.unmarked u n none (h.unmarked u n ?_ quiet)
    cases found : t.tgr.groups.get u with
    | none => rfl
    | some g =>
      obtain ⟨g', found', -⟩ := h'.groups u g found
      exact absurd (none.symm.trans found') (by simp)

end Ahead

/-- With no group OPEN in the end, no case read takes a PROVISIONAL mark. -/
theorem CasesRead.unmarked {x : Stamp} {y : UnitId × InputId} {s t : State} (h : CasesRead x y s t) {n : Nat}
    (none : t.tgr.groups.get y.1 = none) (quiet : Unmarked y.1 n s) : Unmarked y.1 n t := by
  intro j e he number
  rcases h.slots j with ⟨kept, empty⟩ | written
  · cases slot : s.slot y.1 j with
    | none => rw [empty slot] at he; cases he
    | some c =>
      obtain ⟨d, hd, same, -, provisional⟩ := kept c slot
      obtain rfl := Option.some.inj (hd.symm.trans he)
      rw [provisional none]
      exact quiet j c slot (same.number.symm.trans number)
  · obtain ⟨-, d, e', he', regrouped, -, numbered⟩ := written
    obtain rfl := Option.some.inj (he'.symm.trans he)
    rw [regrouped.provisional none]
    rcases numbered with ⟨c, slot, same, provisional⟩ | ⟨-, provisional⟩
    · rw [provisional]
      exact quiet j c slot (same.symm.trans (regrouped.same.number.symm.trans number))
    · exact provisional

theorem Reading.ahead {v t : State} {x : Stamp} (h : Reading v x t) (now : x.elapsed = v.elapsed)
    (y : UnitId × InputId) : Ahead x t (handOnRestart x t y) := by
  have read := h.casesRead now y
  have stands := handOnRestart_stands x t y
  have notices := NoticesStay.handOnRestart x t y
  have groups (u : UnitId) (other : u ≠ y.1) := handOnRestart_groups x t y other
  generalize handOnRestart x t y = r at *
  refine ⟨stands, notices, fun u => ?_, read.closed, fun u g found => ?_, fun u i seen => ?_, fun u last => ?_,
    fun u n none quiet => ?_⟩
  · by_cases own : u = y.1
    · exact own ▸ read.trips
    · have same := groups u own
      exact ⟨fun _ _ => read.others u own, fun none some => absurd (same.trans none) some,
        fun some => ⟨same ▸ some, read.others u own⟩⟩
  · by_cases own : u = y.1
    · subst own; exact read.groups g found
    · exact ⟨g, (groups u own).trans found, rfl⟩
  · rcases read.overflow u with same | counted
    · rw [same, seen]
    · rw [counted]
      refine (PerInput.get_set _ _ _ _).trans ?_
      split
      · rfl
      · exact seen
  · rcases read.overflow u with same | counted
    · rw [same, last]
    · rw [counted]; rfl
  · by_cases own : u = y.1
    · subst own; exact read.unmarked none quiet
    · intro j c hc
      rw [State.slot, read.elsewhere u own] at hc
      exact quiet j c hc

/-! ### The cases of an input not reached -/

/-- A slot holds a case of an input that is not CLEARED (R55). -/
def HoldsFor (s : State) (u : UnitId) (i : InputId) (j : SlotId) (c : Case) : Prop :=
  s.slot u j = some c ∧ c.input = i ∧ c.state ≠ .cleared

/-- What the search for an input's case takes of one slot (R55). -/
def slotCase (s : State) (u : UnitId) (i : InputId) (j : SlotId) : Option (SlotId × Case) :=
  match s.slot u j with
  | some c => if c.input = i ∧ c.state ≠ .cleared then some (j, c) else none
  | none => none

theorem inputCase_eq (s : State) (u : UnitId) (i : InputId) :
    s.inputCase u i = allSlots.findSome? (slotCase s u i) := rfl

theorem slotCase_some {s : State} {u : UnitId} {i : InputId} {j : SlotId} {c : Case} (h : HoldsFor s u i j c) :
    slotCase s u i j = some (j, c) := by
  obtain ⟨slot, own⟩ := h
  simp only [slotCase, slot, if_pos own]

theorem slotCase_none {s : State} {u : UnitId} {i : InputId} {j : SlotId} (h : ∀ c, ¬ HoldsFor s u i j c) :
    slotCase s u i j = none := by
  unfold slotCase
  split
  · rename_i c slot
    exact if_neg fun own => h c ⟨slot, own⟩
  · rfl

/-- Where the slots that hold an input's cases correspond, the case found for the input does (R55). -/
theorem inputCase_corresponds {R : Case → Case → Prop} {s t : State} {u : UnitId} {i : InputId}
    (forth : ∀ j c, HoldsFor s u i j c → ∃ d, HoldsFor t u i j d ∧ R c d)
    (back : ∀ j d, HoldsFor t u i j d → ∃ c, HoldsFor s u i j c) :
    (∀ j c, s.inputCase u i = some (j, c) → ∃ d, t.inputCase u i = some (j, d) ∧ R c d)
      ∧ (s.inputCase u i = none → t.inputCase u i = none) := by
  simp only [inputCase_eq]
  induction allSlots with
  | nil => simp
  | cons l ls ih =>
    simp only [List.findSome?_cons]
    by_cases held : ∃ c, HoldsFor s u i l c
    · obtain ⟨c, hc⟩ := held
      obtain ⟨d, hd, r⟩ := forth l c hc
      rw [slotCase_some hc, slotCase_some hd]
      refine ⟨fun j e found => ?_, fun none => nomatch none⟩
      obtain ⟨rfl, rfl⟩ := Prod.mk.inj (Option.some.inj found)
      exact ⟨d, rfl, r⟩
    · rw [slotCase_none fun c hc => held ⟨c, hc⟩, slotCase_none fun d hd => held (back l d hd)]
      exact ih

/-- What the reading of other inputs leaves of an input's own cases. -/
structure Elsewhere (u : UnitId) (i : InputId) (s t : State) : Prop where
  groups : ∀ g, s.tgr.groups.get u = some g → ∃ g', t.tgr.groups.get u = some g' ∧ g'.id = g.id
  forth : ∀ j c, HoldsFor s u i j c → ∃ d, HoldsFor t u i j d ∧ SameButGroup c d
    ∧ (d.groupId = c.groupId ∨ ∃ g, t.tgr.groups.get u = some g ∧ d.groupId = g.id)
  back : ∀ j d, HoldsFor t u i j d → ∃ c, HoldsFor s u i j c
  apart : ∀ j c, HoldsFor s u i j c → (∀ v k d, s.slot v k = some d → (v, k) ≠ (u, j) → d.number ≠ c.number) →
    ∀ v k d, t.slot v k = some d → (v, k) ≠ (u, j) → d.number ≠ c.number

theorem HoldsFor.of_same {s t : State} {u : UnitId} {i : InputId} {j : SlotId} {c d : Case} (h : HoldsFor s u i j c)
    (slot : t.slot u j = some d) (same : SameButGroup c d) : HoldsFor t u i j d := by
  obtain ⟨-, input, state⟩ := h
  exact ⟨slot, by rw [same]; exact input, by rw [same]; exact state⟩

theorem SameButGroup.symm {c d : Case} (h : SameButGroup c d) : SameButGroup d c := by
  unfold SameButGroup at *; rw [h]

namespace Elsewhere

variable {u : UnitId} {i : InputId} {s t r : State}

theorem refl (s : State) : Elsewhere u i s s :=
  ⟨fun g found => ⟨g, found, rfl⟩, fun _ c holds => ⟨c, holds, .refl c, .inl rfl⟩, fun _ d holds => ⟨d, holds⟩,
    fun _ _ _ => id⟩

theorem rebuilt (s : State) : Elsewhere u i s { s with tiu := rebuildInputs s.tiu } :=
  ⟨fun g found => ⟨g, found, rfl⟩, fun _ c holds => ⟨c, holds, .refl c, .inl rfl⟩, fun _ d holds => ⟨d, holds⟩,
    fun _ _ _ => id⟩

theorem trans (h : Elsewhere u i s t) (h' : Elsewhere u i t r) : Elsewhere u i s r where
  groups g found := by
    obtain ⟨g', found', same⟩ := h.groups g found
    obtain ⟨g'', found'', same'⟩ := h'.groups g' found'
    exact ⟨g'', found'', same'.trans same⟩
  forth j c holds := by
    obtain ⟨d, holds', same, group⟩ := h.forth j c holds
    obtain ⟨e, holds'', same', group'⟩ := h'.forth j d holds'
    refine ⟨e, holds'', same.trans same', ?_⟩
    rcases group' with kept | taken
    · rcases group with kept' | ⟨g, found, id⟩
      · exact .inl (kept.trans kept')
      · obtain ⟨g', found', id'⟩ := h'.groups g found
        exact .inr ⟨g', found', by rw [kept, id, id']⟩
    · exact .inr taken
  back j e holds := by
    obtain ⟨d, holds'⟩ := h'.back j e holds
    exact h.back j d holds'
  apart j c holds alone := by
    obtain ⟨d, holds', same, -⟩ := h.forth j c holds
    have alone' := h.apart j c holds alone
    rw [← same.number] at alone' ⊢
    exact h'.apart j d holds' alone'

/-- The case found for the input after the reading of other inputs. -/
theorem inputCase (h : Elsewhere u i s t) :
    (∀ j c, s.inputCase u i = some (j, c) → ∃ d, t.inputCase u i = some (j, d) ∧ SameButGroup c d
        ∧ (d.groupId = c.groupId ∨ ∃ g, t.tgr.groups.get u = some g ∧ d.groupId = g.id))
      ∧ (s.inputCase u i = none → t.inputCase u i = none) := inputCase_corresponds h.forth h.back

end Elsewhere

/-- The reading of another input, slot by slot. -/
theorem CasesRead.elsewhere_of {x : Stamp} {y : UnitId × InputId} {s t : State} (h : CasesRead x y s t) {u : UnitId}
    {i : InputId} (other : y ≠ (u, i)) (away : u ≠ y.1 → t.tgr.groups.get u = s.tgr.groups.get u) :
    Elsewhere u i s t := by
  have kept {j : SlotId} {c : Case} (own : u = y.1) (holds : HoldsFor s u i j c) : SlotKept y.1 s t j := by
    subst own
    refine (h.slots j).resolve_right fun written => ?_
    obtain ⟨slot, input, state⟩ := holds
    rcases written.replaced c slot with same | cleared
    · exact other (Prod.ext rfl (same.symm.trans input))
    · exact state cleared
  refine ⟨fun g found => ?_, fun j c holds => ?_, fun j d holds => ?_, fun j c holds alone v k e he place => ?_⟩
  · by_cases own : u = y.1
    · subst own; exact h.groups g found
    · exact ⟨g, (away own).trans found, rfl⟩
  · by_cases own : u = y.1
    · obtain ⟨d, hd, same, group, -⟩ := (kept own holds).1 c (own ▸ holds.1)
      rw [← own] at hd group
      exact ⟨d, holds.of_same hd same, same, group⟩
    · have slot : t.slot u j = s.slot u j := congrArg (·.slots.get j) (h.elsewhere u own)
      exact ⟨c, holds.of_same (slot.trans holds.1) (.refl c), .refl c, .inl rfl⟩
  · by_cases own : u = y.1
    · subst own
      rcases h.slots j with ⟨forward, empty⟩ | ⟨-, d', e, he, regrouped, input, -⟩
      · cases slot : s.slot y.1 j with
        | none => exact absurd ((empty slot).symm.trans holds.1) (by simp)
        | some c =>
          obtain ⟨e, he, same, -⟩ := forward c slot
          obtain rfl := Option.some.inj (he.symm.trans holds.1)
          exact ⟨c, holds.of_same slot same.symm⟩
      · obtain rfl := Option.some.inj (he.symm.trans holds.1)
        have read : e.input = y.2 := by rw [regrouped.same]; exact input
        exact absurd (show y = (y.1, i) from Prod.ext rfl (read.symm.trans holds.2.1)) other
    · have slot : t.slot u j = s.slot u j := congrArg (·.slots.get j) (h.elsewhere u own)
      exact ⟨d, holds.of_same (slot.symm.trans holds.1) (.refl d)⟩
  · by_cases own : v = y.1
    · subst own
      rcases h.slots k with ⟨forward, empty⟩ | ⟨-, d, e', he', regrouped, -, numbered⟩
      · cases slot : s.slot y.1 k with
        | none => exact absurd ((empty slot).symm.trans he) (by simp)
        | some d =>
          obtain ⟨e', he', same, -⟩ := forward d slot
          obtain rfl := Option.some.inj (he'.symm.trans he)
          rw [same.number]
          exact alone y.1 k d slot place
      · obtain rfl := Option.some.inj (he'.symm.trans he)
        rw [regrouped.same.number]
        rcases numbered with ⟨d', slot, number, -⟩ | ⟨fresh, -⟩
        · rw [number]; exact alone y.1 k d' slot place
        · exact (fresh u j c holds.1 place.symm).symm
    · have slot : t.slot v k = s.slot v k := congrArg (·.slots.get k) (h.elsewhere v own)
      exact alone v k e (slot.symm.trans he) place

theorem Reading.elsewhere {v t : State} {x : Stamp} (h : Reading v x t) (now : x.elapsed = v.elapsed)
    {y : UnitId × InputId} {u : UnitId} {i : InputId} (other : y ≠ (u, i)) :
    Elsewhere u i t (handOnRestart x t y) :=
  (h.casesRead now y).elsewhere_of other fun own => handOnRestart_groups x t y own

end Sys2Proof.Proofs
end

section
/-! PROOFS. The part of a reading before an input, the input itself, and the part after it (R51). -/

namespace Sys2Proof.Proofs

open Sys2Proof.Machine Sys2Proof.Safety

/-! ### A unit whose other inputs agree with their cases -/

theorem SameButGroup.asserted {c d : Case} (h : SameButGroup c d) : d.asserted = c.asserted := by rw [h]; rfl

/-- Each other input of a unit found closed and enabled has an asserted case (R51). -/
def Agreed (v : State) (u : UnitId) (i : InputId) (t : State) : Prop :=
  ∀ k, k ≠ i → FoundClosed v u k → ∃ j c, t.inputCase u k = some (j, c) ∧ c.asserted = true

/-- The cases of an input that is not reached still agree with it. -/
theorem Agreed.next {v s t : State} {u : UnitId} {i : InputId} (h : Agreed v u i s)
    (other : ∀ k, k ≠ i → FoundClosed v u k → Elsewhere u k s t) : Agreed v u i t := by
  intro k hk closed
  obtain ⟨j, c, found, held⟩ := h k hk closed
  obtain ⟨d, found', same, -⟩ := (other k hk closed).inputCase.1 j c found
  exact ⟨j, d, found', same.asserted.trans held⟩

/-- A unit's group and tree bits stand, and each of its slots, but for the release of cases of other inputs. -/
structure Resting (u : UnitId) (i : InputId) (s t : State) : Prop where
  groups : t.tgr.groups.get u = s.tgr.groups.get u
  bits : t.caseSet u = { s.caseSet u with slots := (t.caseSet u).slots }
  slots : ∀ j, t.slot u j = s.slot u j ∨ ∃ c d, s.slot u j = some c ∧ t.slot u j = some d
    ∧ c.input ≠ i ∧ d.input = c.input ∧ c.state ≠ .cleared ∧ d.state ≠ .cleared

theorem allocate_congr {c d : CaseSet} (bits : d = { c with slots := d.slots })
    (empty : ∀ j, (d.slots.get j).isNone = (c.slots.get j).isNone)
    (cleared : ∀ j, isCleared (d.slots.get j) = isCleared (c.slots.get j)) : d.allocate = c.allocate := by
  have walk : d.walk = c.walk := by rw [bits]; rfl
  unfold CaseSet.allocate
  rw [walk, cleared, funext empty, funext cleared]

namespace Resting

variable {u : UnitId} {i : InputId} {s t r : State}

theorem of_eq (ct : t.ct = s.ct) (groups : t.tgr.groups.get u = s.tgr.groups.get u) : Resting u i s t :=
  ⟨groups, by rw [State.caseSet_congr ct], fun j => .inl (State.slot_congr ct u j)⟩

theorem trans (h : Resting u i s t) (h' : Resting u i t r) : Resting u i s r := by
  refine ⟨h'.groups.trans h.groups, by rw [h'.bits, h.bits], fun j => ?_⟩
  rcases h'.slots j with same' | ⟨d, e, hd, he, other', input', active', active''⟩
  · rw [same']; exact h.slots j
  · rcases h.slots j with same | ⟨c, d', hc, hd', other, input, active, -⟩
    · exact .inr ⟨d, e, same ▸ hd, he, other', input', active', active''⟩
    · obtain rfl := Option.some.inj (hd.symm.trans hd')
      exact .inr ⟨c, e, hc, he, other, input'.trans input, active, active''⟩

theorem own (h : Resting u i s t) {j : SlotId} {c : Case} (slot : s.slot u j = some c) (input : c.input = i) :
    t.slot u j = some c := by
  rcases h.slots j with same | ⟨c', d, hc, -, other, -⟩
  · rw [same, slot]
  · rw [← Option.some.inj (slot.symm.trans hc)] at other
    exact absurd input other

theorem allocate (h : Resting u i s t) : (t.caseSet u).allocate = (s.caseSet u).allocate := by
  have shape (j : SlotId) : (t.slot u j).isNone = (s.slot u j).isNone
      ∧ isCleared (t.slot u j) = isCleared (s.slot u j) := by
    rcases h.slots j with same | ⟨c, d, hc, hd, -, -, active, active'⟩
    · rw [same]; exact ⟨rfl, rfl⟩
    · rw [hc, hd]; simp [isCleared, active, active']
  exact allocate_congr h.bits (fun j => (shape j).1) fun j => (shape j).2

end Resting

theorem handOnRestart_of_held {x : Stamp} {s : State} {y : UnitId × InputId} {j : SlotId} {c : Case}
    (asserted : (s.input y.1 y.2).filter = .asserted) (found : s.inputCase y.1 y.2 = some (j, c))
    (held : c.asserted = true) : handOnRestart x s y = s := by
  simp only [handOnRestart, asserted, found, held, if_true]

theorem handOnRestart_of_idle {x : Stamp} {s : State} {y : UnitId × InputId}
    (idle : (s.input y.1 y.2).filter ≠ .asserted) : handOnRestart x s y = s
      ∨ ∃ j c, s.inputCase y.1 y.2 = some (j, c) ∧ c.asserted = true
        ∧ handOnRestart x s y = evalCaseLamp (report [y.1] (s.setSlot y.1 j (some (c.released none)))) := by
  have hands := handOnRestart_handsOn x s y
  generalize handOnRestart x s y = t at hands
  cases hands with
  | rests => exact .inl rfl
  | releases j c _ found held => exact .inr ⟨j, c, found, held, rfl⟩
  | overflows asserted => exact absurd asserted idle
  | opens j asserted => exact absurd asserted idle
  | retrips j c asserted => exact absurd asserted idle

theorem now_elapsed (s : State) : s.now.elapsed = s.elapsed := rfl

theorem Reading.asserted {v t : State} {x : Stamp} (h : Reading v x t) (u : UnitId) (i : InputId) :
    (t.input u i).filter = .asserted ↔ FoundClosed v u i := rebuilt_asserted h.tiu u i

theorem released_active (c : Case) (x : Option Stamp) : (c.released x).state ≠ .cleared := by
  unfold Case.released; dsimp only; split <;> decide

/-- Where the unit's other inputs agree with their cases, the reading of one of them releases at most its case. -/
theorem Reading.resting {v t : State} {x : Stamp} (h : Reading v x t) (now : x.elapsed = v.elapsed) {u : UnitId}
    {i : InputId} (agreed : Agreed v u i t) {y : UnitId × InputId} (other : y ≠ (u, i)) :
    Resting u i t (handOnRestart x t y) ∧ Agreed v u i (handOnRestart x t y) := by
  by_cases own : y.1 = u
  · obtain ⟨w, k⟩ := y
    obtain rfl : w = u := own
    have asserted := h.asserted w k
    have away : k ≠ i := fun same => other (by rw [same])
    by_cases closed : FoundClosed v w k
    · obtain ⟨j, c, found, held⟩ := agreed k away closed
      rw [handOnRestart_of_held (asserted.mpr closed) found held]
      exact ⟨.of_eq rfl rfl, agreed⟩
    · refine ⟨?_, agreed.next fun l _ closed' => h.elsewhere now fun same => closed ((Prod.mk.inj same).2 ▸ closed')⟩
      · rcases handOnRestart_of_idle (x := x) (y := (w, k)) (mt asserted.mp closed) with same | ⟨j, c, found, -, same⟩
        · rw [same]; exact .of_eq rfl rfl
        · obtain ⟨slot, input, active⟩ := inputCase_slot found
          obtain ⟨ct, tgr, -⟩ := reported_blocks w (t.setSlot w j (some (c.released none)))
          rw [same]
          refine ⟨congrArg (·.groups.get w) tgr, ?_, fun l => ?_⟩
          · rw [State.caseSet_congr ct, State.setSlot, State.caseSet_setCaseSet, if_pos rfl]
          · rw [State.slot_congr ct, State.slot_setSlot]
            by_cases place : l = j
            · subst place
              rw [if_pos ⟨rfl, rfl⟩]
              exact .inr ⟨c, _, slot, rfl, fun same => away (input.symm.trans same), rfl, active,
                released_active c none⟩
            · rw [if_neg fun both => place both.2]; exact .inl rfl
  · have read := h.casesRead now y
    have groups := handOnRestart_groups x t y (v := u) (Ne.symm own)
    refine ⟨⟨groups, by rw [read.elsewhere u (Ne.symm own)], fun j =>
      .inl (congrArg (·.slots.get j) (read.elsewhere u (Ne.symm own)))⟩, agreed.next fun l _ _ => h.elsewhere now ?_⟩
    exact fun same => own (by rw [same])

end Sys2Proof.Proofs
end

section
/-! PROOFS. What becomes of the input read: its case stands, is released, re-trips, opens or overflows (R51, R58 to R65,
R71, R84, R85). -/

namespace Sys2Proof.Proofs

open Sys2Proof.Machine Sys2Proof.Safety

/-! ### A case opened or re-tripped, and placed -/

/-- A case of an assertion stands in its slot, and its group is OPEN unless it is marked TEST; of a group that it opened
it is the first-out case. -/
structure Filed (a : Assertion) (j : SlotId) (d : Case) (s t : State) : Prop where
  stands : ∃ e, t.slot a.unit j = some e ∧ SameButGroup d e ∧ (a.test = false →
    ∃ g, t.tgr.groups.get a.unit = some g ∧ e.groupId = g.id
      ∧ (s.tgr.groups.get a.unit = none → g.firstOut = d.number ∧ e.firstOut = true ∧ e.provisional = true))
  notices : t.lnu.flags.newCase = true ∧ t.lnu.unitSets.newCase.get a.unit = true

theorem placed_filed {a : Assertion} {j : SlotId} {d : Case} {s m : State} (put : SlotPut a.unit j d s m)
    (now : a.stamp.elapsed = s.elapsed) (restart : ∀ g, s.tgr.groups.get a.unit = some g → AtRestart a.stamp g)
    (newCase : m.lnu.flags.newCase = true) (newCaseOf : m.lnu.unitSets.newCase.get a.unit = true) :
    Filed a j d s (evalCaseLamp (report [a.unit] (placeCase a d.number d.groupId m))) := by
  have slot : m.slot a.unit j = some d := (put.slots _ _).trans (if_pos ⟨rfl, rfl⟩)
  have gathers := fun test => placeCase_gathers (a := a) (n := d.number) (held := d.groupId) (s := m) test
    (now.trans (State.elapsed_congr put.tb.symm)) (by rw [put.tgr]; exact restart)
  obtain ⟨ct, tgr, -⟩ := reported_blocks a.unit (placeCase a d.number d.groupId m)
  have notices : NoticesStay m (evalCaseLamp (report [a.unit] (placeCase a d.number d.groupId m))) :=
    .after (.caseLamp _) (.after (.report _ _) (.placeCase a _ _ m))
  have marked := Marked.placeCase a d.number d.groupId m
  generalize placeCase a d.number d.groupId m = p at *
  generalize evalCaseLamp (report [a.unit] p) = t at *
  obtain ⟨e, he, same, -⟩ := (marked.cases j).1 d slot
  refine ⟨⟨e, (State.slot_congr ct _ _).trans he, same, fun test => ?_⟩, notices.flags .newCase newCase,
    notices.newCase _ newCaseOf⟩
  obtain ⟨g, gathered⟩ := gathers test
  refine ⟨g, by rw [tgr, gathered.group], ?_, fun none => ?_⟩
  · rcases gathered.member j e he same.number with joined | ⟨held, stays⟩
    · exact joined
    · rw [← held, Option.some.inj (slot.symm.trans stays)]
  · obtain ⟨first, -, marks⟩ := gathered.first (put.tgr ▸ none)
    exact ⟨first, (marks j e he same.number).2⟩

/-! ### The input read -/

section

variable {x : Stamp} {s : State} {y : UnitId × InputId}

theorem found_unique {u : UnitId} {i : InputId} {j k : SlotId} {c d : Case} (h : s.inputCase u i = some (j, c))
    (h' : s.inputCase u i = some (k, d)) : j = k ∧ c = d := Prod.mk.inj (Option.some.inj (h.symm.trans h'))

/-- An input found closed whose case is released re-trips it, where the TEST marks agree (R63). -/
theorem handOnRestart_retrips {j : SlotId} {c : Case} (asserted : (s.input y.1 y.2).filter = .asserted)
    (found : s.inputCase y.1 y.2 = some (j, c)) (released : c.asserted = false)
    (same : c.test = s.tiu.testMode.get y.1) :
    handOnRestart x s y = evalCaseLamp (report [y.1] (placeCase (restartAssertion x s y) c.number c.groupId
      (retripCase (restartAssertion x s y) j c s))) := by
  have hands := handOnRestart_handsOn x s y
  generalize handOnRestart x s y = t at hands
  cases hands with
  | rests agree =>
    obtain ⟨k, d, found', held⟩ := agree.mp asserted
    obtain ⟨rfl, rfl⟩ := found_unique found found'
    rw [released] at held; cases held
  | releases k d idle => exact absurd asserted idle
  | overflows _ full =>
    rcases full with ⟨none, -⟩ | ⟨k, d, found', -, other⟩
    · rw [found] at none; cases none
    · obtain ⟨rfl, rfl⟩ := found_unique found found'
      exact absurd same other
  | opens k _ new => rw [found] at new; cases new
  | retrips k d _ found' =>
    obtain ⟨rfl, rfl⟩ := found_unique found found'
    rfl

/-- An input found closed with no case opens one in the slot given (R60). -/
theorem handOnRestart_opens {j : SlotId} (asserted : (s.input y.1 y.2).filter = .asserted)
    (new : s.inputCase y.1 y.2 = none) (free : (s.caseSet y.1).allocate = some j) :
    handOnRestart x s y = evalCaseLamp (report [y.1] (placeCase (restartAssertion x s y)
      (openedCase (restartAssertion x s y) j s).number 0 (openCase (restartAssertion x s y) j s))) := by
  have hands := handOnRestart_handsOn x s y
  generalize handOnRestart x s y = t at hands
  cases hands with
  | rests agree =>
    obtain ⟨k, d, found, -⟩ := agree.mp asserted
    rw [new] at found; cases found
  | releases k d idle => exact absurd asserted idle
  | overflows _ full =>
    rcases full with ⟨-, none⟩ | ⟨k, d, found, -⟩
    · rw [free] at none; cases none
    · rw [new] at found; cases found
  | opens k _ _ free' =>
    obtain rfl := Option.some.inj (free.symm.trans free')
    rfl
  | retrips k d _ found => rw [new] at found; cases found

/-- The overflow record and its notice after an assertion that finds no slot or another TEST mark (R71). -/
structure Overflowed (x : Stamp) (y : UnitId × InputId) (t : State) : Prop where
  seen : (t.ct.overflow.get y.1).seen.get y.2 = true
  last : (t.ct.overflow.get y.1).last = some x
  notices : t.lnu.flags.overflow = true ∧ t.lnu.unitSets.overflow.get y.1 = true

theorem overflowed (x : Stamp) (s : State) (y : UnitId × InputId) :
    Overflowed x y (evalCaseLamp (report [y.1] (overflowAssertion (restartAssertion x s y) s))) := by
  have notices : NoticesStay (overflowAssertion (restartAssertion x s y) s)
      (evalCaseLamp (report [y.1] (overflowAssertion (restartAssertion x s y) s))) :=
    .after (.caseLamp _) (.report _ _)
  obtain ⟨ct, -⟩ := reported_blocks y.1 (overflowAssertion (restartAssertion x s y) s)
  have record : (evalCaseLamp (report [y.1] (overflowAssertion (restartAssertion x s y) s))).ct.overflow.get y.1
      = (s.ct.overflow.get y.1).counted y.2 x := by
    rw [ct, overflowAssertion_ct]
    exact (PerUnit.get_set _ _ _ _).trans (if_pos rfl)
  refine ⟨?_, by rw [record]; rfl, notices.flags .overflow rfl,
    notices.overflow _ ((PerUnit.get_set _ _ _ _).trans (if_pos rfl))⟩
  rw [record]
  exact (PerInput.get_set _ _ _ _).trans (if_pos rfl)

/-- An input found closed overflows where it has no case and no slot is given, or its released case bears another TEST
mark (R71). -/
theorem handOnRestart_overflows (asserted : (s.input y.1 y.2).filter = .asserted)
    (full : (s.inputCase y.1 y.2 = none ∧ (s.caseSet y.1).allocate = none)
      ∨ ∃ j c, s.inputCase y.1 y.2 = some (j, c) ∧ c.asserted = false ∧ c.test ≠ s.tiu.testMode.get y.1) :
    Overflowed x y (handOnRestart x s y) := by
  have hands := handOnRestart_handsOn x s y
  generalize handOnRestart x s y = t at hands
  cases hands with
  | rests agree =>
    obtain ⟨k, d, found', held⟩ := agree.mp asserted
    rcases full with ⟨none, -⟩ | ⟨j, c, found, released, -⟩
    · rw [found'] at none; cases none
    · obtain ⟨rfl, rfl⟩ := found_unique found found'
      rw [released] at held; cases held
  | releases k d idle => exact absurd asserted idle
  | overflows => exact overflowed x s y
  | opens k _ new free =>
    rcases full with ⟨-, none⟩ | ⟨j, c, found, -⟩
    · rw [free] at none; cases none
    · rw [new] at found; cases found
  | retrips k d _ found' _ same =>
    rcases full with ⟨none, -⟩ | ⟨j, c, found, -, other⟩
    · rw [found'] at none; cases none
    · obtain ⟨rfl, rfl⟩ := found_unique found found'
      exact absurd same other

/-- An input found open or disabled releases its asserted case (R65). -/
theorem handOnRestart_releases {j : SlotId} {c : Case} (idle : (s.input y.1 y.2).filter ≠ .asserted)
    (found : s.inputCase y.1 y.2 = some (j, c)) (held : c.asserted = true) :
    (handOnRestart x s y).slot y.1 j = some (c.released none) := by
  have released : handOnRestart x s y = evalCaseLamp (report [y.1] (s.setSlot y.1 j (some (c.released none)))) := by
    simp only [handOnRestart, if_neg idle, found, held, if_true, takeRelease_of_asserted found held]
  rw [released, State.slot_congr (reported_blocks _ _).1, State.slot_setSlot, if_pos ⟨rfl, rfl⟩]

end

namespace Reading

variable {v t : State} {x : Stamp} (h : Reading v x t) (now : x.elapsed = v.elapsed)

include h now

theorem retrips {y : UnitId × InputId} {j : SlotId} {c : Case} (closed : FoundClosed v y.1 y.2)
    (found : t.inputCase y.1 y.2 = some (j, c)) (released : c.asserted = false)
    (same : c.test = t.tiu.testMode.get y.1) :
    Filed (restartAssertion x t y) j (retrippedCase (restartAssertion x t y) c t) t (handOnRestart x t y) := by
  rw [handOnRestart_retrips ((h.asserted y.1 y.2).mpr closed) found released same]
  exact placed_filed (retripCase_put (restartAssertion x t y) j c t) (now.trans (State.elapsed_congr h.tb.symm))
    (h.restart y.1) rfl ((PerUnit.get_set _ _ _ _).trans (if_pos rfl))

theorem opens {y : UnitId × InputId} {j : SlotId} (closed : FoundClosed v y.1 y.2)
    (new : t.inputCase y.1 y.2 = none) (free : (t.caseSet y.1).allocate = some j) :
    Filed (restartAssertion x t y) j (openedCase (restartAssertion x t y) j t) t (handOnRestart x t y)
      ∧ ∀ w l e, (handOnRestart x t y).slot w l = some e → (w, l) ≠ (y.1, j) →
          e.number ≠ (openedCase (restartAssertion x t y) j t).number := by
  have put := openCase_put (restartAssertion x t y) j t
  have now' : x.elapsed = t.elapsed := now.trans (State.elapsed_congr h.tb.symm)
  have grouped := placed_regrouping (a := restartAssertion x t y)
    (n := (openedCase (restartAssertion x t y) j t).number) (held := 0)
    (now'.trans (State.elapsed_congr put.tb.symm)) (by rw [put.tgr]; exact h.restart y.1)
  have eq := handOnRestart_opens (x := x) ((h.asserted y.1 y.2).mpr closed) new free
  obtain ⟨newCase, newCaseOf⟩ := openCase_newCase (restartAssertion x t y) j t
  refine ⟨by rw [eq]; exact placed_filed put now' (h.restart y.1) newCase newCaseOf, fun w l e he other => ?_⟩
  have old : ∃ c, t.slot w l = some c ∧ c.number = e.number := by
    have kept : (openCase (restartAssertion x t y) j t).slot w l = t.slot w l :=
      (put.slots w l).trans (if_neg fun both => other (Prod.ext both.1 both.2))
    rw [eq] at he
    by_cases own : w = y.1
    · subst own
      obtain ⟨c, hc, same, -⟩ := grouped.cases.origin he
      exact ⟨c, kept.symm.trans hc, same.number.symm⟩
    · exact ⟨e, kept.symm.trans ((congrArg (·.slots.get l) (grouped.elsewhere w own)).symm.trans he), rfl⟩
  obtain ⟨c, hc, number⟩ := old
  rw [← number]
  exact openedCase_number _ j t hc other

/-- An input found closed ends with an asserted case, or in the overflow record (R51, R71). -/
theorem closed {y : UnitId × InputId} (closed : FoundClosed v y.1 y.2) :
    (∃ j c, HoldsFor (handOnRestart x t y) y.1 y.2 j c ∧ c.asserted = true)
      ∨ ((handOnRestart x t y).ct.overflow.get y.1).seen.get y.2 = true := by
  have filed {j : SlotId} {d : Case} (filed : Filed (restartAssertion x t y) j d t (handOnRestart x t y))
      (input : d.input = y.2) (active : d.state = .active) :
      ∃ j c, HoldsFor (handOnRestart x t y) y.1 y.2 j c ∧ c.asserted = true := by
    obtain ⟨e, he, same, -⟩ := filed.stands
    have input' : e.input = y.2 := by rw [same]; exact input
    have active' : e.state = .active := by rw [same]; exact active
    exact ⟨j, e, ⟨he, input', by rw [active']; decide⟩, by rw [Case.asserted, active']; rfl⟩
  have asserted := (h.asserted y.1 y.2).mpr closed
  cases found : t.inputCase y.1 y.2 with
  | none =>
    cases free : (t.caseSet y.1).allocate with
    | none => exact .inr (handOnRestart_overflows asserted (.inl ⟨found, free⟩)).seen
    | some j => exact .inl (filed (h.opens now closed found free).1 rfl rfl)
  | some z =>
    obtain ⟨j, c⟩ := z
    by_cases held : c.asserted = true
    · rw [handOnRestart_of_held asserted found held]
      exact .inl ⟨j, c, inputCase_slot found, held⟩
    · have released := Bool.eq_false_of_not_eq_true held
      by_cases same : c.test = t.tiu.testMode.get y.1
      · exact .inl (filed (h.retrips now closed found released same) (inputCase_slot found).2.1 rfl)
      · exact .inr (handOnRestart_overflows asserted (.inr ⟨j, c, found, released, same⟩)).seen

end Reading

end Sys2Proof.Proofs
end

section
/-! PROOFS. The reading of all the inputs, seen from one of them (R51). -/

namespace Sys2Proof.Proofs

open Sys2Proof.Machine Sys2Proof.Safety

/-! ### The reading before and after an input -/

/-- The reading of the inputs before an input, which ends at a state, and the reading of those after it. -/
structure Around (v : State) (u : UnitId) (i : InputId) (t r : State) : Prop where
  reading : Reading v v.now t
  first : Ahead v.now v t
  last : Ahead v.now (handOnRestart v.now t (u, i)) r
  earlier : Elsewhere u i v t
  later : Elsewhere u i (handOnRestart v.now t (u, i)) r
  resting : Agreed v u i v → Resting u i v t ∧ Resting u i (handOnRestart v.now t (u, i)) r

theorem Reading.aheadAll {v t : State} {x : Stamp} (h : Reading v x t) (now : x.elapsed = v.elapsed)
    (l : List (UnitId × InputId)) : Ahead x t (l.foldl (handOnRestart x) t) ∧ Reading v x (l.foldl (handOnRestart x) t) :=
  h.fold .refl .trans now fun _ h y _ => h.ahead now y

theorem Reading.elsewhereAll {v t : State} {x : Stamp} (h : Reading v x t) (now : x.elapsed = v.elapsed) {u : UnitId}
    {i : InputId} {l : List (UnitId × InputId)} (other : (u, i) ∉ l) :
    Elsewhere u i t (l.foldl (handOnRestart x) t) :=
  (h.fold .refl .trans now fun _ h _ hy => h.elsewhere now fun same => other (same ▸ hy)).1

theorem Reading.restingAll {v t : State} {x : Stamp} (h : Reading v x t) (now : x.elapsed = v.elapsed) {u : UnitId}
    {i : InputId} (agreed : Agreed v u i t) {l : List (UnitId × InputId)} (other : (u, i) ∉ l) :
    Resting u i t (l.foldl (handOnRestart x) t) ∧ Agreed v u i (l.foldl (handOnRestart x) t) := by
  induction l generalizing t with
  | nil => exact ⟨.of_eq rfl rfl, agreed⟩
  | cons y l ih =>
    rw [List.mem_cons, not_or] at other
    obtain ⟨resting, agreed'⟩ := h.resting now agreed (Ne.symm other.1)
    obtain ⟨rest, agreed''⟩ := ih (h.next now y) agreed' other.2
    exact ⟨resting.trans rest, agreed''⟩

/-- A start begins its reading with every input rebuilt and no group OPEN (R51, R92). -/
theorem Reading.begun {v : State} (closed : ∀ u, v.tgr.groups.get u = none) :
    Reading v v.now { v with tiu := rebuildInputs v.tiu } :=
  ⟨rfl, rfl, fun u g found => absurd ((closed u).symm.trans found) (by simp)⟩

theorem restartInputs_reading {v : State} (closed : ∀ u, v.tgr.groups.get u = none) :
    Reading v v.now (restartInputs v) ∧ Ahead v.now v (restartInputs v) := by
  obtain ⟨rest, reading⟩ := (Reading.begun closed).aheadAll rfl inputOrder
  exact ⟨reading, (Ahead.rebuilt v).trans rest⟩

theorem restartInputs_around {v : State} (closed : ∀ u, v.tgr.groups.get u = none) (u : UnitId) (i : InputId) :
    ∃ t, Around v u i t (restartInputs v) := by
  obtain ⟨before, after, order⟩ := List.append_of_mem (mem_inputOrder u i)
  have distinct : inputOrder.Nodup := by decide
  rw [order] at distinct
  obtain ⟨-, rest, apart⟩ := List.nodup_append.mp distinct
  have absent : (u, i) ∉ before := fun old => apart _ old _ List.mem_cons_self rfl
  have absent' : (u, i) ∉ after := (List.nodup_cons.mp rest).1
  have begun := Reading.begun closed
  obtain ⟨first, reading⟩ := begun.aheadAll rfl before
  have earlier := begun.elsewhereAll rfl absent
  have resting (agreed : Agreed v u i v) := begun.restingAll rfl agreed absent
  rw [restartInputs, order, List.foldl_append, List.foldl_cons]
  generalize before.foldl (handOnRestart v.now) { v with tiu := rebuildInputs v.tiu } = t at *
  have next := reading.next rfl (u, i)
  refine ⟨t, reading, (Ahead.rebuilt v).trans first, (next.aheadAll rfl after).1, (Elsewhere.rebuilt v).trans earlier,
    next.elsewhereAll rfl absent', fun agreed => ?_⟩
  obtain ⟨quiet, agreed'⟩ := resting agreed
  have agreed'' : Agreed v u i (handOnRestart v.now t (u, i)) :=
    agreed'.next fun k other _ => reading.elsewhere rfl fun same => other (Prod.mk.inj same).2.symm
  exact ⟨.trans (t := { v with tiu := rebuildInputs v.tiu }) (.of_eq rfl rfl) quiet,
    (next.restingAll rfl agreed'' absent').1⟩

/-! ### What becomes of one input -/

theorem SameButGroup.released {c d : Case} (h : SameButGroup c d) (x : Option Stamp) :
    SameButGroup (c.released x) (d.released x) := by
  unfold SameButGroup at *; rw [h]; rfl

theorem SameButGroup.retripped {c d : Case} (h : SameButGroup c d) (x : Stamp) (m : UnitMode) (n : Nat) :
    SameButGroup (c.retripped x m n) (d.retripped x m n) := by
  unfold SameButGroup at *; rw [h]; rfl

/-- A case that a start opens for an input found closed with no case (R51, R60 to R62). -/
structure OpenedAtRestart (v : State) (u : UnitId) (i : InputId) (c : Case) : Prop where
  unit : c.unit = u
  input : c.input = i
  state : c.state = .active
  test : c.test = v.tiu.testMode.get u
  cls : c.cls = (v.input u i).config.cls
  assertStamp : c.assertStamp = v.now
  releaseStamp : c.releaseStamp = none
  releaseUnobserved : c.releaseUnobserved = false
  repeats : c.repeats = 0
  lastRetrip : c.lastRetrip = none
  ackBadge : c.ackBadge = none
  openedIn : c.openedIn = v.shc.number
  handovers : c.handovers = 0
  snapGen : c.snapGen = (v.account u .gen).lifetime

theorem OpenedAtRestart.same {v : State} {u : UnitId} {i : InputId} {c d : Case} (h : OpenedAtRestart v u i c)
    (same : SameButGroup c d) : OpenedAtRestart v u i d := by
  rw [same]
  exact { h with }

namespace Around

variable {v t r : State} {u : UnitId} {i : InputId} (h : Around v u i t r)

include h

/-- The lifetime that a case opened or re-tripped takes over is that before the start (R62, R63). -/
theorem lifetime : (t.account u .gen).lifetime = (v.account u .gen).lifetime := by
  rw [eq_of_accountValues (h.first.stands.accounts u .gen (by decide)).1]

/-- The asserted case of an input found closed stands (R51). -/
theorem asserted {j : SlotId} {c : Case} (found : v.inputCase u i = some (j, c)) (held : c.asserted = true)
    (closed : FoundClosed v u i) : ∃ d, r.slot u j = some d ∧ SameButGroup c d := by
  obtain ⟨d, found', same, -⟩ := h.earlier.inputCase.1 j c found
  have later := h.later
  rw [handOnRestart_of_held ((h.reading.asserted u i).mpr closed) found' (same.asserted.trans held)] at later
  obtain ⟨e, holds, same', -⟩ := later.forth j d (inputCase_slot found')
  exact ⟨e, holds.1, same.trans same'⟩

/-- The asserted case of an input found open or disabled is released unobserved (R51, R65). -/
theorem released {j : SlotId} {c : Case} (found : v.inputCase u i = some (j, c)) (held : c.asserted = true)
    (idle : ¬ FoundClosed v u i) : ∃ d, r.slot u j = some d ∧ SameButGroup (c.released none) d := by
  obtain ⟨d, found', same, -⟩ := h.earlier.inputCase.1 j c found
  have slot := handOnRestart_releases (x := v.now) (y := (u, i)) (mt (h.reading.asserted u i).mp idle) found'
    (same.asserted.trans held)
  obtain ⟨-, input, -⟩ := inputCase_slot found'
  obtain ⟨e, holds, same', -⟩ := h.later.forth j (d.released none) ⟨slot, input, released_active d none⟩
  exact ⟨e, holds.1, (same.released none).trans same'⟩

/-- The group of a case filed stays OPEN, with its id (R84). -/
theorem filed {a : Assertion} (unit : a.unit = u) {j : SlotId} {d : Case}
    (filed : Filed a j d t (handOnRestart v.now t (u, i))) (own : d.input = i) (active : d.state = .active) :
    ∃ e, r.slot u j = some e ∧ SameButGroup d e
      ∧ (r.lnu.flags.newCase = true ∧ r.lnu.unitSets.newCase.get u = true)
      ∧ (a.test = false → ∃ g, r.tgr.groups.get u = some g ∧ e.groupId = g.id) := by
  subst unit
  obtain ⟨⟨e, he, same, group⟩, newCase, newCaseOf⟩ := filed
  have holds : HoldsFor (handOnRestart v.now t (a.unit, i)) a.unit i j e :=
    ⟨he, by rw [same]; exact own, by rw [same]; exact fun cleared => by rw [active] at cleared; cases cleared⟩
  obtain ⟨e', holds', same', group'⟩ := h.later.forth j e holds
  refine ⟨e', holds'.1, same.trans same', ⟨h.last.notices.flags .newCase newCase, h.last.notices.newCase _ newCaseOf⟩,
    fun test => ?_⟩
  obtain ⟨g, found, id, -⟩ := group test
  obtain ⟨g', found', same''⟩ := h.later.groups g found
  rcases group' with kept | taken
  · exact ⟨g', found', by rw [kept, id, same'']⟩
  · exact taken

/-- The released case of an input found closed re-trips, where the TEST marks agree (R51, R63). -/
theorem retrips {j : SlotId} {c : Case} (found : v.inputCase u i = some (j, c)) (unasserted : c.asserted = false)
    (closed : FoundClosed v u i) (test : c.test = v.tiu.testMode.get u) :
    ∃ e m, r.slot u j = some e ∧ SameButGroup (c.retripped v.now m (v.account u .gen).lifetime) e
      ∧ (r.lnu.flags.newCase = true ∧ r.lnu.unitSets.newCase.get u = true)
      ∧ (c.test = false → ∃ g, r.tgr.groups.get u = some g ∧ e.groupId = g.id) := by
  obtain ⟨d, found', same, -⟩ := h.earlier.inputCase.1 j c found
  have mode : t.tiu.testMode = v.tiu.testMode := by rw [h.reading.tiu]; rfl
  have agree : d.test = t.tiu.testMode.get u := by rw [mode, ← test, same]
  have file := h.reading.retrips rfl (y := (u, i)) closed found' (same.asserted.trans unasserted) agree
  obtain ⟨e, he, same', notices, group⟩ := h.filed rfl file (inputCase_slot found').2.1 rfl
  have lifetime := h.lifetime
  have retripped : SameButGroup (c.retripped v.now (t.unit u).mode (v.account u .gen).lifetime) e := by
    rw [← lifetime]
    exact (same.retripped v.now (t.unit u).mode (t.account u .gen).lifetime).trans same'
  exact ⟨e, _, he, retripped, notices, fun clear => group ((mode ▸ test ▸ clear : t.tiu.testMode.get u = false))⟩

/-- The released case of an input found closed overflows, where the TEST marks differ (R71). -/
theorem mismatches {j : SlotId} {c : Case} (found : v.inputCase u i = some (j, c)) (unasserted : c.asserted = false)
    (closed : FoundClosed v u i) (test : c.test ≠ v.tiu.testMode.get u) : Overflowed v.now (u, i) r := by
  obtain ⟨d, found', same, -⟩ := h.earlier.inputCase.1 j c found
  have mode : t.tiu.testMode = v.tiu.testMode := by rw [h.reading.tiu]; rfl
  have differ : d.test ≠ t.tiu.testMode.get u := by rw [mode, same]; exact test
  obtain ⟨seen, last, flag, set⟩ := handOnRestart_overflows (x := v.now) (y := (u, i))
    ((h.reading.asserted u i).mpr closed) (.inr ⟨j, d, found', same.asserted.trans unasserted, differ⟩)
  exact ⟨h.last.seen u i seen, h.last.last u last, h.last.notices.flags .overflow flag, h.last.notices.overflow u set⟩

/-- The case that an input found closed opens, where the unit's other inputs agree with their cases: its number is its
own, and it is the first-out case of its unit's group (R51, R60, R61, R83, R85). -/
theorem opens {j : SlotId} (new : v.inputCase u i = none) (closed : FoundClosed v u i)
    (free : (v.caseSet u).allocate = some j) (agreed : Agreed v u i v) (none : v.tgr.groups.get u = none) :
    ∃ c, r.slot u j = some c ∧ OpenedAtRestart v u i c
      ∧ (∀ w l d, r.slot w l = some d → (w, l) ≠ (u, j) → d.number ≠ c.number)
      ∧ (r.lnu.flags.newCase = true ∧ r.lnu.unitSets.newCase.get u = true)
      ∧ (v.tiu.testMode.get u = false → ∃ g, r.tgr.groups.get u = some g ∧ g.firstOut = c.number
        ∧ c.groupId = g.id ∧ c.firstOut = true ∧ c.provisional = true) := by
  obtain ⟨before, after⟩ := h.resting agreed
  obtain ⟨⟨⟨e, he, same, group⟩, newCase, newCaseOf⟩, fresh⟩ := h.reading.opens rfl (y := (u, i)) closed
    (h.earlier.inputCase.2 new) (before.allocate.trans free)
  have mode : t.tiu.testMode = v.tiu.testMode := by rw [h.reading.tiu]; rfl
  have opened : OpenedAtRestart v u i (openedCase (restartAssertion v.now t (u, i)) j t) :=
    ⟨rfl, rfl, rfl, by rw [← mode]; rfl, congrArg (·.inForce.cls) (input_rebuilt h.reading.tiu u i), rfl, rfl, rfl,
      rfl, rfl, rfl, congrArg (·.1) h.first.stands.duty, rfl, h.lifetime⟩
  have opened' := opened.same same
  have holds : HoldsFor (handOnRestart v.now t (u, i)) u i j e :=
    ⟨he, opened'.input, by rw [opened'.state]; decide⟩
  have alone : ∀ w l d, (handOnRestart v.now t (u, i)).slot w l = some d → (w, l) ≠ (u, j) → d.number ≠ e.number := by
    intro w l d hd other
    rw [same.number]
    exact fresh w l d hd other
  refine ⟨e, after.own he opened'.input, opened', h.later.apart j e holds alone,
    ⟨h.last.notices.flags .newCase newCase, h.last.notices.newCase _ newCaseOf⟩, fun clear => ?_⟩
  obtain ⟨g, found, id, first⟩ := group (mode ▸ clear : t.tiu.testMode.get u = false)
  obtain ⟨firstOut, marks⟩ := first (before.groups.trans none)
  exact ⟨g, after.groups.trans found, firstOut.trans same.number.symm, id, marks⟩

/-- An input found closed ends with an asserted case, or in the overflow record (R51, R71). -/
theorem closed (closed : FoundClosed v u i) :
    (∃ j c, r.slot u j = some c ∧ c.input = i ∧ c.asserted = true) ∨ (r.ct.overflow.get u).seen.get i = true := by
  rcases h.reading.closed rfl (y := (u, i)) closed with ⟨j, c, holds, held⟩ | seen
  · obtain ⟨d, ⟨slot, input, -⟩, same, -⟩ := h.later.forth j c holds
    exact .inl ⟨j, d, slot, input, same.asserted.trans held⟩
  · exact .inr (h.last.seen u i seen)

end Around

end Sys2Proof.Proofs
end

section
/-! PROOFS. The groups that a warm start closes, and the state whose inputs it then reads (R92, R130, R197). -/

namespace Sys2Proof.Proofs

open Sys2Proof.Machine Sys2Proof.Safety

/-! ### The groups closed -/

/-- A group has closed at a warm start, and its first-out case is not PROVISIONAL (R88, R92). -/
structure ClosedAtStart (u : UnitId) (g : OpenGroup) (t : State) : Prop where
  notices : t.lnu.flags.firstOutFinal = true ∧ t.lnu.unitSets.firstOutFinal.get u = true
  summary : ∃ x, t.tgr.closed.get u = some x ∧ x.id = g.id ∧ x.earliest = g.earliest ∧ x.firstOut = g.firstOut
    ∧ x.members = g.members ∧ x.reason = .warmStart ∧ x.closedAt = t.now
  unmarked : Unmarked u g.firstOut t

theorem ClosedAtStart.later {u : UnitId} {g : OpenGroup} {s t : State} (h : ClosedAtStart u g s)
    (notices : NoticesStay s t) (closed : t.tgr.closed.get u = s.tgr.closed.get u) (tb : t.tb = s.tb)
    (unmarked : Unmarked u g.firstOut s → Unmarked u g.firstOut t) : ClosedAtStart u g t := by
  obtain ⟨⟨flag, set⟩, summary, quiet⟩ := h
  exact ⟨⟨notices.flags .firstOutFinal flag, notices.firstOutFinal u set⟩,
    by rw [closed, State.now_congr tb]; exact summary, unmarked quiet⟩

theorem closeGroup_closed {u v : UnitId} (r : CloseReason) (s : State) (h : v ≠ u) :
    (closeGroup u r s).tgr.closed.get v = s.tgr.closed.get v := by
  unfold closeGroup
  split
  · rfl
  · exact (PerUnit.get_set _ _ _ _).trans (if_neg h)

/-- A group closed at a warm start (R88, R89, R92). -/
theorem closeGroup_closedAtStart {u : UnitId} {g : OpenGroup} {s : State} (h : s.tgr.groups.get u = some g) :
    ClosedAtStart u g (closeGroup u .warmStart s) := by
  simp only [closeGroup, h]
  refine ⟨⟨rfl, (PerUnit.get_set _ _ _ _).trans (if_pos rfl)⟩,
    ⟨_, (PerUnit.get_set _ _ _ _).trans (if_pos rfl), rfl, rfl, rfl, rfl, rfl, rfl⟩, fun j c hc number => ?_⟩
  obtain ⟨c', rfl⟩ := updateCase_own (f := fun c => { c with provisional := false }) (s := s) hc number
  rfl

/-- The closing of one unit's group, seen from another or the same (R92). -/
theorem closeGroup_closing {u v : UnitId} {g : OpenGroup} {s : State}
    (h : s.tgr.groups.get u = some g ∨ ClosedAtStart u g s ∧ s.tgr.groups.get u = none) :
    (closeGroup v .warmStart s).tgr.groups.get u = some g
      ∨ ClosedAtStart u g (closeGroup v .warmStart s) ∧ (closeGroup v .warmStart s).tgr.groups.get u = none := by
  have groups := closeGroup_groups v u .warmStart s
  by_cases own : u = v
  · subst own
    rw [if_pos rfl] at groups
    rcases h with found | ⟨closed, none⟩
    · exact .inr ⟨closeGroup_closedAtStart found, groups⟩
    · have same : closeGroup u .warmStart s = s := by simp only [closeGroup, none]
      rw [same]
      exact .inr ⟨closed, none⟩
  · rw [if_neg own] at groups
    rw [groups]
    refine h.imp_right (.imp_left fun closed => closed.later (.closeGroup v _ s) (closeGroup_closed _ s own)
      (by simp) fun quiet j c hc => quiet j c ?_)
    rw [State.slot, (Marked.closeGroup (n := 0) .warmStart s).elsewhere u own] at hc
    exact hc

/-- The cases of a unit keep all but their groups and marks, and its tree bits stand. -/
structure MarksOnly (u : UnitId) (s t : State) : Prop where
  cases : EachCase SameButGroup s t u
  bits : t.caseSet u = { s.caseSet u with slots := (t.caseSet u).slots }

namespace MarksOnly

variable {u : UnitId} {s t r : State}

theorem of_ct (h : t.ct = s.ct) : MarksOnly u s t := ⟨.of_ct .refl h u, by rw [State.caseSet_congr h]⟩

theorem trans (h : MarksOnly u s t) (h' : MarksOnly u t r) : MarksOnly u s r :=
  ⟨h.cases.trans (fun _ _ _ => .trans) h'.cases, by rw [h'.bits, h.bits]⟩

theorem closeGroup (v : UnitId) (s : State) : MarksOnly u s (closeGroup v .warmStart s) := by
  have marked := Marked.closeGroup (u := v) (n := 0) .warmStart s
  by_cases own : u = v
  · subst own
    exact ⟨marked.cases.imp fun _ _ remarked => remarked.same, marked.bits⟩
  · have same := marked.elsewhere u own
    refine ⟨fun j => ?_, by rw [same]⟩
    have slot : (Machine.closeGroup v .warmStart s).slot u j = s.slot u j := congrArg (·.slots.get j) same
    rw [slot]
    exact ⟨fun c hc => ⟨c, hc, .refl c⟩, id⟩

/-- The case found for an input, and the slot given to a new case, are those before. -/
theorem inputCase (h : MarksOnly u s t) (i : InputId) :
    (∀ j c, s.inputCase u i = some (j, c) → ∃ d, t.inputCase u i = some (j, d) ∧ SameButGroup c d)
      ∧ (s.inputCase u i = none → t.inputCase u i = none) := by
  refine inputCase_corresponds (fun j c holds => ?_) fun j d holds => ?_
  · obtain ⟨d, hd, same⟩ := (h.cases j).1 c holds.1
    exact ⟨d, holds.of_same hd same, same⟩
  · obtain ⟨c, hc, same⟩ := h.cases.origin holds.1
    exact ⟨c, holds.of_same hc same.symm⟩

theorem allocate (h : MarksOnly u s t) : (t.caseSet u).allocate = (s.caseSet u).allocate := by
  have shape (j : SlotId) : (t.slot u j).isNone = (s.slot u j).isNone
      ∧ isCleared (t.slot u j) = isCleared (s.slot u j) := by
    cases slot : s.slot u j with
    | none => rw [(h.cases j).2 slot]; exact ⟨rfl, rfl⟩
    | some c =>
      obtain ⟨d, hd, same⟩ := (h.cases j).1 c slot
      rw [hd, same]; exact ⟨rfl, rfl⟩
  exact allocate_congr h.bits (fun j => (shape j).1) fun j => (shape j).2

end MarksOnly

/-- What the closing of the groups at a warm start leaves (R92). -/
structure GroupsClosed (s t : State) : Prop where
  closed : ∀ u g, s.tgr.groups.get u = some g → ClosedAtStart u g t
  others : ∀ u, s.tgr.groups.get u = none → t.tgr.closed.get u = s.tgr.closed.get u
  none : ∀ u, t.tgr.groups.get u = none
  cases : ∀ u, MarksOnly u s t

/-- The groups of some units close, one after the other (R92). -/
def closeGroups (l : List UnitId) (s : State) : State := l.foldl (fun s u => closeGroup u .warmStart s) s

theorem closeGroups_closing {u : UnitId} {g : OpenGroup} (l : List UnitId) {s : State}
    (h : s.tgr.groups.get u = some g ∨ ClosedAtStart u g s ∧ s.tgr.groups.get u = none) :
    (closeGroups l s).tgr.groups.get u = some g ∨ ClosedAtStart u g (closeGroups l s) := by
  induction l generalizing s with
  | nil => exact h.imp_right (·.1)
  | cons v l ih => exact ih (closeGroup_closing h)

theorem closeGroups_others {u : UnitId} (l : List UnitId) {s : State} (h : s.tgr.groups.get u = none) :
    (closeGroups l s).tgr.closed.get u = s.tgr.closed.get u := by
  induction l generalizing s with
  | nil => rfl
  | cons v l ih =>
    have groups := closeGroup_groups v u .warmStart s
    rw [h, ite_self] at groups
    refine (ih groups).trans ?_
    by_cases own : u = v
    · subst own; simp only [closeGroup, h]
    · exact closeGroup_closed _ s own

theorem closeGroups_marks (u : UnitId) (l : List UnitId) (s : State) : MarksOnly u s (closeGroups l s) := by
  induction l generalizing s with
  | nil => exact .of_ct rfl
  | cons v l ih => exact (MarksOnly.closeGroup v s).trans (ih _)

theorem warmGroups_groupsClosed (s : State) : GroupsClosed s (warmGroups s) := by
  have none := warmGroups_groups s
  have reported : ∃ l, (warmGroups s).ct = (closeGroups l s).ct ∧ (warmGroups s).tgr = (closeGroups l s).tgr
      ∧ (warmGroups s).lnu = (closeGroups l s).lnu ∧ (warmGroups s).tb = (closeGroups l s).tb := by
    simp only [warmGroups]
    split
    · exact ⟨[], rfl, rfl, rfl, rfl⟩
    · obtain ⟨tb, -, -, ct, tgr, -, -, lnu, -⟩ := report_frame (openUnits s.tgr) (closeGroups (openUnits s.tgr) s)
      exact ⟨_, ct, tgr, lnu, tb⟩
  obtain ⟨l, ct, tgr, lnu, tb⟩ := reported
  generalize warmGroups s = t at *
  refine ⟨fun u g found => ?_, fun u closed => by rw [tgr, closeGroups_others l closed], none, fun u =>
    (closeGroups_marks u l s).trans (.of_ct ct)⟩
  have closed := (closeGroups_closing l (.inl found)).resolve_left fun open_ => by
    rw [← tgr, none] at open_; cases open_
  exact closed.later (.of_lnu lnu) (by rw [tgr]) tb fun quiet j c hc => quiet j c (State.slot_congr ct u j ▸ hc)

end Sys2Proof.Proofs
end

section
/-! PROOFS. A warm start as a whole: the groups close, the accounts leave WRITING, and the inputs are read (R51, R92,
R130, R197). -/

namespace Sys2Proof.Proofs

open Sys2Proof.Machine Sys2Proof.Safety

/-! ### The state whose inputs are read -/

/-- No load of an account begins while the accounts leave WRITING (R130). -/
theorem warmAccounts_outstanding {s : State} {y : UnitId × Kind}
    (h : isOutstanding ((warmAccounts s).account y.1 y.2).status = true) :
    isOutstanding (s.account y.1 y.2).status = true := by
  have one (s : State) (x : UnitId × Kind) (h : isOutstanding ((warmAccount s x).account y.1 y.2).status = true) :
      isOutstanding (s.account y.1 y.2).status = true := by
    by_cases own : x = y
    · subst own
      by_cases writing : (s.account x.1 x.2).status = .writing .queue
      · rw [warmAccount_queueing writing, requestQueue_status, setStatus_status, if_pos rfl] at h
        (repeat' split at h) <;> cases h
      · rw [(warmAccount_settling writing).2, if_pos rfl] at h
        revert h
        cases (s.account x.1 x.2).status <;> exact id
    · rw [← (warmAccount_passed own s).status]; exact h
  have fold (l : List (UnitId × Kind)) (s : State)
      (h : isOutstanding ((l.foldl warmAccount s).account y.1 y.2).status = true) :
      isOutstanding (s.account y.1 y.2).status = true := by
    induction l generalizing s with
    | nil => exact h
    | cons x l ih => exact one s x (ih _ h)
  exact fold walkOrder s h

/-- The state of a warm start whose inputs are read, and what comes before and after the reading (R197). -/
structure Restarted (s v t : State) : Prop where
  groups : GroupsClosed s v
  tiu : v.tiu = s.tiu
  accounts : AccountsStand (fun _ => True) s v
  number : v.shc.number = s.shc.number
  loaded : ∀ u, isOutstanding (v.account u .trips).status = true → isOutstanding (s.account u .trips).status = true
  ct : t.ct = (restartInputs v).ct
  tgr : t.tgr = (restartInputs v).tgr
  rha : t.rha = (restartInputs v).rha
  tb : t.tb = v.tb
  notices : NoticesStay (restartInputs v) t

theorem GroupsClosed.congr {s b g v : State} (h : GroupsClosed b g) (ct : b.ct = s.ct) (tgr : b.tgr = s.tgr)
    (ct' : v.ct = g.ct) (tgr' : v.tgr = g.tgr) (tb' : v.tb = g.tb) (notices : NoticesStay g v) : GroupsClosed s v where
  closed u o found := (h.closed u o (tgr ▸ found)).later notices (by rw [tgr']) tb' fun quiet j c hc =>
    quiet j c (State.slot_congr ct' u j ▸ hc)
  others u none := by rw [tgr', h.others u (tgr ▸ none), tgr]
  none u := by rw [tgr']; exact h.none u
  cases u := .trans (.of_ct ct) (.trans (h.cases u) (.of_ct ct'))

theorem warmStart_restarted (a : BitVec 5) (f : Bool) (d : Nat) (s : State) :
    ∃ v, Restarted s v (warmStart a f d s) := by
  obtain ⟨-, shc, rha, -, ct, tgr, tiu, -⟩ := startBegun_blocks a f d s
  obtain ⟨b, q, hb, hq, ht⟩ := warmStart_stages a f d s
  rw [← hb] at shc rha ct tgr tiu
  have groups := warmGroups_groupsClosed b
  have queued := startQueued_stands (fun _ => True) b
  have stored := startStored_stands (fun _ => True) (storeRestarted_free q)
  have kept (u : UnitId) := Kept.startStored (y := (u, .trips)) (storeRestarted_free q)
  have notices := NoticesStay.startStored (storeRestarted q)
  obtain ⟨tiu', ct', tgr', -⟩ := startStored_blocks q
  have tb' : (startStored (storeRestarted q)).tb = q.tb := by simp [startStored, storeRestarted, restartPeriod]
  have loaded (u : UnitId) (h : isOutstanding (q.account u .trips).status = true) :
      isOutstanding (s.account u .trips).status = true := by
    rw [hq] at h
    have before := warmAccounts_outstanding (y := (u, .trips)) h
    have same : (warmGroups b).rha = s.rha := Eq.trans (by simp) rha
    rwa [State.account_congr same] at before
  rw [← hq] at queued
  have qct : q.ct = (warmGroups b).ct := by rw [hq]; simp
  have qtgr : q.tgr = (warmGroups b).tgr := by rw [hq]; simp
  have qtb : q.tb = (warmGroups b).tb := by rw [hq]; simp
  have qtiu : q.tiu = s.tiu := by rw [hq]; simp [tiu]
  have qnotices : NoticesStay (warmGroups b) q := by rw [hq]; exact .warmAccounts _
  have restarted := storeRestarted_notices q
  refine ⟨startStored (storeRestarted q), ?_⟩
  rw [ht]
  have account (u : UnitId) (k : Kind) := storeRestarted_account q u k
  generalize startStored (storeRestarted q) = v at *
  have shc' : v.shc.number = q.shc.number := congrArg (·.1) stored.duty
  refine {
    groups := groups.congr ct tgr (ct'.trans qct) (tgr'.trans qtgr) (tb'.trans qtb)
      ((qnotices.trans restarted).trans notices)
    tiu := tiu'.trans qtiu
    accounts := fun u k _ => ?_
    number := shc'.trans ((congrArg (·.1) queued.duty).trans (congrArg (·.number) shc))
    loaded := fun u h => loaded u (account u .trips ▸ (kept u).outstanding h)
    ct := by simp [startEnded], tgr := by simp [startEnded], rha := by simp [startEnded]
    tb := by simp [startEnded]
    notices := .startEnded _ }
  obtain ⟨values, tally⟩ := stored.accounts u k trivial
  obtain ⟨values', tally'⟩ := queued.accounts u k trivial
  rw [account] at values
  exact ⟨values.trans (values'.trans (by rw [State.account_congr rha])),
    tally.trans (tally'.trans (State.tally_congr rha u k))⟩

end Sys2Proof.Proofs
end

section
/-! PROOFS. The cases, the groups and the accounts after a warm start (R51, R63, R65, R71, R92, R114, R130). -/

namespace Sys2Proof.Proofs

open Sys2Proof.Machine Sys2Proof.Safety

/-- A unit with no input found closed and enabled has no group OPEN after the reading (R51). -/
theorem restartInputs_idle {v : State} (closed : ∀ u, v.tgr.groups.get u = none) {u : UnitId}
    (idle : ∀ i, ¬ FoundClosed v u i) : (restartInputs v).tgr.groups.get u = none := by
  have one (t : State) (h : Reading v v.now t) (y : UnitId × InputId) (_ : y ∈ inputOrder) :
      (handOnRestart v.now t y).tgr.groups.get u = t.tgr.groups.get u := by
    by_cases own : u = y.1
    · rw [handOnRestart_idle (mt (h.asserted y.1 y.2).mp (own ▸ idle y.2))]
    · exact handOnRestart_groups _ t y own
  have begun := Reading.begun closed
  have kept := (Reading.fold (R := fun s t => t.tgr.groups.get u = s.tgr.groups.get u) (fun _ => rfl)
    (fun h h' => h'.trans h) (now_elapsed v) one begun).1
  rw [restartInputs]
  exact Eq.trans kept (closed u)

/-- A trip taken counts in the account and in the tally (R114). -/
theorem TripTaken.counted {u : UnitId} {s t : State} (h : TripTaken u s t) :
    Counted u .trips s t ∨ isOutstanding (s.account u .trips).status = true
      ∨ (s.account u .trips).retired = true := by
  rcases h with loading | retired | ⟨values, tally⟩
  · exact .inr (.inl loading)
  · exact .inr (.inr retired)
  · exact .inl ⟨eq_of_accountValues values, tally⟩

namespace Restarted

variable {s v t : State} (h : Restarted s v t)

include h

theorem found (u : UnitId) (i : InputId) : FoundClosed s u i ↔ FoundClosed v u i := by
  unfold FoundClosed; rw [State.input_congr h.tiu]

theorem slot (u : UnitId) (j : SlotId) : t.slot u j = (restartInputs v).slot u j := State.slot_congr h.ct u j

theorem now : t.now = v.now := State.now_congr h.tb

/-- A group found OPEN has closed (R92). -/
theorem closed {u : UnitId} {g : OpenGroup} (open_ : s.tgr.groups.get u = some g) :
    (t.lnu.flags.firstOutFinal = true ∧ t.lnu.unitSets.firstOutFinal.get u = true)
      ∧ (∃ x, t.tgr.closed.get u = some x ∧ x.id = g.id ∧ x.earliest = g.earliest ∧ x.firstOut = g.firstOut
          ∧ x.members = g.members ∧ x.reason = .warmStart ∧ x.closedAt = t.now)
      ∧ (t.tgr.groups.get u = none → Unmarked u g.firstOut t) := by
  obtain ⟨-, ahead⟩ := restartInputs_reading h.groups.none
  obtain ⟨⟨flag, set⟩, summary, quiet⟩ := h.groups.closed u g open_
  have notices := ahead.notices.trans h.notices
  refine ⟨⟨notices.flags .firstOutFinal flag, notices.firstOutFinal u set⟩, ?_, fun none j c hc => ?_⟩
  · rw [h.tgr, ahead.closed, h.now]; exact summary
  · rw [h.tgr] at none
    rw [h.slot] at hc
    exact ahead.unmarked u g.firstOut none quiet j c hc

theorem unclosed {u : UnitId} (none : s.tgr.groups.get u = none) : t.tgr.closed.get u = s.tgr.closed.get u := by
  rw [h.tgr, (restartInputs_reading h.groups.none).2.closed, h.groups.others u none]

theorem idle {u : UnitId} (idle : ∀ i, ¬ FoundClosed s u i) : t.tgr.groups.get u = none := by
  rw [h.tgr]
  exact restartInputs_idle h.groups.none fun i found => idle i ((h.found u i).mpr found)

/-- The case found for an input at the start is the one found when the inputs are read. -/
theorem inputCase {u : UnitId} {i : InputId} {j : SlotId} {c : Case} (found : s.inputCase u i = some (j, c)) :
    ∃ d, v.inputCase u i = some (j, d) ∧ SameButGroup c d := ((h.groups.cases u).inputCase i).1 j c found

/-- An asserted case stands, or is released unobserved (R51, R65). -/
theorem asserted {u : UnitId} {i : InputId} {j : SlotId} {c : Case} (found : s.inputCase u i = some (j, c))
    (held : c.asserted = true) : ∃ d, t.slot u j = some d ∧ (FoundClosed s u i → SameButGroup c d)
      ∧ (¬ FoundClosed s u i → SameButGroup (c.released none) d) := by
  obtain ⟨r, around⟩ := restartInputs_around h.groups.none u i
  obtain ⟨d, found', same⟩ := h.inputCase found
  have held' := same.asserted.trans held
  rw [h.found, h.slot]
  by_cases closed : FoundClosed v u i
  · obtain ⟨e, he, same'⟩ := around.asserted found' held' closed
    exact ⟨e, he, fun _ => same.trans same', fun idle => absurd closed idle⟩
  · obtain ⟨e, he, same'⟩ := around.released found' held' closed
    exact ⟨e, he, fun closed' => absurd closed' closed, fun _ => (same.released none).trans same'⟩

/-- A trip that a start makes counts once in TRIPS of its unit (R114). -/
theorem counted {u : UnitId} (open_ : (restartInputs v).tgr.groups.get u ≠ none) :
    Counted u .trips s t ∨ isOutstanding (s.account u .trips).status = true
      ∨ (s.account u .trips).retired = true := by
  have before : TripsStand u s v :=
    ⟨(h.accounts u .trips trivial).1, (h.accounts u .trips trivial).2, h.loaded u⟩
  have taken := ((restartInputs_reading h.groups.none).2.trips u).opens (h.groups.none u) open_
  exact ((before.taken taken).stand (.of_rha h.rha u)).counted

/-- A group that a start opens is at the restart stamp (R83). -/
theorem opened {u : UnitId} {g : OpenGroup} (open_ : (restartInputs v).tgr.groups.get u = some g) :
    t.tgr.groups.get u = some g ∧ g.earliest = t.now := by
  rw [h.tgr, h.now]
  exact ⟨open_, ((restartInputs_reading h.groups.none).1.restart u g open_).1⟩

theorem lifetime (u : UnitId) : (v.account u .gen).lifetime = (s.account u .gen).lifetime := by
  rw [eq_of_accountValues (h.accounts u .gen trivial).1]

/-- A released case of an input found closed re-trips, where the TEST marks agree (R63). -/
theorem retrips {u : UnitId} {i : InputId} {j : SlotId} {c : Case} (found : s.inputCase u i = some (j, c))
    (released : c.asserted = false) (closed : FoundClosed s u i) (test : c.test = s.tiu.testMode.get u) :
    ∃ d m, t.slot u j = some d ∧ (t.lnu.flags.newCase = true ∧ t.lnu.unitSets.newCase.get u = true)
      ∧ SameButGroup (c.retripped t.now m (s.account u .gen).lifetime) d
      ∧ (c.test = false → Counted u .trips s t ∨ isOutstanding (s.account u .trips).status = true
          ∨ (s.account u .trips).retired = true)
      ∧ (c.test = false → ∃ g, t.tgr.groups.get u = some g ∧ g.earliest = t.now ∧ d.groupId = g.id) := by
  obtain ⟨r, around⟩ := restartInputs_around h.groups.none u i
  obtain ⟨d, found', same⟩ := h.inputCase found
  have test' : d.test = v.tiu.testMode.get u := by rw [h.tiu, ← test, same]
  obtain ⟨e, m, he, same', ⟨flag, set⟩, group⟩ :=
    around.retrips found' (same.asserted.trans released) ((h.found u i).mp closed) test'
  have clear (live : c.test = false) : d.test = false := by rw [same]; exact live
  rw [h.slot, h.now, ← h.lifetime]
  refine ⟨e, m, he, ⟨h.notices.flags .newCase flag, h.notices.newCase u set⟩, (same.retripped _ _ _).trans same',
    fun live => ?_, fun live => ?_⟩ <;> obtain ⟨g, open_, id⟩ := group (clear live)
  · exact h.counted (by rw [open_]; simp)
  · exact ⟨g, (h.opened open_).1, (h.opened open_).2.trans h.now, id⟩

/-- A released case of an input found closed overflows, where the TEST marks differ (R71). -/
theorem mismatches {u : UnitId} {i : InputId} {j : SlotId} {c : Case} (found : s.inputCase u i = some (j, c))
    (released : c.asserted = false) (closed : FoundClosed s u i) (test : c.test ≠ s.tiu.testMode.get u) :
    Overflowed t.now (u, i) t := by
  obtain ⟨r, around⟩ := restartInputs_around h.groups.none u i
  obtain ⟨d, found', same⟩ := h.inputCase found
  have test' : d.test ≠ v.tiu.testMode.get u := by rw [h.tiu, same]; exact test
  obtain ⟨seen, last, flag, set⟩ :=
    around.mismatches found' (same.asserted.trans released) ((h.found u i).mp closed) test'
  exact ⟨by rw [h.ct]; exact seen, by rw [h.ct, h.now]; exact last, h.notices.flags .overflow flag,
    h.notices.overflow u set⟩

/-- The one input found closed without a case opens one, the first-out case of its unit's group (R60, R83, R85). -/
theorem opens {u : UnitId} {i : InputId} {j : SlotId} (new : s.inputCase u i = none) (closed : FoundClosed s u i)
    (free : (s.caseSet u).allocate = some j)
    (agreed : ∀ k, k ≠ i → FoundClosed s u k → ∃ m d, s.inputCase u k = some (m, d) ∧ IsAsserted d) :
    ∃ c, t.slot u j = some c ∧ OpenedAtRestart v u i c
      ∧ (∀ w l d, t.slot w l = some d → (w, l) ≠ (u, j) → d.number ≠ c.number)
      ∧ (t.lnu.flags.newCase = true ∧ t.lnu.unitSets.newCase.get u = true)
      ∧ (s.tiu.testMode.get u = false → Counted u .trips s t ∨ isOutstanding (s.account u .trips).status = true
          ∨ (s.account u .trips).retired = true)
      ∧ (s.tiu.testMode.get u = false → ∃ g, t.tgr.groups.get u = some g ∧ g.earliest = t.now
        ∧ g.firstOut = c.number ∧ c.groupId = g.id ∧ c.firstOut = true ∧ c.provisional = true) := by
  obtain ⟨r, around⟩ := restartInputs_around h.groups.none u i
  have agreed' : Agreed v u i v := fun k other closed' => by
    obtain ⟨m, c, found, held⟩ := agreed k other ((h.found u k).mpr closed')
    obtain ⟨d, found', same⟩ := h.inputCase found
    exact ⟨m, d, found', same.asserted.trans ((asserted_iff c).mpr held)⟩
  have marks := h.groups.cases u
  obtain ⟨c, hc, opened, apart, ⟨flag, set⟩, group⟩ := around.opens ((marks.inputCase i).2 new)
    ((h.found u i).mp closed) (marks.allocate.trans free) agreed' (h.groups.none u)
  rw [h.tiu] at group
  refine ⟨c, (h.slot u j).trans hc, opened, fun w l d hd => apart w l d (h.slot w l ▸ hd),
    ⟨h.notices.flags .newCase flag, h.notices.newCase u set⟩, fun live => ?_, fun live => ?_⟩ <;>
    obtain ⟨g, open_, marks⟩ := group live
  · exact h.counted (by rw [open_]; simp)
  · exact ⟨g, (h.opened open_).1, (h.opened open_).2, marks⟩

/-- Every input found closed ends with an asserted case, or in the overflow record (R51, R71). -/
theorem reads {u : UnitId} {i : InputId} (closed : FoundClosed s u i) :
    (∃ j c, t.slot u j = some c ∧ c.input = i ∧ c.asserted = true) ∨ (t.ct.overflow.get u).seen.get i = true := by
  obtain ⟨r, around⟩ := restartInputs_around h.groups.none u i
  rw [h.ct]
  refine (around.closed ((h.found u i).mp closed)).imp_left fun ⟨j, c, hc, own⟩ => ⟨j, c, (h.slot u j).trans hc, own⟩

end Restarted

/-! ### The statement -/

/-- Settles O60: a warm start closes the groups, settles the accounts, serves the store, and reads the inputs one by
one. -/
theorem warmStartRebuildsCasesAndAccounts : Obligations.WarmStartRebuildsCasesAndAccounts := by
  unfold Obligations.WarmStartRebuildsCasesAndAccounts
  intro groups cases persistence
  have started (a : BitVec 5) (f : Bool) (d : Nat) (s : State) : groups s (warmStart a f d s)
      ∧ cases s (warmStart a f d s) ∧ persistence s (warmStart a f d s) := by
    have left (u : UnitId) (k : Kind) (only : k ≠ .trips ∨ ContactsAgree s) :=
      warmStart_statusLeft a f d (y := (u, k)) only
    have unasserted {c : Case} (h : ¬ IsAsserted c) : c.asserted = false :=
      Bool.eq_false_of_not_eq_true (mt (asserted_iff c).mp h)
    obtain ⟨v, h⟩ := warmStart_restarted a f d s
    generalize warmStart a f d s = t at *
    refine ⟨⟨fun u g open_ => ?closed, fun u none => h.unclosed none, fun u idle => h.idle idle⟩,
      ⟨fun u i j c found held => ?asserted,
        fun u i j c found released closed => ⟨fun test => ?retrips, fun test => ?overflows⟩,
        fun u i j new closed free agreed => ?opens, fun u i closed => ?reads⟩, fun u k only => ?persistence⟩
    case closed =>
      obtain ⟨⟨flag, set⟩, summary, quiet⟩ := h.closed open_
      exact ⟨flag, set, summary, quiet⟩
    case asserted => exact h.asserted found ((asserted_iff c).mpr held)
    case retrips =>
      obtain ⟨d, m, hd, ⟨flag, set⟩, same, counted, group⟩ := h.retrips found (unasserted released) closed test
      have mode : d.snapMode = m := by rw [same]; rfl
      exact ⟨d, hd, flag, set, by rw [mode]; exact same, counted, group⟩
    case overflows =>
      obtain ⟨seen, last, flag, set⟩ := h.mismatches found (unasserted released) closed test
      exact ⟨seen, last, flag, set⟩
    case opens =>
      obtain ⟨c, hc, o, apart, ⟨flag, set⟩, counted, group⟩ := h.opens new closed free agreed
      have cls : (v.input u i).config.cls = (s.input u i).config.cls := by rw [State.input_congr h.tiu]
      exact ⟨c, hc, o.unit, o.input, o.state, by rw [o.test, h.tiu], o.cls.trans cls, o.assertStamp.trans h.now.symm,
        o.releaseStamp, o.releaseUnobserved, o.repeats, o.lastRetrip, o.ackBadge, o.openedIn.trans h.number,
        o.handovers, o.snapGen.trans (h.lifetime u), apart, flag, set, counted, group⟩
    case reads =>
      refine (h.reads closed).imp_left fun ⟨j, c, hc, input, held⟩ => ⟨j, c, hc, input, (asserted_iff c).mp held⟩
    case persistence =>
      obtain ⟨settles, requests, quiet⟩ := left u k only
      refine ⟨fun other => ⟨settles other, fun ⟨frozen, pfi⟩ => (quiet frozen pfi).1 other⟩, fun writing absent =>
        ⟨requests writing absent, fun alone ⟨frozen, pfi⟩ agree => ?_⟩⟩
      obtain ⟨-, room, full⟩ := (quiet frozen pfi).2 writing absent agree
      have alone' : ∀ z : UnitId × Kind, z ≠ (u, k) → (s.account z.1 z.2).status ≠ .writing .queue :=
        fun z other => alone z.1 z.2 other
      exact ⟨room alone', full alone'⟩
  exact ⟨fun s a f powered => ⟨_, by rw [exec, execResetPin, if_pos powered], started a f 0 s⟩,
    fun s a f backup retained => ⟨_, by rw [exec, execMainSupplyReturn, if_pos backup, if_pos retained],
      started a f (backupDuration s.tb) (skipBackupBoundaries s)⟩⟩

end Sys2Proof.Proofs
end

section
/-! PROOFS. The soundness of the Case Table, slot by slot: what each change of a case keeps, a case opened, and the
cases handed over (R55, R58, R61, R75). -/

namespace Sys2Proof.Proofs

open Sys2Proof.Machine Sys2Proof.Safety

/-! ### The table, slot by slot -/

/-- A case number or a group id is in its range (R61, R83). -/
def InNumbers (n : Nat) : Prop := 1 ≤ n ∧ n ≤ 65535

theorem InNumbers.next {n : Nat} (h : InNumbers n) : InNumbers (nextNumber n) := by
  unfold InNumbers nextNumber at *; split <;> omega

theorem InNumbers.free {n : Nat} (h : InNumbers n) (held : List Nat) (fuel : Nat) :
    InNumbers (freeNumber held fuel n) := by
  induction fuel generalizing n with
  | zero => exact h
  | succ fuel ih =>
    rw [freeNumber]
    split
    · exact ih h.next
    · exact h

/-- A case that stands in the set of a unit, at a shift number (R55, R61, R75). -/
structure CaseSound (shift : Nat) (u : UnitId) (c : Case) : Prop where
  unit : c.unit = u
  number : InNumbers c.number
  opened : c.openedIn ≤ shift
  counted : c.handovers = min 255 (shift - c.openedIn)

/-- The cases of the table, slot by slot, at a shift number (R55, R58, R61, R75). -/
structure TableSound (shift : Nat) (slot : UnitId → SlotId → Option Case) : Prop where
  apart : ∀ u j v k c d, slot u j = some c → slot v k = some d → c.number = d.number → (u, j) = (v, k)
  each : ∀ u j c, slot u j = some c → CaseSound shift u c
  live : ∀ u j k c d, slot u j = some c → slot u k = some d → c.input = d.input → c.state ≠ .cleared →
    d.state ≠ .cleared → j = k

/-- The ids of the OPEN groups are in range and apart, and so is their counter in range (R83). -/
structure GroupsSound (x : Tgr) : Prop where
  counter : InNumbers x.counter
  ids : ∀ u g, x.groups.get u = some g → InNumbers g.id
  apart : ∀ u v g h, x.groups.get u = some g → x.groups.get v = some h → g.id = h.id → u = v

/-- The parts of a sound Case Table and Trip Group Resolver. -/
structure CasesHeld (s : State) : Prop where
  table : TableSound s.shc.number s.slot
  counter : InNumbers s.ct.counter
  groups : GroupsSound s.tgr

/-- The numbers of the cases are apart exactly when no two slots hold one number. -/
theorem numbers_nodup_iff (s : State) : (s.cases.map (·.number)).Nodup ↔
    ∀ u j v k c d, s.slot u j = some c → s.slot v k = some d → c.number = d.number → (u, j) = (v, k) := by
  have cases : s.cases.map (·.number) = slotOrder.filterMap fun x => (s.slot x.1 x.2).map (·.number) :=
    List.map_filterMap ..
  rw [cases, List.nodup_iff_pairwise_ne, List.pairwise_filterMap]
  constructor
  · intro h u j v k c d hc hd same
    by_contra other
    have : Std.Symm fun x y : UnitId × SlotId => ∀ n, (s.slot x.1 x.2).map (·.number) = some n →
        ∀ m, (s.slot y.1 y.2).map (·.number) = some m → n ≠ m := ⟨fun x y h n hn m hm => (h m hm n hn).symm⟩
    exact h.forall (mem_slotOrder u j) (mem_slotOrder v k) other _ (by rw [hc]; rfl) _ (by rw [hd]; rfl) same
  · intro h
    refine (by decide : slotOrder.Nodup).imp fun {x y} other n hn m hm same => other ?_
    obtain ⟨c, hc, rfl⟩ := Option.map_eq_some_iff.mp hn
    obtain ⟨d, hd, rfl⟩ := Option.map_eq_some_iff.mp hm
    exact h _ _ _ _ c d hc hd same

theorem casesSound_iff (s : State) : CasesSound s ↔ CasesHeld s := by
  unfold CasesSound
  rw [numbers_nodup_iff]
  constructor
  · rintro ⟨apart, ⟨c1, c2, g1, g2⟩, each, live, ids, groups⟩
    refine ⟨⟨apart, fun u j c hc => ?_, live⟩, ⟨c1, c2⟩, ⟨g1, g2⟩, ids, groups⟩
    obtain ⟨unit, n1, n2, opened, counted⟩ := each u j c hc
    exact ⟨unit, ⟨n1, n2⟩, opened, counted⟩
  · rintro ⟨⟨apart, each, live⟩, ⟨c1, c2⟩, ⟨g1, g2⟩, ids, groups⟩
    refine ⟨apart, ⟨c1, c2, g1, g2⟩, fun u j c hc => ?_, live, ids, groups⟩
    obtain ⟨unit, ⟨n1, n2⟩, opened, counted⟩ := each u j c hc
    exact ⟨unit, n1, n2, opened, counted⟩

/-! ### Changes of the cases -/

/-- What a change of a case keeps, and no change makes a CLEARED case live (R63 to R67). -/
structure CaseKept (c d : Case) : Prop where
  number : d.number = c.number
  unit : d.unit = c.unit
  input : d.input = c.input
  openedIn : d.openedIn = c.openedIn
  handovers : d.handovers = c.handovers
  live : d.state ≠ .cleared → c.state ≠ .cleared

theorem CaseKept.refl (c : Case) : CaseKept c c := ⟨rfl, rfl, rfl, rfl, rfl, id⟩

theorem CaseKept.of_same {c d : Case} (h : SameButGroup c d) : CaseKept c d := by
  rw [h]; exact ⟨rfl, rfl, rfl, rfl, rfl, id⟩

/-- Each case stands in the slot of one that it keeps. -/
def SlotsKept (f g : UnitId → SlotId → Option Case) : Prop :=
  ∀ u j d, g u j = some d → ∃ c, f u j = some c ∧ CaseKept c d

theorem SlotsKept.of_eq {f g : UnitId → SlotId → Option Case} (h : ∀ u j, g u j = f u j) : SlotsKept f g :=
  fun u j d hd => ⟨d, h u j ▸ hd, .refl d⟩

/-- A change in one slot, which empties it or keeps its case. -/
theorem SlotsKept.of_one {f g : UnitId → SlotId → Option Case} {u : UnitId} {j : SlotId} {o : Option Case}
    (slots : ∀ v k, g v k = if v = u ∧ k = j then o else f v k)
    (kept : ∀ d, o = some d → ∃ c, f u j = some c ∧ CaseKept c d) : SlotsKept f g := by
  intro v k d hd
  rw [slots] at hd
  split at hd
  · rename_i own; obtain ⟨rfl, rfl⟩ := own; exact kept d hd
  · exact ⟨d, hd, .refl d⟩

theorem SlotsKept.of_marked {u : UnitId} {n : Nat} {s t : State} (h : Marked u n s t) :
    SlotsKept s.slot t.slot := by
  intro v j d hd
  by_cases own : v = u
  · subst own
    obtain ⟨c, hc, marked⟩ := h.cases.origin hd
    exact ⟨c, hc, .of_same marked.same⟩
  · rw [State.slot, h.elsewhere v own] at hd
    exact ⟨d, hd, .refl d⟩

/-- A case that is handed over counts the shift (R75). -/
theorem handOver_eq_some {o : Option Case} {d : Case} (h : handOver o = some d) :
    ∃ c, o = some c ∧ d = { c with handovers := bump 255 c.handovers } := by
  unfold handOver at h
  split at h
  · split at h
    · cases h
    · exact ⟨_, rfl, (Option.some.inj h).symm⟩
  · cases h

namespace TableSound

variable {shift : Nat} {f g : UnitId → SlotId → Option Case}

theorem kept (h : TableSound shift f) (kept : SlotsKept f g) : TableSound shift g where
  apart u j v k c d hc hd same := by
    obtain ⟨c', hc', keptC⟩ := kept u j c hc
    obtain ⟨d', hd', keptD⟩ := kept v k d hd
    exact h.apart u j v k c' d' hc' hd' (by rw [← keptC.number, same, keptD.number])
  each u j c hc := by
    obtain ⟨c', hc', keptC⟩ := kept u j c hc
    obtain ⟨unit, number, opened, counted⟩ := h.each u j c' hc'
    exact ⟨keptC.unit.trans unit, keptC.number ▸ number, keptC.openedIn ▸ opened,
      by rw [keptC.handovers, counted, keptC.openedIn]⟩
  live u j k c d hc hd same liveC liveD := by
    obtain ⟨c', hc', keptC⟩ := kept u j c hc
    obtain ⟨d', hd', keptD⟩ := kept u k d hd
    exact h.live u j k c' d' hc' hd' (by rw [← keptC.input, same, keptD.input]) (keptC.live liveC) (keptD.live liveD)

/-- A case that takes a slot, with a number that no other holds, for an input without a live case (R58 to R61). -/
theorem opened (h : TableSound shift f) {u : UnitId} {j : SlotId} {d : Case}
    (slots : ∀ v k, g v k = if v = u ∧ k = j then some d else f v k) (sound : CaseSound shift u d)
    (fresh : ∀ v k c, f v k = some c → (v, k) ≠ (u, j) → c.number ≠ d.number)
    (new : ∀ k c, f u k = some c → c.input = d.input → c.state = .cleared) : TableSound shift g := by
  have held {v : UnitId} {k : SlotId} {c : Case} (hc : g v k = some c) :
      ((v, k) = (u, j) ∧ c = d) ∨ ((v, k) ≠ (u, j) ∧ f v k = some c) := by
    rw [slots] at hc
    split at hc
    · rename_i own; exact .inl ⟨Prod.ext own.1 own.2, (Option.some.inj hc).symm⟩
    · rename_i other; exact .inr ⟨by simpa using other, hc⟩
  refine ⟨fun v k w l c e hc he same => ?_, fun v k c hc => ?_, fun v k l c e hc he same liveC liveE => ?_⟩
  · rcases held hc with ⟨own, rfl⟩ | ⟨other, hc⟩ <;> rcases held he with ⟨own', rfl⟩ | ⟨other', he⟩
    · rw [own, own']
    · exact absurd same.symm (fresh w l e he other')
    · exact absurd same (fresh v k c hc other)
    · exact h.apart v k w l c e hc he same
  · rcases held hc with ⟨own, rfl⟩ | ⟨-, hc⟩
    · rw [(Prod.mk.inj own).1]; exact sound
    · exact h.each v k c hc
  · rcases held hc with ⟨own, rfl⟩ | ⟨other, hc⟩ <;> rcases held he with ⟨own', rfl⟩ | ⟨other', he⟩
    · rw [(Prod.mk.inj own).2, (Prod.mk.inj own').2]
    · obtain rfl := (Prod.mk.inj own).1
      exact absurd (new l e he same.symm) liveE
    · obtain rfl := (Prod.mk.inj own').1
      exact absurd (new k c hc same) liveC
    · exact h.live v k l c e hc he same liveC liveE

/-- The cases handed over to the next shift: each is counted, and a CLEARED one leaves (R75). -/
theorem handedOver (h : TableSound shift f) : TableSound (shift + 1) fun u j => handOver (f u j) where
  apart u j v k c d hc hd same := by
    obtain ⟨c', hc', rfl⟩ := handOver_eq_some hc
    obtain ⟨d', hd', rfl⟩ := handOver_eq_some hd
    exact h.apart u j v k c' d' hc' hd' same
  each u j c hc := by
    obtain ⟨c', hc', rfl⟩ := handOver_eq_some hc
    obtain ⟨unit, number, opened, counted⟩ := h.each u j c' hc'
    refine ⟨unit, number, Nat.le_succ_of_le opened, ?_⟩
    dsimp only
    rw [counted, bump]
    split <;> omega
  live u j k c d hc hd same liveC liveD := by
    obtain ⟨c', hc', rfl⟩ := handOver_eq_some hc
    obtain ⟨d', hd', rfl⟩ := handOver_eq_some hd
    exact h.live u j k c' d' hc' hd' same liveC liveD

end TableSound

/-- The cases, the groups and the shift number stand. -/
theorem CasesHeld.congr {s t : State} (h : CasesHeld s) (ct : t.ct = s.ct) (tgr : t.tgr = s.tgr)
    (number : t.shc.number = s.shc.number) : CasesHeld t where
  table := by rw [number]; exact h.table.kept (.of_eq fun u j => State.slot_congr ct u j)
  counter := ct ▸ h.counter
  groups := tgr ▸ h.groups

/-- The cases of the table are kept, with the groups and the shift number. -/
theorem CasesHeld.kept {s t : State} (h : CasesHeld s) (kept : SlotsKept s.slot t.slot)
    (counter : t.ct.counter = s.ct.counter) (tgr : t.tgr = s.tgr) (number : t.shc.number = s.shc.number) :
    CasesHeld t :=
  ⟨by rw [number]; exact h.table.kept kept, counter ▸ h.counter, tgr ▸ h.groups⟩

end Sys2Proof.Proofs
end

section
/-! PROOFS. What trips, releases and the closing of groups keep of the Case Table and of the group ids (R58 to R65, R83 to
R92). -/

namespace Sys2Proof.Proofs

open Sys2Proof.Machine Sys2Proof.Safety

/-! ### The group ids (R83) -/

namespace GroupsSound

/-- Each OPEN group has the id of one that was OPEN in its unit. -/
theorem kept {x y : Tgr} (h : GroupsSound x) (counter : InNumbers y.counter)
    (groups : ∀ v g, y.groups.get v = some g → ∃ g', x.groups.get v = some g' ∧ g.id = g'.id) : GroupsSound y where
  counter := counter
  ids v g hg := by
    obtain ⟨g', hg', id⟩ := groups v g hg
    exact id ▸ h.ids v g' hg'
  apart u v g k hg hk same := by
    obtain ⟨g', hg', id⟩ := groups u g hg
    obtain ⟨k', hk', id'⟩ := groups v k hk
    exact h.apart u v g' k' hg' hk' (by rw [← id, same, id'])

theorem cleared {y : Tgr} (counter : InNumbers y.counter) (none : ∀ v, y.groups.get v = none) : GroupsSound y where
  counter := counter
  ids v g hg := by rw [none] at hg; cases hg
  apart u v g k hg := by rw [none] at hg; cases hg

theorem closeGroup {s : State} (h : GroupsSound s.tgr) (u : UnitId) (r : CloseReason) :
    GroupsSound (closeGroup u r s).tgr := by
  have counter : (Machine.closeGroup u r s).tgr.counter = s.tgr.counter := by unfold Machine.closeGroup; split <;> rfl
  refine h.kept (counter ▸ h.counter) fun v g hg => ?_
  rw [closeGroup_groups] at hg
  split at hg
  · cases hg
  · exact ⟨g, hg, rfl⟩

theorem closeIfDue {s : State} (h : GroupsSound s.tgr) (u : UnitId) : GroupsSound (closeIfDue u s).tgr := by
  unfold Machine.closeIfDue
  split
  · split
    · exact h.closeGroup u .expired
    · exact h
  · exact h

/-- The ids that a new group's is searched among are fewer than the tests made (R83). -/
theorem heldIds_length (s : State) : (heldIds s).length ≤ 40 := by
  have groups : (s.tgr.groups.toList.filterMap fun o => o.map (·.id)).length ≤ 8 := List.length_filterMap_le _ _
  have := cases_length s
  rw [heldIds, List.length_append, List.length_map]
  omega

/-- A group that opens takes an id that no OPEN group has (R83). -/
theorem openGroup {s : State} (h : GroupsSound s.tgr) (a : Assertion) (n : Nat) :
    GroupsSound (openGroup a n s).tgr := by
  have groups (v : UnitId) : (Machine.openGroup a n s).tgr.groups.get v
      = if v = a.unit then (Machine.openGroup a n s).tgr.groups.get a.unit else s.tgr.groups.get v := by
    split
    · rename_i own; rw [own]
    · rename_i other; exact (PerUnit.get_set _ _ _ _).trans (if_neg other)
  obtain ⟨o, own, id⟩ : ∃ o, (Machine.openGroup a n s).tgr.groups.get a.unit = some o
      ∧ o.id = freeNumber (heldIds s) 41 s.tgr.counter := ⟨_, (PerUnit.get_set _ _ _ _).trans (if_pos rfl), rfl⟩
  have range : InNumbers o.id := id ▸ h.counter.free _ _
  have fresh (v : UnitId) (g : OpenGroup) (hg : s.tgr.groups.get v = some g) : g.id ≠ o.id := by
    have free : o.id ∉ heldIds s := id ▸ freeNumber_free _ (Nat.lt_succ_of_le (heldIds_length s)) (by decide)
    rintro same
    refine free (List.mem_append_right _ (List.mem_filterMap.mpr ⟨some g, ?_, congrArg some same⟩))
    exact (PerUnit.mem_toList _ _).mpr ⟨v, hg⟩
  have counter : (Machine.openGroup a n s).tgr.counter = nextNumber o.id := by rw [id]; rfl
  refine ⟨counter ▸ range.next, fun v g hg => ?_, fun u v g k hg hk same => ?_⟩
  · rw [groups, own] at hg
    split at hg
    · exact Option.some.inj hg ▸ range
    · exact h.ids v g hg
  · rw [groups, own] at hg hk
    split at hg <;> split at hk
    · rename_i first second; rw [first, second]
    · exact absurd (Option.some.inj hg ▸ same.symm) (fresh v k hk)
    · exact absurd (Option.some.inj hk ▸ same) (fresh u g hg)
    · exact h.apart u v g k hg hk same

theorem joinGroup {s : State} (h : GroupsSound s.tgr) (a : Assertion) (n : Nat) {g : OpenGroup}
    (open_ : s.tgr.groups.get a.unit = some g) : GroupsSound (joinGroup a n g s).tgr := by
  have joined : ∃ g', (Machine.joinGroup a n g s).tgr.groups = s.tgr.groups.set a.unit (some g') ∧ g'.id = g.id
      ∧ (Machine.joinGroup a n g s).tgr.counter = s.tgr.counter := by
    unfold Machine.joinGroup; dsimp only; split <;> exact ⟨_, rfl, rfl, rfl⟩
  obtain ⟨g', groups, id, counter⟩ := joined
  refine h.kept (counter ▸ h.counter) fun v k hk => ?_
  rw [groups, PerUnit.get_set] at hk
  split at hk
  · rename_i own; exact ⟨g, own ▸ open_, Option.some.inj hk ▸ id⟩
  · exact ⟨k, hk, rfl⟩

theorem placeCase {s : State} (h : GroupsSound s.tgr) (a : Assertion) (n held : Nat) :
    GroupsSound (placeCase a n held s).tgr := by
  have opening {s : State} (h : GroupsSound s.tgr) : GroupsSound (placeByOpening a n s).tgr := by
    have tgr : (placeByOpening a n s).tgr = (Machine.openGroup a n s).tgr := by simp [placeByOpening]
    exact tgr ▸ h.openGroup a n
  unfold Machine.placeCase
  split
  · exact h
  · split
    · exact opening h
    · rename_i g open_
      split
      · refine closeIfDue ?_ a.unit
        rw [(tripIfStops_frame _ _).2.2.2.2.1]
        split
        · exact h
        · exact h.joinGroup a n open_
      · exact opening (h.closeGroup a.unit .superseded)

end GroupsSound

/-! ### Cases opened, re-tripped and released (R58 to R65) -/

theorem inputCase_none_iff {s : State} {u : UnitId} {i : InputId} :
    s.inputCase u i = none ↔ ∀ j c, s.slot u j = some c → c.input = i → c.state = .cleared := by
  rw [inputCase_eq, List.findSome?_eq_none_iff]
  constructor
  · intro none j c slot input
    by_contra live
    have found := none j (by cases j <;> decide)
    rw [slotCase_some ⟨slot, input, live⟩] at found
    cases found
  · exact fun cleared j _ => slotCase_none fun c ⟨slot, input, live⟩ => live (cleared j c slot input)

namespace CasesHeld

variable {s : State}

theorem of_report (h : CasesHeld s) (us : List UnitId) : CasesHeld (report us s) :=
  h.congr (by simp) (by simp) (by rw [report_shc])

theorem caseLamp (h : CasesHeld s) : CasesHeld (evalCaseLamp s) := h.congr (by simp) (by simp) (by simp)

theorem closeGroup (h : CasesHeld s) (u : UnitId) (r : CloseReason) : CasesHeld (closeGroup u r s) where
  table := by
    rw [(closeGroup_frame _ _ _).2.2.2.2.2.2.1]
    exact h.table.kept (.of_marked (n := 0) (.closeGroup r s))
  counter := (Marked.closeGroup (u := u) (n := 0) r s).counter ▸ h.counter
  groups := h.groups.closeGroup u r

theorem placeCase (h : CasesHeld s) (a : Assertion) (n held : Nat) : CasesHeld (placeCase a n held s) where
  table := by
    rw [(placeCase_frame _ _ _ _).2.2.2.1]
    exact h.table.kept (.of_marked (.placeCase a n held s))
  counter := (Marked.placeCase a n held s).counter ▸ h.counter
  groups := h.groups.placeCase a n held

/-- A case opened for an input without a live case (R58 to R61). -/
theorem openCase (h : CasesHeld s) (a : Assertion) (j : SlotId) (new : s.inputCase a.unit a.input = none) :
    CasesHeld (openCase a j s) where
  table := by
    rw [(openCase_frame _ _ _).2.2.2.2.2.2.2.1]
    refine h.table.opened (openCase_slot a j s) ⟨rfl, h.counter.free _ _, le_rfl, ?_⟩
      (fun v k c hc other => openedCase_number a j s hc other) (inputCase_none_iff.mp new)
    simp [openedCase]
  counter := by rw [(openCase_ct a j s).1]; exact (h.counter.free _ _).next
  groups := by rw [(openCase_frame _ _ _).2.2.2.1]; exact h.groups

/-- A re-trip of an input's case (R63). -/
theorem retripCase (h : CasesHeld s) (a : Assertion) {j : SlotId} {c : Case}
    (found : s.inputCase a.unit a.input = some (j, c)) : CasesHeld (retripCase a j c s) := by
  obtain ⟨slot, -, live⟩ := inputCase_slot found
  refine h.kept (.of_one (retripCase_put a j c s).slots fun d hd => ⟨c, slot, ?_⟩) rfl (by simp) (by simp)
  exact Option.some.inj hd ▸ ⟨rfl, rfl, rfl, rfl, rfl, fun _ => live⟩

theorem overflowAssertion (h : CasesHeld s) (a : Assertion) : CasesHeld (overflowAssertion a s) :=
  h.kept (.of_eq fun u j => by rw [State.slot, State.caseSet, overflowAssertion_ct]; rfl)
    (by rw [overflowAssertion_ct]) (by simp) (by simp)

/-- A confirmed assertion, whatever it finds (R58, R59, R63, R71). -/
theorem takeAssertion (h : CasesHeld s) (a : Assertion) : CasesHeld (takeAssertion a s) := by
  refine caseLamp (of_report ?_ _)
  simp only [assertionResult]
  split
  · rename_i new
    split
    · exact (h.openCase a _ new).placeCase a _ 0
    · exact h.overflowAssertion a
  · rename_i found
    split
    · exact (h.retripCase a found).placeCase a _ _
    · exact h.overflowAssertion a

/-- A confirmed or unobserved release (R64, R65). -/
theorem takeRelease (h : CasesHeld s) (u : UnitId) (i : InputId) (x : Option Stamp) :
    CasesHeld (takeRelease u i x s) := by
  unfold Machine.takeRelease
  split
  · rename_i j c found
    split
    · obtain ⟨slot, -, live⟩ := inputCase_slot found
      refine caseLamp (of_report (h.kept (.of_one (fun v k => State.slot_setSlot s u v j k _) fun d hd => ?_)
        rfl rfl rfl) _)
      exact ⟨c, slot, Option.some.inj hd ▸ ⟨rfl, rfl, rfl, rfl, rfl, fun _ => live⟩⟩
    · exact h
  · exact h

/-- The inputs read at a start hand on assertions and releases (R51, R52). -/
theorem restartInputs (h : CasesHeld s) : CasesHeld (restartInputs s) := by
  have one {s : State} (h : CasesHeld s) (x : Stamp) (y : UnitId × InputId) : CasesHeld (handOnRestart x s y) := by
    simp only [handOnRestart]
    (repeat' split) <;> first
      | exact h
      | exact h.takeAssertion _
      | exact h.takeRelease _ _ _
  have fold (x : Stamp) (l : List (UnitId × InputId)) {s : State} (h : CasesHeld s) :
      CasesHeld (l.foldl (handOnRestart x) s) := by
    induction l generalizing s with
    | nil => exact h
    | cons y l ih => exact ih (one h x y)
  exact fold _ _ (h.congr rfl rfl rfl)

/-- The groups closed at a warm start (R92). -/
theorem warmGroups (h : CasesHeld s) : CasesHeld (warmGroups s) := by
  have fold (l : List UnitId) {s : State} (h : CasesHeld s) :
      CasesHeld (l.foldl (fun s u => Machine.closeGroup u .warmStart s) s) := by
    induction l generalizing s with
    | nil => exact h
    | cons u l ih => exact ih (h.closeGroup u .warmStart)
  simp only [Machine.warmGroups]
  split
  · exact h
  · exact (fold _ h).of_report _

end CasesHeld

end Sys2Proof.Proofs
end

section
/-! PROOFS. Every step keeps the Case Table and the group ids sound (R55, R58, R61, R75, R83, R164). -/

namespace Sys2Proof.Proofs

open Sys2Proof.Machine Sys2Proof.Safety

/-! ### The shift number (R151, R164) -/

theorem number_of_shiftDuty {h k : Shc} (same : shiftDuty h = shiftDuty k) : h.number = k.number :=
  (Prod.mk.inj same).1

@[simp] theorem takeTimeOfDay_number (s : State) : (takeTimeOfDay s).shc.number = s.shc.number :=
  number_of_shiftDuty (takeTimeOfDay_shiftDuty s)

@[simp] theorem warmShift_number (s : State) : (warmShift s).shc.number = s.shc.number :=
  number_of_shiftDuty (warmShift_shiftDuty s)

@[simp] theorem bumpVersion_number (s : State) : (bumpVersion s).shc.number = s.shc.number := rfl

@[simp] theorem report_number (us : List UnitId) (s : State) : (report us s).shc.number = s.shc.number := by
  rw [report_shc]

@[simp] theorem changeCase_number (u : UnitId) (j : SlotId) (c : Case) (s : State) :
    (changeCase u j c s).shc.number = s.shc.number := by simp [changeCase]

@[simp] theorem showPresence_number (b : Nat) (s : State) : (showPresence b s).shc.number = s.shc.number := by
  rw [(showPresence_fields b s).1]

@[simp] theorem askSetTime_number (x f n : Nat) (s : State) : (askSetTime x f n s).1.shc.number = s.shc.number := by
  unfold askSetTime; (repeat' split) <;> simp

@[simp] theorem broadcastSetTime_number (x f n : Nat) (s : State) :
    (broadcastSetTime x f n s).shc.number = s.shc.number := by
  unfold broadcastSetTime; (repeat' split) <;> simp

@[simp] theorem selectedPulse_number (e : Int) (s : State) : (selectedPulse e s).shc.number = s.shc.number := by
  simp only [selectedPulse, takeOutlier]
  (repeat' split) <;> simp [stepPhase]

@[simp] theorem acceptPulse_number (x : SourceId) (s : State) : (acceptPulse x s).shc.number = s.shc.number := by
  simp only [acceptPulse]; split <;> simp

@[simp] theorem boundaryPeriod_number (s : State) : (boundaryPeriod s).shc.number = s.shc.number := by
  simp only [boundaryPeriod]; split <;> simp

@[simp] theorem holdBackEndPeriod_number (s : State) : (holdBackEndPeriod s).shc.number = s.shc.number := by
  simp [holdBackEndPeriod]

/-! ### The commands -/

namespace CasesHeld

variable {s : State}

/-- A change of a live case by a command (R66, R67). -/
theorem changeCase (h : CasesHeld s) {u : UnitId} {j : SlotId} {c d : Case} (slot : s.slot u j = some c)
    (kept : CaseKept c d) : CasesHeld (changeCase u j d s) :=
  h.kept (.of_one (fun v k => slot_changeCase u v j k d s) fun _ hd => ⟨c, slot, Option.some.inj hd ▸ kept⟩)
    rfl (by simp) (by simp)

theorem showPresence (h : CasesHeld s) (b : Nat) : CasesHeld (showPresence b s) :=
  h.congr (by simp) (by simp) (by simp)

theorem askAckCase (h : CasesHeld s) (n b : Nat) : CasesHeld (askAckCase n b s).1 := by
  unfold Machine.askAckCase
  split
  · exact h
  · split
    · exact h
    · rename_i u j c found
      split
      · rename_i acked
        dsimp only
        refine showPresence (h.changeCase (findCase_slot found) ?_) b
        refine ⟨rfl, rfl, rfl, rfl, rfl, fun _ none => ?_⟩
        rw [none] at acked; cases acked
      · split
        · exact h
        · exact h.showPresence b

theorem askClearCase (h : CasesHeld s) (n b : Nat) : CasesHeld (askClearCase n b s).1 := by
  unfold Machine.askClearCase
  split
  · exact h
  · split
    · exact h
    · rename_i u j c found
      split
      · dsimp only
        refine showPresence (h.changeCase (findCase_slot found) ?_) b
        exact ⟨rfl, rfl, rfl, rfl, rfl, absurd rfl⟩
      · exact h

theorem askRetireCase (h : CasesHeld s) (n : Nat) : CasesHeld (askRetireCase n s).1 := by
  unfold Machine.askRetireCase
  split
  · exact h
  · split
    · exact h
    · split
      · refine caseLamp (of_report (h.kept (.of_one (State.slot_setSlot s _ · _ · none) ?_) rfl rfl rfl) _)
        exact fun _ none => by cases none
      · exact h

theorem askClearOverflow (h : CasesHeld s) (n : Nat) : CasesHeld (askClearOverflow n s).1 := by
  unfold Machine.askClearOverflow
  split
  · dsimp only
    split
    · exact h
    · refine of_report ?_ _
      exact h.kept (.of_eq fun _ _ => rfl) rfl rfl rfl
  · exact h

/-- The cases and the groups are empty, with their counters (R78, R93). -/
theorem emptied {t : State} (slots : ∀ u j, t.slot u j = none) (counter : InNumbers t.ct.counter)
    (groups : ∀ u, t.tgr.groups.get u = none) (ids : InNumbers t.tgr.counter) : CasesHeld t where
  table :=
    { apart := fun u j v k c d hc => by rw [slots] at hc; cases hc
      each := fun u j c hc => by rw [slots] at hc; cases hc
      live := fun u j k c d hc => by rw [slots] at hc; cases hc }
  counter := counter
  groups := .cleared ids groups

theorem resetC (h : CasesHeld s) : CasesHeld (resetC s) := by
  refine caseLamp (of_report ?_ _)
  refine emptied (fun u j => ?_) h.counter (fun u => PerUnit.get_fill _ _) h.groups.counter
  simp only [State.slot, State.caseSet, PerUnit.get_fill, emptySet, PerSlot.get_fill]

/-- The increment of the shift number hands the cases over (R75, R164). -/
theorem incrementShift (h : CasesHeld s) (accept : Bool) (badge team : Nat) (skip : Option Nat) :
    CasesHeld (incrementShift accept badge team skip s) := by
  have number : (Machine.incrementShift accept badge team skip s).shc.number = s.shc.number + 1 := by
    simp [Machine.incrementShift, restartPresence, setAlarm, bumpVersion, Shc.onDuty, Shc.incremented]
  have ct : (Machine.incrementShift accept badge team skip s).ct = s.ct.handedOver := by
    simp [Machine.incrementShift]
  refine ⟨?_, by rw [ct]; exact h.counter, by rw [(incrementShift_frame _ _ _ _ _).2.2.2.1]; exact h.groups⟩
  have slot (u : UnitId) (j : SlotId) : State.slot (Machine.incrementShift accept badge team skip s) u j
      = handOver (s.slot u j) := by
    simp only [State.slot, State.caseSet, ct, Ct.handedOver, PerUnit.get_map, PerSlot.get_map]
  rw [number]
  exact h.table.handedOver.kept (.of_eq slot)

theorem askSignOn (h : CasesHeld s) (b m : Nat) : CasesHeld (askSignOn b m s).1 := by
  unfold Machine.askSignOn
  (repeat' split) <;> first
    | exact h
    | exact h.incrementShift _ _ _ _

theorem askAccept (h : CasesHeld s) (b v m : Nat) : CasesHeld (askAccept b v m s).1 := by
  unfold Machine.askAccept
  (repeat' split) <;> first
    | exact h
    | exact h.incrementShift _ _ _ _

end CasesHeld

/-- Every block keeps the cases and the groups sound. -/
theorem blockAct_casesHeld {act : State → State × Answer} (b : BlockAct act) {s : State} (h : CasesHeld s) :
    CasesHeld (act s).1 := by
  cases b
  case ackCase => exact h.askAckCase _ _
  case clearCase => exact h.askClearCase _ _
  case retireCase => exact h.askRetireCase _
  case clearOverflow => exact h.askClearOverflow _
  case setGroupWindow => exact ⟨h.table, h.counter, h.groups.counter, h.groups.ids, h.groups.apart⟩
  case resetGroupC => exact h.resetC
  case signOn => exact h.askSignOn _ _
  case accept => exact h.askAccept _ _ _
  all_goals refine h.congr (by simp) (by simp) ?_
  case presence => unfold askPresence; (repeat' split) <;> rfl
  case offer => unfold askOffer; (repeat' split) <;> simp
  case withdraw => unfold askWithdraw; (repeat' split) <;> simp
  case setRoster => unfold askSetRoster; (repeat' split) <;> rfl
  case setShiftTiming => unfold askSetShiftTiming; (repeat' split) <;> rfl
  case resetGroupS => rfl
  all_goals simp

/-! ### The starts and the events -/

namespace CasesHeld

variable {s : State}

theorem warmStart (h : CasesHeld s) (a : BitVec 5) (f : Bool) (d : Nat) : CasesHeld (warmStart a f d s) := by
  obtain ⟨-, shc, -, -, ct, tgr, -⟩ := startBegun_blocks a f d s
  obtain ⟨b, q, hb, hq, stages⟩ := warmStart_stages a f d s
  rw [← hb] at shc ct tgr
  have begun : CasesHeld b := h.congr ct tgr (by rw [shc])
  have queued : CasesHeld q := hq ▸ begun.warmGroups.congr (by simp) (by simp) (by simp)
  have stored : CasesHeld (startStored (storeRestarted q)) :=
    queued.congr (by simp [startStored, storeRestarted]) (by simp [startStored, storeRestarted])
      (by simp [startStored, storeRestarted])
  rw [stages]
  exact stored.restartInputs.congr (by simp [startEnded]) (by simp [startEnded]) (by simp [startEnded])

theorem coldStart (a : BitVec 5) (f : Bool) (s : State) : CasesHeld (coldStart a f s) := by
  have one : InNumbers 1 := ⟨le_rfl, by decide⟩
  have blocks : CasesHeld (coldBlocks a f s) :=
    emptied (fun u j => by cases u <;> cases j <;> rfl) one (fun u => by cases u <;> rfl) one
  have heldUp : CasesHeld (holdupIfAsserted (coldBlocks a f s)) := blocks.congr (by simp) (by simp) (by simp)
  exact heldUp.restartInputs.congr (by simp [Machine.coldStart]) (by simp [Machine.coldStart])
    (by simp [Machine.coldStart, driveOutputs])

end CasesHeld

/-- Every event keeps the cases and the groups sound. -/
theorem event_casesHeld {i : Instr} {s t : State} (ev : requestBytes i = none) (nf : i ≠ .frameEnd) (h : CasesHeld s)
    (e : exec i s = .next t) : CasesHeld t := by
  cases i <;> first
    | (simp [requestBytes] at ev; done)
    | exact absurd rfl nf
    | obtain rfl := next_inj e
  case assertionConfirmation u i =>
    split
    · split
      · refine CasesHeld.takeAssertion ?_ _
        exact h.congr rfl rfl rfl
      · exact h
    · exact h
  case releaseConfirmation u i =>
    split
    · split
      · refine CasesHeld.takeRelease ?_ _ _ _
        exact h.congr rfl rfl rfl
      · exact h
    · exact h
  case groupExpiry u =>
    split
    · exact (h.closeGroup u .expired).of_report _
    · exact h
  case mainSupplyReturn a f =>
    split
    · split
      · exact CasesHeld.warmStart (s := skipBackupBoundaries s) (h.congr rfl rfl rfl) _ _ _
      · exact .coldStart a f s
    · exact h
  case resetPin a f =>
    split
    · exact h.warmStart a f 0
    · exact h
  case presenceExpiry =>
    split
    · exact h.congr (by simp) (by simp) rfl
    · exact h
  all_goals
    (repeat' split) <;> first
      | exact h
      | exact h.congr rfl rfl rfl
      | exact h.congr (by simp) (by simp) (by simp)

theorem tick_casesHeld {s : State} (h : CasesHeld s) : CasesHeld (tick s) := by
  unfold tick oscillatorPeriod
  (repeat' split) <;> first
    | exact h.congr rfl rfl rfl
    | exact h.congr (by simp) (by simp) (by simp)

/-- Settles O11: every step keeps each part of `CasesHeld`, which together are the invariant. -/
theorem stepKeepsCasesSound : Obligations.StepKeepsCasesSound := by
  intro s t h e
  rw [casesSound_iff] at *
  exact step_keeps (P := CasesHeld) (queue := fun _ _ h => h.congr rfl rfl rfl)
    (reply := fun _ _ _ h => h.congr rfl rfl rfl) (block := fun _ _ b _ h => blockAct_casesHeld b h)
    (broadcast := fun _ _ _ _ _ _ _ h => h.congr (by simp) (by simp) (by simp))
    (receiver := fun _ _ h => h.congr rfl rfl rfl) (count := fun _ h => h.congr rfl rfl rfl)
    (event := fun _ _ _ ev nf h e => event_casesHeld ev nf h e) (time := fun _ h => tick_casesHeld h) s t h e

end Sys2Proof.Proofs
end

section
/-! PROOFS. ACK_CASE, CLEAR_CASE and RETIRE_CASE: the case changed, its report, and the presence shown (R66 to R68, R70,
R73, R105, R165, R166). -/

namespace Sys2Proof.Proofs

open Sys2Proof.Machine Sys2Proof.Safety

/-! ### What each command answers (R66 to R68) -/

section

variable {s : State} {n b : Nat} {u : UnitId} {j : SlotId} {c : Case}

theorem askAckCase_acks (hn : n ≠ 0) (hb : b ≠ 0) (found : s.findCase n = some (u, j, c)) {x : CaseState}
    (acked : ackedState c.state = some x) : askAckCase n b s =
      (showPresence b (changeCase u j { c with state := x, ackBadge := some b } s), caseStateAnswer .ok x) := by
  simp only [askAckCase, hn, hb, or_self, if_false, found, acked]

theorem askAckCase_stands (hn : n ≠ 0) (hb : b ≠ 0) (found : s.findCase n = some (u, j, c))
    (acked : c.state = .activeAck ∨ c.state = .acknowledged) :
    askAckCase n b s = (showPresence b s, caseStateAnswer .ok c.state) := by
  rcases acked with h | h <;> simp [askAckCase, hn, hb, found, ackedState, h]

theorem askAckCase_cleared (hn : n ≠ 0) (hb : b ≠ 0) (found : s.findCase n = some (u, j, c))
    (cleared : c.state = .cleared) : askAckCase n b s = (s, caseStateAnswer .wrongState .cleared) := by
  simp [askAckCase, hn, hb, found, ackedState, cleared]

theorem askClearCase_clears (hn : n ≠ 0) (hb : b ≠ 0) (found : s.findCase n = some (u, j, c))
    (acked : c.state = .acknowledged) (apart : inOpenGroup s u c = false) : askClearCase n b s =
      (showPresence b (changeCase u j { c with state := .cleared, clearBadge := some b } s),
        caseStateAnswer .ok .cleared) := by
  simp only [askClearCase, hn, hb, or_self, if_false, found, acked, apart, and_self, if_true]

theorem askClearCase_refuses (hn : n ≠ 0) (hb : b ≠ 0) (found : s.findCase n = some (u, j, c))
    (other : c.state ≠ .acknowledged ∨ inOpenGroup s u c = true) :
    askClearCase n b s = (s, caseStateAnswer .wrongState c.state) := by
  have no : ¬ (c.state = .acknowledged ∧ inOpenGroup s u c = false) := by
    rintro ⟨acked, apart⟩
    rcases other with h | h
    · exact h acked
    · rw [apart] at h; cases h
  simp only [askClearCase, hn, hb, or_self, if_false, found, if_neg no]

theorem askRetireCase_retires (hn : n ≠ 0) (found : s.findCase n = some (u, j, c)) (cleared : c.state = .cleared) :
    askRetireCase n s = (evalCaseLamp (report [u] (s.setSlot u j none)), { status := .ok, body := [] }) := by
  simp only [askRetireCase, hn, if_false, found, cleared, if_true]

theorem askRetireCase_refuses (hn : n ≠ 0) (found : s.findCase n = some (u, j, c)) (live : c.state ≠ .cleared) :
    askRetireCase n s = (s, refuse .wrongState) := by
  simp only [askRetireCase, hn, if_false, found, if_neg live]

/-- A case is in the OPEN group of its unit where it bears that group's id (R80). -/
theorem inOpenGroup_iff : inOpenGroup s u c = true ↔ ∃ g, s.tgr.groups.get u = some g ∧ c.groupId = g.id := by
  unfold inOpenGroup
  cases s.tgr.groups.get u <;> simp

end

/-! ### What each change leaves -/

/-- Showing presence writes the presence timer, the alarm and its line, or nothing (R165, R166). -/
theorem showPresence_eq (b : Nat) (m : State) : ∃ p a l, showPresence b m = { m with
      shc := { m.shc with presenceBy := p, alarm := a }, lnu := { m.lnu with presenceLine := l } }
    ∧ if m.shc.auto = true ∧ m.shc.duty = some b then
        p = m.shc.presenceExp.map (fun n => m.elapsed + 600000000 * 2 ^ n) ∧ a = false ∧ l = false
      else p = m.shc.presenceBy ∧ a = m.shc.alarm ∧ l = m.lnu.presenceLine := by
  unfold showPresence
  split
  · exact ⟨_, _, _, rfl, rfl, rfl, rfl⟩
  · exact ⟨_, _, _, rfl, rfl, rfl, rfl⟩

/-- A case changed by a command, and reported (R66, R67, R70, R73). -/
theorem changeCase_leaves (u : UnitId) (j : SlotId) (c : Case) (s : State) :
    let t := changeCase u j c s
    t.slot u j = some c ∧ t.caseSet u = { (s.caseSet u).touch j with slots := (t.caseSet u).slots }
      ∧ OnlySlot u j s t ∧ OnlyReported u s t ∧ t.lnu = { s.lnu with caseLamp := t.lnu.caseLamp }
      ∧ t.shc = { s.shc with version := (s.shc.version + 1) % 65536 }
      ∧ t = { s with ct := t.ct, usm := t.usm, shc := t.shc, lnu := t.lnu } := by
  intro t
  have only := report_only [u] (touchSlot u j (s.setSlot u j (some c)))
  have rest : t = { s with ct := t.ct, usm := t.usm, shc := t.shc, lnu := t.lnu } := by
    simp only [t, changeCase]; rw [only]; rfl
  have slots := fun v k => slot_changeCase u v j k c s
  have ct : t.ct = (touchSlot u j (s.setSlot u j (some c))).ct := by simp [t, changeCase]
  have lnu : (report [u] (touchSlot u j (s.setSlot u j (some c)))).lnu = s.lnu := by simp
  refine ⟨by rw [slots, if_pos ⟨rfl, rfl⟩], caseSet_changeCase u j c s,
    ⟨fun v k other => by rw [slots, if_neg (by simpa using other)], by rw [ct]; rfl, by rw [ct]; rfl⟩,
    report_one u (touchSlot u j (s.setSlot u j (some c))), ?_, report_shc _ _, rest⟩
  simp only [t, changeCase, evalCaseLamp, lnu]

/-- A case changed, presence shown, and the command answered. -/
theorem changed_answered (u : UnitId) (j : SlotId) (c : Case) (s : State) (b code : Nat) (a : Answer) :
    let t := sendReply code a (showPresence b (changeCase u j c s))
    Replied code a s t ∧ t.slot u j = some c
      ∧ t.caseSet u = { (s.caseSet u).touch j with slots := (t.caseSet u).slots }
      ∧ OnlySlot u j s t ∧ OnlyReported u s t ∧ OnlyVersion s t ∧ PresenceShown b s t ∧ t.lnu.flags = s.lnu.flags
      ∧ t = { s with ct := t.ct, usm := t.usm, shc := t.shc, lnu := t.lnu } := by
  obtain ⟨slot, set, only, reported, lnu, shc, rest⟩ := changeCase_leaves u j c s
  generalize changeCase u j c s = m at *
  have elapsed : m.elapsed = s.elapsed := State.elapsed_congr (by rw [rest])
  obtain ⟨p, l, line, shown, presence⟩ := showPresence_eq b m
  rw [shc, elapsed, lnu] at presence
  rw [shown]
  refine ⟨replied_sendReply (by dsimp only; rw [lnu]), slot, set, only, reported, ?_, presence, ?_, ?_⟩
  · show { m.shc with presenceBy := p, alarm := l } = _
    rw [shc]
    rfl
  · show m.lnu.flags = _
    rw [lnu]
  · conv_lhs => rw [rest]
    rfl

/-- A case retired and the command answered (R68, R73). -/
theorem retired_answered (u : UnitId) (j : SlotId) (s : State) (code : Nat) (a : Answer) :
    let t := sendReply code a (evalCaseLamp (report [u] (s.setSlot u j none)))
    Replied code a s t ∧ t.slot u j = none ∧ OnlySlot u j s t ∧ OnlyReported u s t
      ∧ (t.caseSet u).b0 = (s.caseSet u).b0 ∧ (t.caseSet u).b1 = (s.caseSet u).b1
      ∧ (t.caseSet u).b2 = (s.caseSet u).b2 ∧ t.shc = { s.shc with version := (s.shc.version + 1) % 65536 }
      ∧ t = { s with ct := t.ct, usm := t.usm, shc := t.shc, lnu := t.lnu } := by
  intro t
  obtain ⟨-, -, -, ct, -, -, -, lnu, -⟩ := report_frame [u] (s.setSlot u j none)
  have slots (v : UnitId) (k : SlotId) : t.slot v k = if v = u ∧ k = j then none else s.slot v k :=
    (State.slot_congr ct v k).trans (State.slot_setSlot s u v j k none)
  have set : t.caseSet u = { s.caseSet u with slots := (s.caseSet u).slots.set j none } :=
    (State.caseSet_congr ct u).trans ((State.caseSet_setCaseSet _ _ _ _).trans (if_pos rfl))
  refine ⟨replied_sendReply (congrArg (·.address) lnu), by rw [slots, if_pos ⟨rfl, rfl⟩],
    ⟨fun v k other => by rw [slots, if_neg (by simpa using other)], congrArg (·.overflow) ct,
      congrArg (·.counter) ct⟩, report_one u (s.setSlot u j none), by rw [set], by rw [set], by rw [set],
    report_shc _ _, ?_⟩
  simp only [t]
  rw [report_only]
  rfl

/-- Settles O33: each command by what it answers to the state of the case. -/
theorem casesAreAckedClearedAndRetired : Obligations.CasesAreAckedClearedAndRetired := by
  intro s n b taken hn hb
  refine ⟨fun u j c found => ⟨fun unacked => ?acks, fun acked => ?stands, fun cleared => ?cleared,
    ⟨fun acked apart => ?clears, fun other => ?unclear⟩, fun cleared => ?retires, fun live => ?unretired⟩, fun none => ?none⟩
  case acks =>
    have acked : ackedState c.state = some (if c.state = .active then .activeAck else .acknowledged) := by
      rcases unacked with h | h <;> simp [h, ackedState]
    exact ⟨_, next_serve taken (askAckCase_acks hn hb found acked),
      changed_answered u j _ s b.toNat 0x32 _⟩
  case stands =>
    refine ⟨_, next_serve taken (askAckCase_stands hn hb found acked), ?_⟩
    obtain ⟨p, a, l, shown, presence⟩ := showPresence_eq b.toNat s
    rw [shown]
    exact ⟨⟨rfl, rfl, rfl⟩, rfl, presence, rfl⟩
  case cleared => exact next_serve taken (askAckCase_cleared hn hb found cleared)
  case clears =>
    have apart' : inOpenGroup s u c = false := Bool.eq_false_of_not_eq_true (mt inOpenGroup_iff.mp apart)
    obtain ⟨replied, slot, set, only, reported, version, presence, -, rest⟩ := changed_answered u j
      { c with state := .cleared, clearBadge := some b.toNat } s b.toNat 0x33 (caseStateAnswer .ok .cleared)
    exact ⟨_, next_serve taken (askClearCase_clears hn hb found acked apart'), replied, slot,
      set, only, reported, version, presence, rest⟩
  case unclear =>
    exact next_serve taken (askClearCase_refuses hn hb found (other.imp_right inOpenGroup_iff.mpr))
  case retires =>
    exact ⟨_, next_serve taken (askRetireCase_retires hn found cleared),
      retired_answered u j s 0x34 _⟩
  case unretired => exact next_serve taken (askRetireCase_refuses hn found live)
  case none => exact next_serve taken ((caseCommands_missing hn none).1 _ hb).1

end Sys2Proof.Proofs
end

section
/-! PROOFS. CLEAR_OVERFLOW and the group C reset: the records emptied, and the change reported (R72, R73, R78, R93). -/

namespace Sys2Proof.Proofs

open Sys2Proof.Machine Sys2Proof.Safety

/-! ### A report of several units (R73, R105) -/

/-- A unit's record that takes the case-held indicator and the clearing check has taken the report (R73, R105). -/
theorem tookReport_of {u : UnitId} {s t : State}
    (h : t.unit u = UnitRecord.checkTripped { s.unit u with caseHeld := holdsCase (t.caseSet u) }) :
    TookReport u s t := by
  simp only [checkTripped_eq] at h
  refine ⟨?_, ?_⟩
  · rw [h]; exact holdsCase_iff _
  · rw [h]

theorem foldl_reportUnit_unit {us : List UnitId} (distinct : us.Nodup) (u : UnitId) (s : State) :
    (us.foldl reportUnit s).unit u = if u ∈ us then
      UnitRecord.checkTripped { s.unit u with caseHeld := holdsCase (s.caseSet u) } else s.unit u := by
  induction us generalizing s with
  | nil => rfl
  | cons v us ih =>
    obtain ⟨fresh, distinct⟩ := List.nodup_cons.mp distinct
    rw [List.foldl_cons, ih distinct, State.caseSet_congr (reportUnit_frame v s).2.2.2.1, reportUnit,
      State.unit_setUnit]
    by_cases own : u = v
    · subst own; simp [fresh]
    · simp [own]

/-- A report of every unit is taken by each of them. -/
theorem report_all (s : State) (u : UnitId) : TookReport u s (report allUnits s) := by
  refine tookReport_of ?_
  rw [State.caseSet_congr (report_frame _ _).2.2.2.1, report,
    foldl_reportUnit_unit (by decide) u, if_pos (mem_allUnits u)]
  rfl

/-! ### The two commands -/

theorem askClearOverflow_empty {k : Nat} {u : UnitId} {s : State} (hk : k = unitNumber u)
    (empty : s.ct.overflow.get u = emptyOverflow) : askClearOverflow k s = (s, { status := .ok, body := [] }) := by
  simp only [askClearOverflow, unitOf?_unitNumber hk, empty, if_true]

/-- The part with one overflow record emptied (R72). -/
def overflowCleared (u : UnitId) (s : State) : State :=
  { s with ct := { s.ct with overflow := s.ct.overflow.set u emptyOverflow } }

theorem askClearOverflow_empties {k : Nat} {u : UnitId} {s : State} (hk : k = unitNumber u)
    (held : s.ct.overflow.get u ≠ emptyOverflow) :
    askClearOverflow k s = (report [u] (overflowCleared u s), { status := .ok, body := [] }) := by
  simp only [askClearOverflow, unitOf?_unitNumber hk, if_neg held, overflowCleared]

/-- The overflow record of a unit emptied and the change reported (R72, R73). -/
theorem overflow_emptied (u : UnitId) (s : State) (code : Nat) (a : Answer) :
    let t := sendReply code a (report [u] (overflowCleared u s))
    Replied code a s t ∧ t.ct.overflow.get u = emptyOverflow
      ∧ (∀ v, v ≠ u → t.ct.overflow.get v = s.ct.overflow.get v) ∧ t.ct.sets = s.ct.sets
      ∧ t.ct.counter = s.ct.counter ∧ OnlyReported u s t
      ∧ t.shc = { s.shc with version := (s.shc.version + 1) % 65536 }
      ∧ t = { s with ct := t.ct, usm := t.usm, shc := t.shc, lnu := t.lnu } := by
  obtain ⟨tb, riu, tiu, ct, tgr, rha, asc, lnu, spm, pending⟩ := report_frame [u] (overflowCleared u s)
  have overflow (v : UnitId) : (report [u] (overflowCleared u s)).ct.overflow.get v
      = if v = u then emptyOverflow else s.ct.overflow.get v := by rw [ct]; exact PerUnit.get_set _ _ _ _
  exact ⟨replied_sendReply (congrArg (·.address) lnu), (overflow u).trans (if_pos rfl),
    fun v other => (overflow v).trans (if_neg other), congrArg (·.sets) ct, congrArg (·.counter) ct,
    report_one u (overflowCleared u s), report_shc _ _,
    State.ext tb riu tiu rfl tgr rfl rha asc rfl rfl spm pending⟩

/-- The part with its cases, tree bits, overflow records and groups emptied (R78, R93). -/
def tableCleared (s : State) : State :=
  { s with
    ct := { s.ct with sets := PerUnit.fill emptySet, overflow := PerUnit.fill emptyOverflow }
    tgr := { s.tgr with groups := PerUnit.fill none, closed := PerUnit.fill none } }

/-- The group C reset empties the table and reports the change of every unit (R73, R78, R93). -/
theorem resetC_empties (s : State) (code : Nat) (a : Answer) :
    let t := sendReply code a (resetC s)
    Replied code a s t ∧ (∀ u j, t.slot u j = none) ∧ (∀ u, t.ct.overflow.get u = emptyOverflow)
      ∧ (∀ u, (t.caseSet u).b0 = false ∧ (t.caseSet u).b1 = false ∧ (t.caseSet u).b2 = false)
      ∧ (∀ u, t.tgr.groups.get u = none ∧ t.tgr.closed.get u = none)
      ∧ t.ct.counter = s.ct.counter ∧ t.tgr.counter = s.tgr.counter ∧ t.tgr.windowExp = s.tgr.windowExp
      ∧ (∀ u, TookReport u s t)
      ∧ t.lnu.caseLamp = false ∧ t.shc = { s.shc with version := (s.shc.version + 1) % 65536 }
      ∧ t = { s with ct := t.ct, tgr := t.tgr, usm := t.usm, shc := t.shc, lnu := t.lnu } := by
  have cleared : resetC s = evalCaseLamp (report allUnits (tableCleared s)) := rfl
  obtain ⟨tb, riu, tiu, ct, tgr, rha, asc, lnu, spm, pending⟩ := report_frame allUnits (tableCleared s)
  have reported := report_all (tableCleared s)
  have shc := report_shc allUnits (tableCleared s)
  rw [cleared]
  generalize report allUnits (tableCleared s) = r at *
  have set (u : UnitId) : r.caseSet u = emptySet := by rw [State.caseSet_congr ct]; exact PerUnit.get_fill _ _
  have slot (u : UnitId) (j : SlotId) : r.slot u j = none := by rw [State.slot, set]; exact PerSlot.get_fill _ _
  have overflow (u : UnitId) : r.ct.overflow.get u = emptyOverflow := by rw [ct]; exact PerUnit.get_fill _ _
  have groups (u : UnitId) : r.tgr.groups.get u = none ∧ r.tgr.closed.get u = none := by
    rw [tgr]; exact ⟨PerUnit.get_fill _ _, PerUnit.get_fill _ _⟩
  have lamp : lampCondition r.ct = false := by rw [ct]; rfl
  have bits (u : UnitId) : (r.caseSet u).b0 = false ∧ (r.caseSet u).b1 = false ∧ (r.caseSet u).b2 = false := by
    rw [set]; exact ⟨rfl, rfl, rfl⟩
  exact ⟨replied_sendReply (congrArg (·.address) lnu), slot, overflow, bits, groups, congrArg (·.counter) ct,
    congrArg (·.counter) tgr, congrArg (·.windowExp) tgr, reported, lamp, shc,
    State.ext tb riu tiu rfl rfl rfl rha asc rfl rfl spm pending⟩

/-- Settles O34: an empty record is only answered, another is emptied and reported, and the reset empties the table. -/
theorem overflowAndTableAreEmptied : Obligations.OverflowAndTableAreEmptied := by
  intro s taken
  refine ⟨fun k u hk => ⟨fun empty => ?_, fun held => ?_⟩, _, next_serve taken rfl, resetC_empties s 0x72 _⟩
  · exact next_serve taken (askClearOverflow_empty hk empty)
  · exact ⟨_, next_serve taken (askClearOverflow_empties hk held), overflow_emptied u s 0x36 _⟩

end Sys2Proof.Proofs
end

section
/-! PROOFS. The first of a sorted list: it stands in the list, and no key of the list is less than its own (R163). -/

namespace Sys2Proof.Proofs

open Sys2Proof.Machine Sys2Proof.Safety

variable {α : Type} {key : α → Nat}

theorem insertBy_head (x : α) {y : α} {l : List α} (head : l.head? = some y) :
    (insertBy key x l).head? = some (if key x < key y then x else y) := by
  cases l with
  | nil => cases head
  | cons z l =>
    obtain rfl := Option.some.inj head
    rw [insertBy]
    split <;> rfl

/-- The first of a list into which others have been sorted is the least of them all. -/
theorem foldl_insertBy_head (l : List α) {acc : List α} {y : α} (head : acc.head? = some y) :
    ∃ x, (l.foldl (fun acc x => insertBy key x acc) acc).head? = some x ∧ (x = y ∨ x ∈ l) ∧ key x ≤ key y
      ∧ ∀ z ∈ l, key x ≤ key z := by
  induction l generalizing acc y with
  | nil => exact ⟨y, head, .inl rfl, le_rfl, by simp⟩
  | cons z l ih =>
    obtain ⟨x, found, from_, least, rest⟩ := ih (insertBy_head (key := key) z head)
    refine ⟨x, found, ?_, ?_, List.forall_mem_cons.mpr ⟨?_, rest⟩⟩
    · rcases from_ with rfl | within
      · split
        · exact .inr List.mem_cons_self
        · exact .inl rfl
      · exact .inr (List.mem_cons_of_mem _ within)
    all_goals split at least <;> omega

/-- A list that is not empty has a first when sorted, with a least key. -/
theorem sortBy_head {l : List α} (some_ : l ≠ []) :
    ∃ x ∈ l, (sortBy key l).head? = some x ∧ ∀ z ∈ l, key x ≤ key z := by
  cases l with
  | nil => exact absurd rfl some_
  | cons y l =>
    obtain ⟨x, found, from_, least, rest⟩ := foldl_insertBy_head (key := key) l (acc := [y]) rfl
    exact ⟨x, from_.elim (fun same => same ▸ List.mem_cons_self) (List.mem_cons_of_mem _), found,
      List.forall_mem_cons.mpr ⟨least, rest⟩⟩

end Sys2Proof.Proofs
end

section
/-! PROOFS. SIGN_ON and ACCEPT: the increment of the shift number, the new duty and the skip boundary (R75, R158, R163 to
R165). -/

namespace Sys2Proof.Proofs

open Sys2Proof.Machine Sys2Proof.Safety

/-! ### The increment (R75, R164) -/

/-- The cases and the tallies are those of a new shift (R75, R164). -/
structure TableHandedOver (s t : State) : Prop where
  tallies : ∀ u k, t.tally u k = 0
  free : ∀ u j, s.slot u j = none → t.slot u j = none
  cleared : ∀ u j c, s.slot u j = some c → c.state = .cleared → t.slot u j = none
  live : ∀ u j c, s.slot u j = some c → c.state ≠ .cleared →
    t.slot u j = some { c with handovers := if c.handovers < 255 then c.handovers + 1 else c.handovers }

/-- The shift context of a new shift (R158, R163 to R165). -/
def newShift (accept : Bool) (badge team : Nat) (skip : Option Nat) (s : State) : Shc :=
  { (s.shc.incremented (endedShift accept s)).onDuty badge team s.now skip with
    version := (s.shc.version + 1) % 65536
    presenceBy := s.shc.presenceExp.map fun n => s.elapsed + 600000000 * 2 ^ n
    alarm := false }

/-- What the increment of the shift number leaves: the new shift, the cases handed over, the tallies zeroed, HANDOVER_DONE
raised, and the lamp and the alarm line dark (R75, R157, R164, R165, R182). -/
structure ShiftBegun (accept : Bool) (badge team : Nat) (skip : Option Nat) (s t : State) : Prop where
  shc : t.shc = newShift accept badge team skip s
  table : TableHandedOver s t
  notice : t.lnu.flags.handoverDone = true
  lamp : t.lnu.handoverLamp = .dark
  line : t.lnu.presenceLine = false
  address : t.lnu.address = s.lnu.address
  rest : t = { s with ct := t.ct, rha := t.rha, asc := t.asc, shc := t.shc, lnu := t.lnu }

theorem tableHandedOver_of {s t : State} (ct : t.ct = s.ct.handedOver) (tallies : ∀ u k, t.tally u k = 0) :
    TableHandedOver s t := by
  have slot (u : UnitId) (j : SlotId) : t.slot u j = handOver (s.slot u j) := by
    simp only [State.slot, State.caseSet, ct, Ct.handedOver, PerUnit.get_map, PerSlot.get_map]
  refine ⟨tallies, fun u j none => ?_, fun u j c held cleared => ?_, fun u j c held live => ?_⟩
  · rw [slot, none]; rfl
  · rw [slot, held, handOver, if_pos cleared]
  · rw [slot, held, handOver, if_neg live]; rfl

/-- The part with the new shift, the cases handed over and the tallies zeroed, before the commit trigger (R164). -/
def shiftCounted (accept : Bool) (badge team : Nat) (skip : Option Nat) (s : State) : State :=
  { s with
    shc := (s.shc.incremented (endedShift accept s)).onDuty badge team s.now skip
    ct := s.ct.handedOver
    rha := { s.rha with tallies := PerUnit.fill (PerKind.fill 0) } }

/-- What follows the commit trigger: the version, presence, the notice and the lamps (R164). -/
def shiftAnnounced (q : State) : State :=
  evalHandoverLamp (evalCaseLamp (raise .handoverDone (restartPresence (bumpVersion q))))

theorem incrementShift_stages (accept : Bool) (badge team : Nat) (skip : Option Nat) (s : State) :
    incrementShift accept badge team skip s
      = shiftAnnounced (commitTrigger (shiftCounted accept badge team skip s)) := rfl

theorem shiftAnnounced_shc (q : State) : (shiftAnnounced q).shc = { q.shc with
    version := (q.shc.version + 1) % 65536
    presenceBy := q.shc.presenceExp.map fun n => q.elapsed + 600000000 * 2 ^ n, alarm := false } := rfl

theorem shiftAnnounced_lnu (q : State) :
    (shiftAnnounced q).lnu.flags.handoverDone = true ∧ (shiftAnnounced q).lnu.presenceLine = false
      ∧ (shiftAnnounced q).lnu.handoverLamp = handoverCondition (shiftAnnounced q).shc := ⟨rfl, rfl, rfl⟩

theorem shiftAnnounced_ct (q : State) : (shiftAnnounced q).ct = q.ct := by
  simp only [shiftAnnounced, evalHandoverLamp_frame, evalCaseLamp_frame, raise_frame, restartPresence_frame,
    bumpVersion_frame]

theorem shiftAnnounced_tally (q : State) (u : UnitId) (k : Kind) : (shiftAnnounced q).tally u k = q.tally u k := by
  have rha : (shiftAnnounced q).rha = q.rha := by
    simp only [shiftAnnounced, evalHandoverLamp_frame, evalCaseLamp_frame, raise_frame, restartPresence_frame,
      bumpVersion_frame]
  simp only [State.tally, rha]

section

variable (accept : Bool) (badge team : Nat) (skip : Option Nat) (s : State)

theorem incrementShift_shc : (incrementShift accept badge team skip s).shc = newShift accept badge team skip s := by
  obtain ⟨tb, -, -, -, -, -, shc, -⟩ := commitTrigger_frame (shiftCounted accept badge team skip s)
  rw [incrementShift_stages, shiftAnnounced_shc, State.elapsed_congr tb, shc]
  rfl

theorem incrementShift_table : TableHandedOver s (incrementShift accept badge team skip s) := by
  have counted := (commitTrigger_stands (fun _ => True) (shiftCounted accept badge team skip s)).accounts
  obtain ⟨-, -, -, ct, -⟩ := commitTrigger_frame (shiftCounted accept badge team skip s)
  refine tableHandedOver_of ?_ fun u k => ?_
  · rw [incrementShift_stages, shiftAnnounced_ct, ct]; rfl
  · rw [incrementShift_stages, shiftAnnounced_tally, (counted u k trivial).2]
    simp [State.tally, shiftCounted]

theorem incrementShift_begins :
    ShiftBegun accept badge team skip s (incrementShift accept badge team skip s) := by
  have shown := shiftAnnounced_lnu (commitTrigger (shiftCounted accept badge team skip s))
  rw [← incrementShift_stages] at shown
  obtain ⟨notice, line, lamp⟩ := shown
  have frame := incrementShift_frame accept badge team skip s
  have begun := incrementShift_shc accept badge team skip s
  have table := incrementShift_table accept badge team skip s
  generalize incrementShift accept badge team skip s = t at *
  obtain ⟨tb, riu, tiu, tgr, usm, spm, pending, address, -⟩ := frame
  exact {
    shc := begun, table := table, notice := notice, line := line, address := address
    lamp := by rw [lamp, begun]; rfl
    rest := State.ext tb riu tiu rfl tgr usm rfl rfl rfl rfl spm pending }

end

/-! ### What the commands answer (R158, R163) -/

section

variable {s : State} {b v m : Nat}

/-- A badge and a team in range, at a shift number that can be incremented (R158, R163). -/
def MayBegin (s : State) (b m : Nat) : Prop := b ≠ 0 ∧ (1 ≤ m ∧ m ≤ 15) ∧ s.shc.number < 4294967295

theorem MayBegin.passes (h : MayBegin s b m) : ¬ (b = 0 ∨ teamValid m = false ∨ shiftNumberFull s = true) := by
  obtain ⟨badge, team, number⟩ := h
  simp only [teamValid, shiftNumberFull, limit32, Bool.and_eq_false_iff, decide_eq_false_iff_not, decide_eq_true_eq]
  omega

theorem askSignOn_begins (h : MayBegin s b m) (off : s.shc.state = .noShift) : askSignOn b m s =
    (incrementShift false b m none s, shiftAnswer (incrementShift false b m none s)) := by
  have free : ¬ dutyHeld s.shc = true := by simp [dutyHeld, off]
  rw [askSignOn, if_neg h.passes, if_neg free]

theorem askSignOn_refuses (h : MayBegin s b m) (on : s.shc.state ≠ .noShift) :
    askSignOn b m s = (s, refuse .wrongState) := by
  have held : dutyHeld s.shc = true := by simpa [dutyHeld] using on
  rw [askSignOn, if_neg h.passes, if_pos held]

theorem askAccept_begins (h : MayBegin s b m) (offered : s.shc.state = .offered) (other : s.shc.duty ≠ some b)
    (version : s.shc.version = v) : askAccept b v m s =
      (incrementShift true b m (skipAfterAccept s) s, shiftAnswer (incrementShift true b m (skipAfterAccept s) s)) := by
  rw [askAccept, if_neg h.passes, if_neg (not_not.mpr offered), if_neg other, if_neg (not_not.mpr version.symm)]

theorem askAccept_changed (h : MayBegin s b m) (offered : s.shc.state = .offered) (other : s.shc.duty ≠ some b)
    (version : s.shc.version ≠ v) :
    askAccept b v m s = (s, { status := .offerChanged, body := toBytes 2 s.shc.version }) := by
  rw [askAccept, if_neg h.passes, if_neg (not_not.mpr offered), if_neg other, if_pos version.symm]

theorem askAccept_same (h : MayBegin s b m) (offered : s.shc.state = .offered) (same : s.shc.duty = some b) :
    askAccept b v m s = (s, refuse .sameOperator) := by
  rw [askAccept, if_neg h.passes, if_neg (not_not.mpr offered), if_pos same]

theorem askAccept_refuses (h : MayBegin s b m) (unoffered : s.shc.state ≠ .offered) :
    askAccept b v m s = (s, refuse .wrongState) := by
  rw [askAccept, if_neg h.passes, if_pos unoffered]

end

/-! ### The skip boundary (R163) -/

/-- After a window, or with no roster, an acceptance leaves no skip boundary. -/
theorem skipAfterAccept_none {s : State} (h : s.shc.window ≠ none ∨ s.shc.roster = []) : skipAfterAccept s = none := by
  unfold skipAfterAccept
  split
  · rfl
  · rename_i closed
    rcases h with open_ | empty
    · exact absurd (Option.isSome_iff_ne_none.mpr open_) closed
    · rw [empty]; rfl

/-- An early acceptance leaves the roster boundary whose open point lies first from the present time of day. -/
theorem skipAfterAccept_early {s : State} (closed : s.shc.window = none) (some_ : s.shc.roster ≠ []) :
    ∃ r ∈ s.shc.roster, skipAfterAccept s = some r ∧ ∀ q ∈ s.shc.roster,
      distance (dayPosition s.now.seconds s.now.frac) (pointMinute s.shc .opening r)
        ≤ distance (dayPosition s.now.seconds s.now.frac) (pointMinute s.shc .opening q) := by
  unfold skipAfterAccept firstOpening
  rw [closed]
  exact sortBy_head some_

/-- Settles O50: each command by what it answers; a new shift by what the increment leaves. -/
theorem newShiftIsBegun : Obligations.NewShiftIsBegun := by
  intro s b v m taken badge low high number done
  have may : MayBegin s b.toNat m.toNat := ⟨badge, ⟨low, high⟩, number⟩
  have answer {accept : Bool} {skip : Option Nat} {t : State} (h : ShiftBegun accept b.toNat m.toNat skip s t) :
      shiftAnswer t = { status := .ok, body := toBytes 4 (s.shc.number + 1) } := by
    rw [shiftAnswer, h.shc]; rfl
  have begun {accept : Bool} {skip : Option Nat} {t : State} (code : Nat) (a : Answer)
      (h : ShiftBegun accept b.toNat m.toNat skip s t) : done accept (sendReply code a t) := by
    obtain ⟨shc, ⟨tallies, free, cleared, live⟩, notice, lamp, line, -, rest⟩ := h
    have field {β : Type} (f : Shc → β) : f (sendReply code a t).shc = f (newShift accept b.toNat m.toNat skip s) :=
      congrArg f shc
    refine ⟨field (·.number), field (·.state), field (·.duty), field (·.team), field (·.start), field (·.window),
      field (·.offer), field (·.due), field (·.overdue), field (·.lapses), field (·.alarm), field (·.version),
      field (·.presenceBy), fun some_ => (field (·.previous)).trans (if_pos some_),
      fun zero => (field (·.previous)).trans (if_neg (by omega)), tallies, free, cleared, live, notice, lamp, line, ?_⟩
    conv_lhs => rw [rest]
    rfl
  have skipped {accept : Bool} {skip : Option Nat} {t : State} (code : Nat) (a : Answer)
      (h : ShiftBegun accept b.toNat m.toNat skip s t) : (sendReply code a t).shc.skip = skip := congrArg (·.skip) h.shc
  have replied {accept : Bool} {skip : Option Nat} {t : State} (code : Nat) (a : Answer)
      (h : ShiftBegun accept b.toNat m.toNat skip s t) : Replied code a s (sendReply code a t) :=
    replied_sendReply h.address
  refine ⟨fun off => ?signs, fun on => next_serve taken (askSignOn_refuses may on),
    fun offered other version => ?accepts,
    fun offered other version => next_serve taken (askAccept_changed may offered other version),
    fun offered same => next_serve taken (askAccept_same may offered same),
    fun unoffered => next_serve taken (askAccept_refuses may unoffered)⟩
  case signs =>
    have h := incrementShift_begins false b.toNat m.toNat none s
    have signs := askSignOn_begins may off
    rw [answer h] at signs
    exact ⟨_, next_serve taken signs, replied 0x62 _ h, skipped 0x62 _ h, begun 0x62 _ h⟩
  case accepts =>
    have h := incrementShift_begins true b.toNat m.toNat (skipAfterAccept s) s
    have accepts := askAccept_begins may offered other version
    rw [answer h] at accepts
    have skip := skipped 0x66 { status := .ok, body := toBytes 4 (s.shc.number + 1) } h
    refine ⟨_, next_serve taken accepts, replied 0x66 _ h, fun open_ => skip.trans (skipAfterAccept_none (.inl open_)),
      fun empty => skip.trans (skipAfterAccept_none (.inr empty)), fun closed some_ => ?_, begun 0x66 _ h⟩
    obtain ⟨r, within, first, least⟩ := skipAfterAccept_early closed some_
    exact ⟨r, within, skip.trans first, least⟩

end Sys2Proof.Proofs
end

section
/-! PROOFS. The slot and the number that a set gives, and the re-trip and the overflow of a confirmed assertion (R59, R61,
R63, R70, R71). -/

namespace Sys2Proof.Proofs

open Sys2Proof.Machine Sys2Proof.Safety

/-! ### The slot (R59, R70) -/

theorem isCleared_iff (o : Option Case) : isCleared o = true ↔ ∃ d, o = some d ∧ d.state = .cleared := by
  cases o <;> simp [isCleared]

/-- The lowest slot of those that a test accepts. -/
theorem lowestSlot (p : SlotId → Bool) : allSlots.find? p =
    if p .s0 then some .s0 else if p .s1 then some .s1 else if p .s2 then some .s2 else if p .s3 then some .s3
    else none := by
  grind [allSlots]

/-- With an INVALID slot, the set gives the first. -/
theorem allocate_of_free {c : CaseSet} {j : SlotId}
    (first : allSlots.find? (fun k => (c.slots.get k).isNone) = some j) : c.allocate = some j := by
  rw [CaseSet.allocate, first]

/-- With no INVALID slot, the set gives the walk's slot or the lowest that is CLEARED. -/
theorem allocate_of_full {c : CaseSet} (full : ∀ k, c.slots.get k ≠ none) : c.allocate =
    if isCleared (c.slots.get c.walk) then some c.walk else allSlots.find? fun k => isCleared (c.slots.get k) := by
  have no : allSlots.find? (fun k => (c.slots.get k).isNone) = none :=
    List.find?_eq_none.mpr fun k _ => by simp [full k]
  rw [CaseSet.allocate, no]

/-! ### The number (R61) -/

theorem freeNumber_eq_iterate {held : List Nat} {j fuel n : Nat} (within : j ≤ fuel)
    (taken : ∀ i < j, nextNumber^[i] n ∈ held) (free : nextNumber^[j] n ∉ held) :
    freeNumber held fuel n = nextNumber^[j] n := by
  induction j generalizing fuel n with
  | zero =>
    cases fuel with
    | zero => rfl
    | succ fuel => exact if_neg free
  | succ j ih =>
    obtain ⟨fuel, rfl⟩ := Nat.exists_eq_add_one_of_ne_zero (Nat.ne_of_gt (Nat.lt_of_lt_of_le (Nat.succ_pos j) within))
    have first : n ∈ held := taken 0 (Nat.succ_pos j)
    rw [freeNumber, if_pos first]
    exact ih (Nat.le_of_succ_le_succ within) (fun i below => taken (i + 1) (Nat.succ_lt_succ below)) free

/-- As many numbers in turn as the table holds, and one more, are not all held. -/
theorem exists_iterate_free {held : List Nat} {fuel : Nat} (n : Nat) (enough : held.length < fuel)
    (few : fuel ≤ 65535) : ∃ k < fuel, nextNumber^[k] n ∉ held := by
  by_contra all
  push Not at all
  have injective : Set.InjOn (nextNumber^[·] n) (Finset.range fuel) := by
    intro i hi j hj same
    rw [Finset.mem_coe, Finset.mem_range] at hi hj
    by_contra ne
    rcases Nat.lt_or_gt_of_ne ne with order | order
    · exact nextNumber_iterate_ne order (by omega) same
    · exact nextNumber_iterate_ne order (by omega) same.symm
  have card := Finset.card_le_card_of_injOn (t := held.toFinset) (nextNumber^[·] n)
    (fun k hk => by simpa using all k (Finset.mem_range.mp hk)) injective
  rw [Finset.card_range] at card
  exact absurd (card.trans held.toFinset_card_le) (by omega)

/-- The number given is the first in turn that is not held. -/
theorem freeNumber_first {held : List Nat} {fuel : Nat} (n : Nat) (enough : held.length < fuel)
    (few : fuel ≤ 65535) :
    ∃ j < fuel, freeNumber held fuel n = nextNumber^[j] n ∧ ∀ i < j, nextNumber^[i] n ∈ held := by
  have some_ : ∃ k, nextNumber^[k] n ∉ held := (exists_iterate_free n enough few).imp fun _ h => h.2
  obtain ⟨k, below, free⟩ := exists_iterate_free n enough few
  have least : Nat.find some_ < fuel := (Nat.find_min' some_ free).trans_lt below
  have taken (i : Nat) (hi : i < Nat.find some_) : nextNumber^[i] n ∈ held := not_not.mp (Nat.find_min some_ hi)
  exact ⟨_, least, freeNumber_eq_iterate least.le taken (Nat.find_spec some_), taken⟩

/-! ### A confirmed assertion (R63, R71) -/

theorem takeAssertion_retrips {a : Assertion} {j : SlotId} {c : Case} {s : State}
    (found : s.inputCase a.unit a.input = some (j, c)) (same : c.test = a.test) :
    takeAssertion a s = evalCaseLamp (report [a.unit] (placeCase a c.number c.groupId (retripCase a j c s))) := by
  simp only [takeAssertion, assertionResult, found, if_pos same]

theorem takeAssertion_overflows {a : Assertion} {s : State}
    (full : (s.inputCase a.unit a.input = none ∧ (s.caseSet a.unit).allocate = none)
      ∨ ∃ j c, s.inputCase a.unit a.input = some (j, c) ∧ c.test ≠ a.test) :
    takeAssertion a s = evalCaseLamp (report [a.unit] (overflowAssertion a s)) := by
  rcases full with ⟨new, none⟩ | ⟨j, c, found, other⟩
  · simp only [takeAssertion, assertionResult, new, none]
  · simp only [takeAssertion, assertionResult, found, if_neg other]

theorem retripCase_bits (a : Assertion) (j : SlotId) (c : Case) (s : State) : (retripCase a j c s).caseSet a.unit
    = { (s.caseSet a.unit).touch j with slots := ((retripCase a j c s).caseSet a.unit).slots } := by
  have ct : (retripCase a j c s).ct
      = (touchSlot a.unit j (s.setSlot a.unit j (some (retrippedCase a c s)))).ct := (raiseFor_frame _ _ _).2.2.2.1
  rw [State.caseSet_congr ct]
  simp only [touchSlot, State.setSlot, State.caseSet_setCaseSet, if_true]
  cases j <;> rfl

theorem retripCase_newCase (a : Assertion) (j : SlotId) (c : Case) (s : State) :
    (retripCase a j c s).lnu.flags.newCase = true
      ∧ (retripCase a j c s).lnu.unitSets.newCase.get a.unit = true :=
  ⟨rfl, (PerUnit.get_set _ _ _ _).trans (if_pos rfl)⟩

theorem retripCase_counter (a : Assertion) (j : SlotId) (c : Case) (s : State) :
    (retripCase a j c s).ct.counter = s.ct.counter := rfl

/-- What a confirmed re-trip leaves (R63, R70, R73). -/
structure Retripped (a : Assertion) (j : SlotId) (c : Case) (s t : State) : Prop where
  slot : ∃ d, t.slot a.unit j = some d ∧ SameButGroup (retrippedCase a c s) d
  bits : t.caseSet a.unit = { (s.caseSet a.unit).touch j with slots := (t.caseSet a.unit).slots }
  counter : t.ct.counter = s.ct.counter
  overflow : t.ct.overflow = s.ct.overflow
  flag : t.lnu.flags.newCase = true
  set : t.lnu.unitSets.newCase.get a.unit = true
  shc : t.shc = { s.shc with version := (s.shc.version + 1) % 65536 }
  elsewhere : ∀ v, v ≠ a.unit → t.caseSet v = s.caseSet v ∧ t.unit v = s.unit v

theorem takeAssertion_retripped {a : Assertion} {j : SlotId} {c : Case} {s : State}
    (found : s.inputCase a.unit a.input = some (j, c)) (same : c.test = a.test) :
    Retripped a j c s (takeAssertion a s) := by
  rw [takeAssertion_retrips found same]
  have put := retripCase_put a j c s
  have bits := retripCase_bits a j c s
  have counter := retripCase_counter a j c s
  obtain ⟨newCase, newCaseOf⟩ := retripCase_newCase a j c s
  obtain ⟨-, -, -, -, usm, -, -, shc, -⟩ := retripCase_frame a j c s
  generalize retripCase a j c s = o at *
  have marked := Marked.placeCase a c.number c.groupId o
  have notices := NoticesStay.placeCase a c.number c.groupId o
  have units := fun v (h : v ≠ a.unit) => placeCase_unit a c.number c.groupId o h
  have shc' := (placeCase_frame a c.number c.groupId o).2.2.2.1
  generalize placeCase a c.number c.groupId o = q at *
  obtain ⟨ct, -, -, -, flags, unitSets, shc'', rest⟩ := reported_blocks a.unit q
  generalize evalCaseLamp (report [a.unit] q) = t at *
  obtain ⟨d, slot, agrees, -⟩ := (marked.cases j).1 _ ((put.slots a.unit j).trans (if_pos ⟨rfl, rfl⟩))
  refine {
    slot := ⟨d, (State.slot_congr ct _ _).trans slot, agrees⟩
    bits := ?bits
    counter := (congrArg (·.counter) ct).trans (marked.counter.trans counter)
    overflow := (congrArg (·.overflow) ct).trans (marked.overflow.trans put.overflow)
    flag := flags ▸ notices.flags .newCase newCase
    set := unitSets ▸ notices.newCase _ newCaseOf
    shc := by rw [shc'', shc', shc]
    elsewhere := fun v h => ⟨?sets, ?units⟩ }
  case bits =>
    rw [State.caseSet_congr ct]
    conv_lhs => rw [marked.bits, bits]
  case sets => rw [State.caseSet_congr ct, marked.elsewhere v h, put.elsewhere v h]
  case units => rw [rest v h, units v h, State.unit_congr usm]

theorem overflowAssertion_unit (a : Assertion) (s : State) (v : UnitId) : (overflowAssertion a s).unit v =
    if v = a.unit ∧ (a.stops && !a.test) = true then (s.unit a.unit).trip else s.unit v := by
  unfold overflowAssertion
  rw [State.unit_congr (raiseFor_frame _ _ _).2.2.2.2.2.1]
  split
  · rename_i trips
    rw [setTripped, State.unit_setUnit]
    simp only [trips, and_true]
    rfl
  · rename_i stays
    rw [if_neg fun both => stays both.2]
    rfl

theorem overflowAssertion_notice (a : Assertion) (s : State) :
    (overflowAssertion a s).lnu.flags = s.lnu.flags.set .overflow true
      ∧ (overflowAssertion a s).lnu.unitSets.overflow.get a.unit = true := by
  refine ⟨?_, (PerUnit.get_set _ _ _ _).trans (if_pos rfl)⟩
  unfold overflowAssertion
  split <;> rfl

/-- What a confirmed assertion that overflows leaves (R71, R73). -/
structure OverflowTaken (a : Assertion) (s t : State) : Prop where
  ct : t.ct = { s.ct with
    overflow := s.ct.overflow.set a.unit ((s.ct.overflow.get a.unit).counted a.input a.stamp) }
  tripped : (t.unit a.unit).tripped = (((s.unit a.unit).tripped || (a.stops && !a.test))
    && !((s.unit a.unit).speed == .standstill && !(t.unit a.unit).caseHeld))
  units : ∀ v, v ≠ a.unit → t.unit v = s.unit v
  flags : t.lnu.flags = s.lnu.flags.set .overflow true
  set : t.lnu.unitSets.overflow.get a.unit = true
  shc : t.shc = { s.shc with version := (s.shc.version + 1) % 65536 }
  rest : t = { s with ct := t.ct, usm := t.usm, shc := t.shc, lnu := t.lnu }

theorem takeAssertion_overflowTaken {a : Assertion} {s : State}
    (full : (s.inputCase a.unit a.input = none ∧ (s.caseSet a.unit).allocate = none)
      ∨ ∃ j c, s.inputCase a.unit a.input = some (j, c) ∧ c.test ≠ a.test) :
    OverflowTaken a s (takeAssertion a s) := by
  obtain ⟨tb, riu, tiu, spm, pending, -⟩ := takeAssertion_frame a s
  have taken := takeAssertion_overflows full
  have counted := overflowAssertion_ct a s
  have unit := overflowAssertion_unit a s
  have notice := overflowAssertion_notice a s
  obtain ⟨-, -, -, tgr, rha, asc, shc, -⟩ := overflowAssertion_frame a s
  generalize overflowAssertion a s = q at *
  obtain ⟨ct, tgr', rha', asc', flags, unitSets, shc', rest⟩ := reported_blocks a.unit q
  obtain ⟨-, -, -, -, record⟩ := report_one a.unit q
  rw [← taken] at ct tgr' rha' asc' flags unitSets shc' rest
  have own : (takeAssertion a s).unit a.unit = (report [a.unit] q).unit a.unit := by rw [taken]; rfl
  rw [← own] at record
  generalize takeAssertion a s = t at *
  refine {
    ct := ct.trans counted
    tripped := ?tripped
    units := fun v h => by rw [rest v h, unit, if_neg fun both => h both.1]
    flags := flags.trans notice.1
    set := unitSets ▸ notice.2
    shc := by rw [shc', shc]
    rest := State.ext tb riu tiu rfl (tgr'.trans tgr) rfl (rha'.trans rha) (asc'.trans asc) rfl rfl spm pending }
  have speed : (q.unit a.unit).speed = (s.unit a.unit).speed := by rw [unit]; split <;> rfl
  have trips : (q.unit a.unit).tripped = ((s.unit a.unit).tripped || (a.stops && !a.test)) := by
    rw [unit]
    split
    · rename_i both; rw [both.2, Bool.or_true]; rfl
    · rename_i not_; rw [Bool.eq_false_iff.mpr fun stops => not_ ⟨rfl, stops⟩, Bool.or_false]
  rw [← trips, ← speed]
  have tripped := congrArg (·.tripped) record
  dsimp only at tripped
  rw [tripped]
  cases (q.unit a.unit).tripped <;> rfl

/-! ### The statement -/

/-- The slot that a set gives and the bits of an access (R59, R70). -/
theorem allocate_cases (c : CaseSet) :
    let free (k : SlotId) : Prop := c.slots.get k = none
    let cleared (k : SlotId) : Prop := ∃ d, c.slots.get k = some d ∧ d.state = .cleared
    (free .s0 → c.allocate = some .s0)
      ∧ (¬ free .s0 → free .s1 → c.allocate = some .s1)
      ∧ (¬ free .s0 → ¬ free .s1 → free .s2 → c.allocate = some .s2)
      ∧ (¬ free .s0 → ¬ free .s1 → ¬ free .s2 → free .s3 → c.allocate = some .s3)
      ∧ ((∀ k, ¬ free k) →
        (cleared c.walk → c.allocate = some c.walk)
          ∧ (¬ cleared c.walk →
            (cleared .s0 → c.allocate = some .s0)
              ∧ (¬ cleared .s0 → cleared .s1 → c.allocate = some .s1)
              ∧ (¬ cleared .s0 → ¬ cleared .s1 → cleared .s2 → c.allocate = some .s2)
              ∧ (¬ cleared .s0 → ¬ cleared .s1 → ¬ cleared .s2 → cleared .s3 → c.allocate = some .s3)
              ∧ ((∀ k, ¬ cleared k) → c.allocate = none))) := by
  intro free cleared
  have first := lowestSlot fun k => (c.slots.get k).isNone
  have lowest := lowestSlot fun k => isCleared (c.slots.get k)
  simp only [Option.isNone_iff_eq_none] at first
  simp only [isCleared_iff] at lowest
  refine ⟨fun f0 => ?_, fun f0 f1 => ?_, fun f0 f1 f2 => ?_, fun f0 f1 f2 f3 => ?_, fun full => ?_⟩
  · exact allocate_of_free (by rw [first, if_pos f0])
  · exact allocate_of_free (by rw [first, if_neg f0, if_pos f1])
  · exact allocate_of_free (by rw [first, if_neg f0, if_neg f1, if_pos f2])
  · exact allocate_of_free (by rw [first, if_neg f0, if_neg f1, if_neg f2, if_pos f3])
  · have given := allocate_of_full full
    simp only [isCleared_iff] at given
    refine ⟨fun walk => given.trans (if_pos walk), fun walk => ?_⟩
    have given := (given.trans (if_neg walk)).trans lowest
    refine ⟨fun c0 => ?_, fun c0 c1 => ?_, fun c0 c1 c2 => ?_, fun c0 c1 c2 c3 => ?_, fun no => ?_⟩
    · rw [given, if_pos c0]
    · rw [given, if_neg c0, if_pos c1]
    · rw [given, if_neg c0, if_neg c1, if_pos c2]
    · rw [given, if_neg c0, if_neg c1, if_neg c2, if_pos c3]
    · rw [given, if_neg (no .s0), if_neg (no .s1), if_neg (no .s2), if_neg (no .s3)]

/-- Settles O31: the slot by the order of the search, the number as the first that is not held, and a confirmed
assertion by its result. -/
theorem assertionsFindTheirSlot : Obligations.AssertionsFindTheirSlot := by
  refine ⟨fun c => ?slot, fun held n few low high => ?number,
    fun s u i p test powered pending due => ⟨fun j c found same => ?retrip, fun full => ?overflow⟩⟩
  case slot =>
    obtain ⟨f0, f1, f2, f3, full⟩ := allocate_cases c
    exact ⟨f0, f1, f2, f3, full, rfl, rfl, rfl, rfl⟩
  case number =>
    obtain ⟨low', high'⟩ := InNumbers.free ⟨low, high⟩ held 33
    have enough : held.length < 33 := by omega
    obtain ⟨j, within, number⟩ := freeNumber_first n enough (by omega)
    exact ⟨freeNumber_free n enough (by omega), low', high', j, by omega, number⟩
  all_goals rw [execAssertionConfirmation_due powered pending due]
  case retrip =>
    obtain ⟨⟨d, slot, agrees⟩, bits, counter, overflow, flag, set, shc, elsewhere⟩ :=
      takeAssertion_retripped (a := (s.input u i).assertion u i p test)
        (s := s.setInput u i { s.input u i with filter := .asserted }) ((inputCase_congr rfl u i).trans found) same
    exact ⟨_, d, rfl, slot, agrees, bits, counter, overflow, flag, set, shc, elsewhere⟩
  case overflow =>
    have same := inputCase_congr (s := s.setInput u i { s.input u i with filter := .asserted }) (t := s) rfl u i
    rw [← same] at full
    obtain ⟨ct, tripped, units, flags, set, shc, rest⟩ :=
      takeAssertion_overflowTaken (a := (s.input u i).assertion u i p test) full
    generalize takeAssertion _ _ = t at *
    refine ⟨t, rfl, ?own, fun v other => ?others, by rw [ct]; rfl, by rw [ct]; rfl, tripped, units, flags, set, shc, ?rest⟩
    case own => rw [ct]; exact (PerUnit.get_set _ _ _ _).trans (if_pos rfl)
    case others => rw [ct]; exact (PerUnit.get_set _ _ _ _).trans (if_neg other)
    case rest => rw [rest]; rfl

end Sys2Proof.Proofs
end

section
/-! PROOFS. The closing of a group, whatever the reason, and its expiry (R81, R88, R89). -/

namespace Sys2Proof.Proofs

open Sys2Proof.Machine Sys2Proof.Safety

/-- A case after the closing of a group whose first-out number is given (R88). -/
def settledCase (firstOut : Nat) (c : Case) : Case := if c.number = firstOut then { c with provisional := false } else c

theorem settledCase_same (n : Nat) (c : Case) : SameButGroup c (settledCase n c) := by
  unfold settledCase; split <;> rfl

theorem settledCase_groupId (n : Nat) (c : Case) : (settledCase n c).groupId = c.groupId := by
  unfold settledCase; split <;> rfl

theorem settledCase_firstOut (n : Nat) (c : Case) : (settledCase n c).firstOut = c.firstOut := by
  unfold settledCase; split <;> rfl

theorem settledCase_provisional {n : Nat} {c : Case} (h : c.number = n ∨ c.provisional = false) :
    (settledCase n c).provisional = false := by
  unfold settledCase
  split
  · rfl
  · rename_i other; exact h.resolve_left other

/-- What the closing of an OPEN group leaves, with the reason it closes for (R81, R88). -/
structure GroupClosed (u : UnitId) (g : OpenGroup) (r : CloseReason) (s t : State) : Prop where
  group : t.tgr.groups.get u = none
  summary : ∃ x, t.tgr.closed.get u = some x ∧ x.id = g.id ∧ x.earliest = g.earliest ∧ x.firstOut = g.firstOut
    ∧ x.members = g.members ∧ x.reason = r ∧ x.closedAt = s.now
  others : ∀ v, v ≠ u → t.tgr.groups.get v = s.tgr.groups.get v ∧ t.tgr.closed.get v = s.tgr.closed.get v
  counter : t.tgr.counter = s.tgr.counter
  slots : ∀ j, t.slot u j = (s.slot u j).map (settledCase g.firstOut)
  flags : t.lnu.flags = s.lnu.flags.set .firstOutFinal true
  unitSet : t.lnu.unitSets.firstOutFinal.get u = true

theorem closeGroup_closes {u : UnitId} {g : OpenGroup} {s : State} (r : CloseReason)
    (h : s.tgr.groups.get u = some g) : GroupClosed u g r s (closeGroup u r s) := by
  have groups := fun v => closeGroup_groups u v r s
  have closed := fun v => closeGroup_closed (v := v) (u := u) r s
  refine ⟨(groups u).trans (if_pos rfl), ?summary, fun v other => ⟨(groups v).trans (if_neg other), closed v other⟩,
    ?counter, fun j => ?slots, ?flags, ?unitSet⟩
  all_goals simp only [closeGroup, h]
  case summary => exact ⟨_, (PerUnit.get_set _ _ _ _).trans (if_pos rfl), rfl, rfl, rfl, rfl, rfl, rfl⟩
  case counter => rfl
  case slots => exact (updateCase_slot u g.firstOut _ s u j).trans (if_pos rfl)
  case flags => rfl
  case unitSet => exact (PerUnit.get_set _ _ _ _).trans (if_pos rfl)

theorem execGroupExpiry_due {s : State} {u : UnitId} {g : OpenGroup} (powered : s.powered = true)
    (found : s.tgr.groups.get u = some g) (due : g.closeAt ≤ s.elapsed) :
    exec (.groupExpiry u) s = .next (report [u] (closeGroup u .expired s)) := by
  have reached : s.reached g.closeAt = true := decide_eq_true due
  simp only [exec, execGroupExpiry, groupDue, found, powered, reached, Bool.and_self, if_true]

/-- The report after the closing of a group, seen from the state before: the closing leaves the units (R73, R88). -/
theorem onlyReported_of_usm {u : UnitId} {s m t : State} (h : OnlyReported u m t) (usm : m.usm = s.usm) :
    OnlyReported u s t := by
  have unit : ∀ v, m.unit v = s.unit v := State.unit_congr usm
  simpa only [OnlyReported, TookReport, unit, usm] using h

/-- Settles O35: the group closes as an expiry, and the closing is reported. -/
theorem groupExpiryClosesTheGroup : Obligations.GroupExpiryClosesTheGroup := by
  intro s u g powered found due
  rw [execGroupExpiry_due powered found due]
  have closes := closeGroup_closes .expired found
  have elsewhere := (Marked.closeGroup (u := u) (n := 0) .expired s).elsewhere
  obtain ⟨tb, riu, tiu, usm, rha, asc, shc, spm, pending, -⟩ := closeGroup_frame u .expired s
  generalize closeGroup u .expired s = m at *
  have reported := report_one u m
  obtain ⟨tb', riu', tiu', ct, tgr, rha', asc', lnu, spm', pending'⟩ := report_frame [u] m
  have version := report_shc [u] m
  generalize report [u] m = t at *
  obtain ⟨x, closed, id, earliest, firstOut, members, reason, closedAt⟩ := closes.summary
  refine ⟨t, x, rfl, by rw [tgr]; exact closes.group, by rw [tgr]; exact closed, id, earliest, firstOut, members,
    reason, closedAt, fun v other => ?others, fun j c hc number => ?unmarked, by rw [lnu]; exact closes.flags,
    by rw [lnu]; exact closes.unitSet, onlyReported_of_usm reported usm, by rw [version, shc],
    State.ext (tb'.trans tb) (riu'.trans riu) (tiu'.trans tiu) rfl rfl rfl (rha'.trans rha) (asc'.trans asc) rfl rfl
      (spm'.trans spm) (pending'.trans pending)⟩
  case others =>
    obtain ⟨groups, closed'⟩ := closes.others v other
    exact ⟨by rw [tgr, groups], by rw [tgr, closed'], (State.caseSet_congr ct v).trans (elsewhere v other)⟩
  case unmarked =>
    rw [State.slot_congr ct, closes.slots, Option.map_eq_some_iff] at hc
    obtain ⟨d, -, rfl⟩ := hc
    exact settledCase_provisional (.inl ((settledCase_same g.firstOut d).number.symm.trans number))

end Sys2Proof.Proofs
end

section
/-! PROOFS. A count handed to its account: the store served, the queue change, and the increment (R114, R117, R118, R121,
R129, R137, R138). -/

namespace Sys2Proof.Proofs

open Sys2Proof.Machine Sys2Proof.Safety

/-! ### The store served (R137, R140) -/

/-- A powered part chooses no record exactly where the choice is held back (R137). -/
theorem choiceHeld_iff {s : State} (powered : s.powered = true) :
    (s.asc.inFlight.isSome || isLoadActivity s.asc.activity || !writingAllowed s) = true ↔ NoRecordChosen s := by
  simp [writingAllowed, powered, NoRecordChosen, or_assoc, and_assoc]

theorem serveStore_rests {s : State} (powered : s.powered = true) (held : NoRecordChosen s) : serveStore s = s := by
  rw [serveStore, chooseNext, if_pos ((choiceHeld_iff powered).mpr held)]

theorem serveStore_head {s : State} (powered : s.powered = true) (chosen : ¬ NoRecordChosen s) {u : UnitId} {k : Kind}
    {rest : List (UnitId × Kind)} (queue : s.asc.queue = (u, k) :: rest) :
    serveStore s = beginAccountWrite u k .queue { s with asc := { s.asc with queue := rest } } := by
  rw [serveStore, chooseNext, if_neg (mt (choiceHeld_iff powered).mp chosen), queue]

theorem takeTrigger_queue (s : State) : (takeTrigger s).asc.queue = s.asc.queue := by
  unfold takeTrigger beginCommit; (repeat' split) <;> rfl

theorem commitEnd_queue (done : Bool) (s : State) : (commitEnd done s).asc.queue = s.asc.queue := by
  have freeze (s : State) : (takeFreeze s).asc.queue = s.asc.queue := by unfold takeFreeze; split <;> rfl
  have recommit (s : State) : (takeRecommit s).asc.queue = s.asc.queue := by
    unfold takeRecommit
    split
    · exact takeTrigger_queue _
    · rfl
  unfold commitEnd
  dsimp only
  rw [recommit, freeze, (raise_frame _ _).2.2.2.2.2.2.2.1]
  (repeat' split) <;> rfl

/-- The account whose write begins is the only one written (R122). -/
theorem beginAccountWrite_account {u v : UnitId} {k l : Kind} (other : (u, k) ≠ (v, l)) (o : Origin) (s : State) :
    (beginAccountWrite v l o s).account u k = s.account u k :=
  (State.account_setStatus s v u l k (.writing .none)).trans (if_neg fun own => other (Prod.ext own.1 own.2))

theorem nextDirty_dirty {s : State} {u : UnitId} {k : Kind} (h : nextDirty s = some (u, k)) :
    (s.account u k).status = .dirty := by
  have found := List.find?_some h
  simp only [Bool.and_eq_true, decide_eq_true_eq] at found
  exact found.2

/-- An account that neither waits in the queue nor is DIRTY is not written while the store is served (R137, R140). -/
theorem serveStore_account {u : UnitId} {k : Kind} {s : State} (queue : (u, k) ∉ s.asc.queue)
    (clean : (s.account u k).status ≠ .dirty) : (serveStore s).account u k = s.account u k := by
  have choose (fuel : Nat) {s : State} (queue : (u, k) ∉ s.asc.queue) (clean : (s.account u k).status ≠ .dirty) :
      (chooseNext fuel s).account u k = s.account u k := by
    induction fuel generalizing s with
    | zero => rfl
    | succ n ih =>
      unfold chooseNext
      split
      · rfl
      · split
        · rename_i v l rest hq
          exact beginAccountWrite_account (fun own => queue (hq ▸ own ▸ List.mem_cons_self)) _ _
        · split
          · split
            · rename_i v l dirty
              refine beginAccountWrite_account (fun own => clean ?_) _ _
              rw [(Prod.mk.inj own).1, (Prod.mk.inj own).2]
              exact nextDirty_dirty dirty
            · dsimp only
              split
              · rfl
              · have rha (t : State) : (commitEnd true t).account u k = t.account u k :=
                  State.account_congr (by simp) u k
                rw [ih (by rw [commitEnd_queue]; exact queue) (by rw [rha]; exact clean), rha]
                rfl
          · rfl
  exact choose 3 queue clean

/-! ### The queue change (R121, R138) -/

/-- What a queue change is told of the state before: where two states agree on it, the change is of both. -/
theorem queueChanged_of_source {u : UnitId} {k : Kind} {s m t : State} (h : QueueChanged u k m t)
    (status : (m.account u k).status = (s.account u k).status)
    (others : ∀ v l, (v, l) ≠ (u, k) → m.account v l = s.account v l) (asc : m.asc = s.asc) (spm : m.spm = s.spm)
    (full : m.lnu.flags.queueFull = s.lnu.flags.queueFull) : QueueChanged u k s t := by
  simp only [QueueChanged, NoRecordChosen, status, asc, spm, full] at h ⊢
  obtain ⟨held, chosen⟩ := h
  refine ⟨fun none => ?_, chosen⟩
  obtain ⟨enters, writing, queued, rest⟩ := held none
  exact ⟨enters, writing, queued, fun v l other => (rest v l other).trans (others v l other)⟩

/-- The account enters the queue at its tail (R138). -/
def enqueued (u : UnitId) (k : Kind) (s : State) : State :=
  State.setStatus { s with asc := { s.asc with queue := s.asc.queue ++ [(u, k)] } } u k .queued

theorem requestQueue_room {u : UnitId} {k : Kind} {s : State} (waits : (u, k) ∉ s.asc.queue)
    (room : s.asc.queue.length < 16) : requestQueue u k s = enqueued u k s := by
  rw [requestQueue, if_neg waits, if_pos room]; rfl

theorem requestQueue_full {u : UnitId} {k : Kind} {s : State} (waits : (u, k) ∉ s.asc.queue)
    (full : 16 ≤ s.asc.queue.length) : requestQueue u k s = raise .queueFull (s.setStatus u k .dirty) := by
  rw [requestQueue, if_neg waits, if_neg (Nat.not_lt.mpr full)]

theorem setStatus_own (u : UnitId) (k : Kind) (p : Persistence) (s : State) :
    ((s.setStatus u k p).account u k).status = p := (setStatus_status s (u, k) p (u, k)).trans (if_pos rfl)

theorem setStatus_other {u v : UnitId} {k l : Kind} (other : (v, l) ≠ (u, k)) (p : Persistence) (s : State) :
    (s.setStatus u k p).account v l = s.account v l := by
  rw [State.account_setStatus, if_neg fun own => other (Prod.ext own.1 own.2)]

theorem queueChange_requests {u : UnitId} {k : Kind} {s : State}
    (h : (s.account u k).status = .clean ∨ (s.account u k).status = .dirty) :
    queueChange u k s = requestQueue u k s := by
  rcases h with h | h <;> simp only [queueChange, h]

theorem queueChange_account {u v : UnitId} {k l : Kind} (other : (v, l) ≠ (u, k)) (s : State) :
    (queueChange u k s).account v l = s.account v l := by
  unfold queueChange requestQueue
  (repeat' split) <;> first
    | rfl
    | exact setStatus_other other _ _

/-- A queue change leaves what holds back the choice of a record (R137, R138). -/
theorem queueChange_noRecordChosen (u : UnitId) (k : Kind) (s : State) :
    NoRecordChosen (queueChange u k s) ↔ NoRecordChosen s := by
  have asc : (queueChange u k s).asc.inFlight = s.asc.inFlight ∧ (queueChange u k s).asc.activity = s.asc.activity
      ∧ (queueChange u k s).asc.frozen = s.asc.frozen := by
    unfold queueChange requestQueue
    (repeat' split) <;> exact ⟨rfl, rfl, rfl⟩
  obtain ⟨flight, activity, frozen⟩ := asc
  have spm : (queueChange u k s).spm = s.spm := by simp
  simp only [NoRecordChosen, flight, activity, frozen, spm]

/-- An account with its queue change, and the store then served (R121, R137). -/
theorem queueChange_changes {u : UnitId} {k : Kind} {s : State} (powered : s.powered = true) :
    QueueChanged u k s (serveStore (queueChange u k s)) := by
  have powered' : (queueChange u k s).powered = true := (powered_congr (by simp)).trans powered
  refine ⟨fun held => ?held, fun chosen unwritten empty => ?chosen⟩
  case held =>
    rw [serveStore_rests powered' ((queueChange_noRecordChosen u k s).mpr held)]
    refine ⟨fun unwritten waits => ⟨fun room => ?room, fun full => ?full⟩, fun c writing => ?writing,
      fun queued => ?queued, fun v l other => queueChange_account other s⟩
    case room =>
      rw [queueChange_requests unwritten, requestQueue_room waits room]
      exact ⟨setStatus_own _ _ _ _, rfl, rfl⟩
    case full =>
      rw [queueChange_requests unwritten, requestQueue_full waits full]
      exact ⟨setStatus_own _ _ _ _, rfl, rfl⟩
    case writing =>
      have change : queueChange u k s = s.setStatus u k (.writing .queue) := by simp only [queueChange, writing]
      rw [change]
      exact ⟨setStatus_own _ _ _ _, rfl, rfl⟩
    case queued =>
      have change : queueChange u k s = s := by simp only [queueChange, queued]
      rw [change]
      exact ⟨queued, rfl, rfl⟩
  case chosen =>
    have change : queueChange u k s = enqueued u k s := by
      rw [queueChange_requests unwritten, requestQueue_room (by rw [empty]; exact List.not_mem_nil) (by simp [empty])]
    have chosen' := mt (queueChange_noRecordChosen u k s).mp chosen
    rw [change] at powered' chosen' ⊢
    have head : (enqueued u k s).asc.queue = [(u, k)] := congrArg (· ++ [(u, k)]) empty
    rw [serveStore_head powered' chosen' head]
    refine ⟨setStatus_own _ _ _ _, rfl, _, rfl, rfl, rfl, ?_⟩
    have written (t : State) : (beginAccountWrite u k .queue t).account u k
        = { t.account u k with status := .writing .none } :=
      (State.account_setStatus t u u k k _).trans (if_pos ⟨rfl, rfl⟩)
    rw [written]
    rfl

/-! ### The increment (R114, R118, R129) -/

/-- The account and its tally with one more counted, before the persistence state follows (R114, R118). -/
def countTaken (u : UnitId) (k : Kind) (s : State) : State :=
  (s.setAccount u k (s.account u k).incremented).setTally u k (bump limit32 (s.tally u k))

theorem countTaken_account (u v : UnitId) (k l : Kind) (s : State) : (countTaken u k s).account v l
    = if v = u ∧ l = k then (s.account u k).incremented else s.account v l := by simp [countTaken]

theorem countTaken_tally (u v : UnitId) (k l : Kind) (s : State) : (countTaken u k s).tally v l
    = if v = u ∧ l = k then bump limit32 (s.tally u k) else s.tally v l := by simp [countTaken]

theorem increment_takes {u : UnitId} {k : Kind} {s : State} (queued : isSecondsKind k = false)
    (loaded : isOutstanding (s.account u k).status = false) (live : (s.account u k).retired = false) :
    increment u k s
      = if AtLimits (s.account u k) then countTaken u k s else queueChange u k (countTaken u k s) := by
  simp only [increment, live, Bool.false_eq_true, if_false, incremented_eq_iff, countChange, queued]
  split
  · rename_i n loading; rw [loading] at loaded; cases loaded
  · rfl

/-- An account's values are those of another, and its persistence state its own. -/
theorem account_of_values {s t : State} {u : UnitId} {k : Kind}
    (h : accountValues (t.account u k) = accountValues (s.account u k)) :
    t.account u k = { s.account u k with status := (t.account u k).status } := eq_of_accountValues h

/-- A count leaves the values and tallies of the other accounts (R114, R137). -/
theorem countOne_others {u v : UnitId} {k l : Kind} (other : (v, l) ≠ (u, k)) (s : State) :
    (countOne u k s).account v l = { s.account v l with status := ((countOne u k s).account v l).status }
      ∧ (countOne u k s).tally v l = s.tally v l := by
  have apart : ¬ (v = u ∧ l = k) := fun own => other (Prod.ext own.1 own.2)
  have served := (serveStore_stands (fun _ => True) (increment u k s)).accounts v l trivial
  have counted : accountValues ((increment u k s).account v l) = accountValues (s.account v l)
      ∧ (increment u k s).tally v l = s.tally v l := by
    rcases increment_values u k s with ⟨-, stands⟩ | taken
    · exact stands v l trivial
    · obtain ⟨values, tally⟩ := taken v l trivial
      exact ⟨values.trans (by simp [apart]), tally.trans (by simp [apart])⟩
  exact ⟨account_of_values (served.1.trans counted.1), served.2.trans counted.2⟩

/-- A start or trip handed to its account, and the store served (R114, R117, R118, R121, R129). -/
theorem countOne_hands {u : UnitId} {k : Kind} {s : State} (powered : s.powered = true)
    (queued : isSecondsKind k = false) : CountHanded u k s (countOne u k s) := by
  have served (m : State) := (serveStore_stands (fun _ => True) m).accounts u k trivial
  refine ⟨fun n loading waits => ?loading, fun loaded retired => ?retired, fun loaded live => ⟨?counted, ?changed, ?limits⟩,
    fun v m other => countOne_others other s⟩
  all_goals rw [countOne]
  case loading =>
    rw [increment_loading loading]
    have status := setStatus_own u k (.loading (bump 65535 n)) s
    refine ⟨?_, (served _).2.trans (State.tally_setStatus _ _ _ _ _ _)⟩
    rw [serveStore_account (s := s.setStatus u k _) waits (by rw [status]; simp), State.account_setStatus,
      if_pos ⟨rfl, rfl⟩]
    rfl
  case retired =>
    rw [increment_retired loaded retired]
    refine ⟨account_of_values (served s).1, (served s).2, fun held => ?_⟩
    rw [serveStore_rests powered held]
    exact ⟨rfl, rfl⟩
  all_goals rw [increment_takes queued loaded live]
  case counted =>
    have counted : accountValues ((if AtLimits (s.account u k) then countTaken u k s
          else queueChange u k (countTaken u k s)).account u k) = accountValues ((countTaken u k s).account u k)
        ∧ (if AtLimits (s.account u k) then countTaken u k s else queueChange u k (countTaken u k s)).tally u k
          = (countTaken u k s).tally u k := by
      split
      · exact ⟨rfl, rfl⟩
      · exact (queueChange_stands (fun _ => True) u k _).accounts u k trivial
    generalize (if AtLimits (s.account u k) then countTaken u k s else queueChange u k (countTaken u k s)) = m at *
    have account := account_of_values ((served m).1.trans counted.1)
    rw [countTaken_account, if_pos ⟨rfl, rfl⟩] at account
    refine ⟨account, (served m).2.trans (counted.2.trans ?_)⟩
    rw [countTaken_tally, if_pos ⟨rfl, rfl⟩]
    rfl
  case changed =>
    intro below
    rw [if_neg below]
    have changes := queueChange_changes (u := u) (k := k) (s := countTaken u k s) powered
    refine queueChanged_of_source changes ?_ (fun v l other => ?_) rfl rfl rfl
    · rw [countTaken_account, if_pos ⟨rfl, rfl⟩]; rfl
    · rw [countTaken_account, if_neg fun own => other (Prod.ext own.1 own.2)]
  case limits =>
    intro limits held
    rw [if_pos limits, serveStore_rests (s := countTaken u k s) powered held, countTaken_account, if_pos ⟨rfl, rfl⟩]
    exact ⟨(incremented_eq_iff _).mpr limits, rfl⟩

/-- Where two states agree on the accounts, the store, the supply and QUEUE_FULL, a count is handed in both. -/
theorem countHanded_congr {u : UnitId} {k : Kind} {s t s' t' : State} (h : CountHanded u k s t)
    (source : s'.rha = s.rha ∧ s'.asc = s.asc ∧ s'.spm = s.spm ∧ s'.lnu.flags.queueFull = s.lnu.flags.queueFull)
    (target : t'.rha = t.rha ∧ t'.asc = t.asc ∧ t'.lnu.flags.queueFull = t.lnu.flags.queueFull) :
    CountHanded u k s' t' := by
  obtain ⟨rha, asc, spm, full⟩ := source
  obtain ⟨rha', asc', full'⟩ := target
  have records {s t : State} (h : s.rha = t.rha) : s.account = t.account ∧ s.tally = t.tally :=
    ⟨funext₂ (State.account_congr h), funext₂ (State.tally_congr h)⟩
  obtain ⟨account, tally⟩ := records rha
  obtain ⟨account', tally'⟩ := records rha'
  unfold CountHanded QueueChanged Counted NoRecordChosen
  rw [account, tally, asc, spm, full, account', tally', asc', full']
  exact h

end Sys2Proof.Proofs
end

section
/-! PROOFS. The placing of a trip: the group that it opens or joins, the case placed, and the unit (R83 to R90, R105). -/

namespace Sys2Proof.Proofs

open Sys2Proof.Machine Sys2Proof.Safety

/-! ### The only case of a number -/

/-- A case stands in a slot, and no other slot holds its number (R61). -/
structure SoleIn (u : UnitId) (j : SlotId) (d : Case) (s : State) : Prop where
  slot : s.slot u j = some d
  apart : ∀ v k c, s.slot v k = some c → (v, k) ≠ (u, j) → c.number ≠ d.number

/-- A placing in a unit leaves the case the only one of its number. -/
theorem SoleIn.marked {u v : UnitId} {j : SlotId} {d : Case} {n : Nat} {s t : State} (h : SoleIn u j d s)
    (marked : Marked v n s t) : ∃ e, SoleIn u j e t ∧ SameButGroup d e := by
  have kept := SlotsKept.of_marked marked
  obtain ⟨e, slot, same⟩ : ∃ e, t.slot u j = some e ∧ SameButGroup d e := by
    by_cases own : u = v
    · subst own
      obtain ⟨e, slot, remarked⟩ := (marked.cases j).1 d h.slot
      exact ⟨e, slot, remarked.same⟩
    · exact ⟨d, by rw [State.slot, marked.elsewhere u own]; exact h.slot, .refl d⟩
  refine ⟨e, ⟨slot, fun w k c hc other => ?_⟩, same⟩
  obtain ⟨c', hc', keptC⟩ := kept w k c hc
  rw [keptC.number, same.number]
  exact h.apart w k c' hc' other

/-- A change to the case of its number changes that slot alone. -/
theorem SoleIn.updateCase_slot {u : UnitId} {j : SlotId} {d : Case} {s : State} (h : SoleIn u j d s) (f : Case → Case)
    (v : UnitId) (k : SlotId) :
    (updateCase u d.number f s).slot v k = if (v, k) = (u, j) then some (f d) else s.slot v k := by
  rw [Proofs.updateCase_slot]
  split
  · rename_i own
    split
    · rename_i both
      rw [(Prod.mk.inj both).2, h.slot, Option.map_some, if_pos rfl]
    · rename_i other
      rw [own] at other ⊢
      cases slot : s.slot u k with
      | none => rfl
      | some c => rw [Option.map_some, if_neg (h.apart u k c slot other)]
  · rename_i elsewhere
    rw [if_neg fun both => elsewhere (Prod.mk.inj both).1]

/-- Two states with the same cases, groups, accounts, store and notices. -/
structure SameTables (p t : State) : Prop where
  ct : t.ct = p.ct
  tgr : t.tgr = p.tgr
  rha : t.rha = p.rha
  asc : t.asc = p.asc
  flags : t.lnu.flags = p.lnu.flags
  unitSets : t.lnu.unitSets = p.lnu.unitSets

/-! ### The group opened (R83, R85, R87) -/

/-- A unit's longest filter time is one of its inputs', and none is longer (R49). -/
theorem longestFilter_longest (x : PerInput TripInput) :
    (∀ k, filterTime (x.get k).config.exponent ≤ longestFilter x
        ∧ filterTime (x.get k).inForce.exponent ≤ longestFilter x)
      ∧ ∃ k, longestFilter x = filterTime (x.get k).config.exponent
        ∨ longestFilter x = filterTime (x.get k).inForce.exponent := by
  simp only [longestFilter, PerInput.toList, List.foldl_cons, List.foldl_nil, Nat.zero_max]
  refine ⟨fun k => ?_, ?_⟩
  · cases k <;> simp only [PerInput.get] <;> omega
  · by_contra none
    simp only [not_exists, not_or] at none
    have h1 := none .i1
    have h2 := none .i2
    have h3 := none .i3
    have h4 := none .i4
    simp only [PerInput.get] at h1 h2 h3 h4
    omega

/-- The group that a trip opens, with the case of a number as first-out (R83, R85). -/
def openedGroup (a : Assertion) (n : Nat) (s : State) : OpenGroup :=
  { id := freeNumber (heldIds s) 41 s.tgr.counter, earliest := a.stamp, firstOut := n
    window := groupWindow s.tgr.windowExp, maxFilter := longestFilter (s.tiu.inputs.get a.unit)
    closeAt := a.stamp.elapsed + groupWindow s.tgr.windowExp + longestFilter (s.tiu.inputs.get a.unit)
    members := [{ number := n, input := a.input, edge := a.stamp, priority := a.priority }] }

/-- The id of a group that opens is held by no case and by no OPEN group (R83). -/
theorem openedGroup_id (a : Assertion) (n : Nat) (s : State) :
    (∀ v k c, s.slot v k = some c → c.groupId ≠ (openedGroup a n s).id)
      ∧ ∀ v g, s.tgr.groups.get v = some g → g.id ≠ (openedGroup a n s).id := by
  have free : (openedGroup a n s).id ∉ heldIds s :=
    freeNumber_free _ (Nat.lt_succ_of_le (GroupsSound.heldIds_length s)) (by decide)
  refine ⟨fun v k c hc same => free (List.mem_append_left _ ?_),
    fun v g hg same => free (List.mem_append_right _ ?_)⟩
  · exact List.mem_map.mpr ⟨c, mem_cases.mpr ⟨v, k, hc⟩, same⟩
  · exact List.mem_filterMap.mpr ⟨some g, (PerUnit.mem_toList _ _).mpr ⟨v, hg⟩, congrArg some same⟩

theorem openGroup_tgr (a : Assertion) (n : Nat) (s : State) : (openGroup a n s).tgr = { s.tgr with
    groups := s.tgr.groups.set a.unit (some (openedGroup a n s)), counter := nextNumber (openedGroup a n s).id } := rfl

/-- A case that is the first-out of a group that opens (R85). -/
def firstOutCase (id : Nat) (c : Case) : Case := { c with groupId := id, firstOut := true, provisional := true }

theorem openGroup_slot {a : Assertion} {j : SlotId} {d : Case} {s : State} (sole : SoleIn a.unit j d s) (v : UnitId)
    (k : SlotId) : (openGroup a d.number s).slot v k
      = if (v, k) = (a.unit, j) then some (firstOutCase (openedGroup a d.number s).id d) else s.slot v k := by
  have sole' : SoleIn a.unit j d { s with tgr := (openGroup a d.number s).tgr } := ⟨sole.slot, sole.apart⟩
  exact sole'.updateCase_slot (firstOutCase (openedGroup a d.number s).id) v k

/-- What the opening of a group leaves, and the case that opened it (R83, R85, R114). -/
structure GroupOpened (a : Assertion) (j : SlotId) (d : Case) (s t : State) : Prop where
  group : t.tgr.groups.get a.unit = some (openedGroup a d.number s)
  closed : t.tgr.closed = s.tgr.closed
  counter : t.tgr.counter = nextNumber (openedGroup a d.number s).id
  case : t.slot a.unit j = some (firstOutCase (openedGroup a d.number s).id d)
  caseIds : ∀ v k c, (v, k) ≠ (a.unit, j) → t.slot v k = some c → c.groupId ≠ (openedGroup a d.number s).id
  groupIds : ∀ v g, v ≠ a.unit → t.tgr.groups.get v = some g → g.id ≠ (openedGroup a d.number s).id
  counted : CountHanded a.unit .trips s t

/-- An opening writes the cases and the groups, and then the count is handed on (R85). -/
theorem placeByOpening_blocks (a : Assertion) (n : Nat) (s : State) :
    (placeByOpening a n s).ct = (openGroup a n s).ct ∧ (placeByOpening a n s).tgr = (openGroup a n s).tgr
      ∧ (placeByOpening a n s).rha = (countOne a.unit .trips (openGroup a n s)).rha
      ∧ (placeByOpening a n s).asc = (countOne a.unit .trips (openGroup a n s)).asc
      ∧ (placeByOpening a n s).lnu = (countOne a.unit .trips (openGroup a n s)).lnu := by
  simp [placeByOpening]

theorem placeByOpening_opens {a : Assertion} {j : SlotId} {d : Case} {s t : State} (powered : s.powered = true)
    (sole : SoleIn a.unit j d s) (same : SameTables (placeByOpening a d.number s) t) : GroupOpened a j d s t := by
  obtain ⟨ct, tgr, rha, asc, lnu⟩ := placeByOpening_blocks a d.number s
  have slots (v : UnitId) (k : SlotId) : t.slot v k
      = if (v, k) = (a.unit, j) then some (firstOutCase (openedGroup a d.number s).id d) else s.slot v k := by
    rw [State.slot_congr (same.ct.trans ct), openGroup_slot sole]
  have tgr' := (same.tgr.trans tgr).trans (openGroup_tgr a d.number s)
  have counted := countOne_hands (u := a.unit) (k := .trips) (s := openGroup a d.number s)
    ((powered_congr (by simp)).trans powered) rfl
  obtain ⟨cases, groups⟩ := openedGroup_id a d.number s
  refine {
    group := by rw [tgr', PerUnit.get_set, if_pos rfl]
    closed := by rw [tgr']
    counter := by rw [tgr']
    case := by rw [slots, if_pos rfl]
    caseIds := fun v k c other hc => cases v k c (by rwa [slots, if_neg other] at hc)
    groupIds := fun v g other hg => groups v g (by rwa [tgr', PerUnit.get_set, if_neg other] at hg)
    counted := countHanded_congr counted (by simp) ⟨same.rha.trans rha, same.asc.trans asc, ?_⟩ }
  rw [same.flags, lnu]

/-! ### The group joined (R84, R86, R89) -/

theorem markMoves_iff {g : OpenGroup} {a : Assertion} : markMoves g a = true ↔
    a.stamp.elapsed < g.earliest.elapsed
      ∨ a.stamp.elapsed = g.earliest.elapsed ∧ ∃ m, g.members.find? (fun m => m.number == g.firstOut) = some m
        ∧ (a.priority < m.priority
          ∨ a.priority = m.priority ∧ inputNumber a.input < inputNumber m.input) := by
  unfold markMoves
  split
  · rename_i earlier; simp [earlier]
  · rename_i later
    split
    · rename_i level
      split
      · rename_i m found; simp [level, found]
      · rename_i none; simp [level, none]
    · rename_i apart; simp [later, apart]

/-- The group after a case joins it (R84, R86). -/
def joinedGroup (a : Assertion) (n : Nat) (g : OpenGroup) : OpenGroup :=
  let members := g.members ++ [{ number := n, input := a.input, edge := a.stamp, priority := a.priority }]
  if markMoves g a then
    { g with
      members := members, firstOut := n, earliest := a.stamp, closeAt := a.stamp.elapsed + g.window + g.maxFilter }
  else { g with members := members }

theorem joinedGroup_moved {a : Assertion} {g : OpenGroup} (n : Nat) (moves : markMoves g a = true) :
    (joinedGroup a n g).firstOut = n ∧ (joinedGroup a n g).earliest = a.stamp
      ∧ (joinedGroup a n g).closeAt = a.stamp.elapsed + g.window + g.maxFilter := by
  simp [joinedGroup, moves]

theorem joinedGroup_unmoved {a : Assertion} {g : OpenGroup} (n : Nat) (moves : ¬ markMoves g a = true) :
    (joinedGroup a n g).firstOut = g.firstOut ∧ (joinedGroup a n g).earliest = g.earliest
      ∧ (joinedGroup a n g).closeAt = g.closeAt := by
  simp [joinedGroup, moves]

theorem joinedGroup_members (a : Assertion) (n : Nat) (g : OpenGroup) : joinedGroup a n g = { g with
    members := g.members ++ [{ number := n, input := a.input, edge := a.stamp, priority := a.priority }]
    firstOut := (joinedGroup a n g).firstOut, earliest := (joinedGroup a n g).earliest
    closeAt := (joinedGroup a n g).closeAt } := by
  unfold joinedGroup; split <;> rfl

theorem joinGroup_tgr (a : Assertion) (n : Nat) (g : OpenGroup) (s : State) : (joinGroup a n g s).tgr = { s.tgr with
    groups := s.tgr.groups.set a.unit (some (joinedGroup a n g)) } := by
  unfold joinGroup joinedGroup; dsimp only; split <;> rfl

/-- A case that joins a group: it is the first-out where the mark moves to it (R86). -/
def joinedCase (a : Assertion) (g : OpenGroup) (c : Case) : Case :=
  { c with groupId := g.id, firstOut := markMoves g a, provisional := markMoves g a }

theorem joinGroup_case {a : Assertion} {j : SlotId} {d : Case} {s : State} (slot : s.slot a.unit j = some d)
    (g : OpenGroup) : (joinGroup a d.number g s).slot a.unit j = some (joinedCase a g d) := by
  have placed (u : UnitId) (o : Option OpenGroup) (m : State) : (setGroup u o m).slot a.unit j = m.slot a.unit j := rfl
  unfold joinGroup joinedCase
  dsimp only
  split
  · rename_i moves
    rw [placed, updateCase_slot, if_pos rfl, updateCase_slot, if_pos rfl, slot, Option.map_some, Option.map_some, moves]
    split <;> rw [if_pos rfl]
  · rename_i stays
    rw [placed, updateCase_slot, if_pos rfl, slot, Option.map_some, if_pos rfl, Bool.eq_false_iff.mpr stays]

/-- A case whose number is not the one changed stands as it stood. -/
theorem updateCase_other {u : UnitId} {n : Nat} {f : Case → Case} {s : State} {k : SlotId} {e : Case}
    (h : (updateCase u n f s).slot u k = some e) (number : ∀ c, (f c).number = c.number) (other : e.number ≠ n) :
    s.slot u k = some e := by
  rw [updateCase_slot, if_pos rfl, Option.map_eq_some_iff] at h
  obtain ⟨c, hc, rfl⟩ := h
  split at other
  · rename_i own; exact absurd ((number c).trans own) other
  · rename_i apart; rw [if_neg apart, hc]

/-- The former first-out case loses its marks where the mark moves to another (R86). -/
theorem joinGroup_former {a : Assertion} {n : Nat} {g : OpenGroup} {s : State} (moves : markMoves g a = true)
    {k : SlotId} {e : Case} (slot : (joinGroup a n g s).slot a.unit k = some e) (former : e.number = g.firstOut)
    (other : e.number ≠ n) : e.firstOut = false ∧ e.provisional = false := by
  have placed (u : UnitId) (o : Option OpenGroup) (m : State) : (setGroup u o m).slot a.unit k = m.slot a.unit k := rfl
  rw [joinGroup, if_pos moves, placed] at slot
  obtain ⟨c, rfl⟩ := updateCase_own (updateCase_other slot (fun _ => rfl) other) former
  exact ⟨rfl, rfl⟩

theorem closeIfDue_waits {u : UnitId} {s : State} {g : OpenGroup} (found : s.tgr.groups.get u = some g)
    (waits : s.elapsed < g.closeAt) : closeIfDue u s = s := by
  have open_ : s.reached g.closeAt = false := decide_eq_false (Nat.not_le.mpr waits)
  simp [closeIfDue, found, open_]

theorem closeIfDue_due {u : UnitId} {s : State} {g : OpenGroup} (found : s.tgr.groups.get u = some g)
    (due : g.closeAt ≤ s.elapsed) : closeIfDue u s = closeGroup u .expired s := by
  have reached : s.reached g.closeAt = true := decide_eq_true due
  simp [closeIfDue, found, reached]

/-- What the joining of a group leaves, and the case that joined it (R84, R86, R89). -/
structure GroupJoined (a : Assertion) (n : Nat) (c : Case) (g : OpenGroup) (s t : State) : Prop where
  rha : t.rha = s.rha
  counter : t.tgr.counter = s.tgr.counter
  groupId : c.groupId = g.id
  firstOut : c.firstOut = markMoves g a
  former : markMoves g a = true → ∀ k e, t.slot a.unit k = some e → e.number = g.firstOut → e.number ≠ n →
    e.firstOut = false ∧ e.provisional = false
  stays : s.elapsed < (joinedGroup a n g).closeAt → t.tgr.groups.get a.unit = some (joinedGroup a n g)
    ∧ t.tgr.closed = s.tgr.closed ∧ c.provisional = markMoves g a
  closes : (joinedGroup a n g).closeAt ≤ s.elapsed → t.tgr.groups.get a.unit = none ∧ c.provisional = false
    ∧ t.lnu.flags.firstOutFinal = true
    ∧ ∃ x, t.tgr.closed.get a.unit = some x ∧ x.id = g.id ∧ x.earliest = (joinedGroup a n g).earliest
      ∧ x.firstOut = (joinedGroup a n g).firstOut ∧ x.members = (joinedGroup a n g).members ∧ x.reason = .expired
      ∧ x.closedAt = s.now

theorem joinGroup_joins {a : Assertion} {j : SlotId} {c d : Case} {g : OpenGroup} {s t : State}
    (before : s.slot a.unit j = some d) (after : t.slot a.unit j = some c)
    (same : SameTables (closeIfDue a.unit (tripIfStops a (joinGroup a d.number g s))) t) :
    GroupJoined a d.number c g s t := by
  have case := joinGroup_case before g
  have former := fun moves k e => joinGroup_former (n := d.number) (s := s) (g := g) (a := a) moves (k := k) (e := e)
  have tgr : (tripIfStops a (joinGroup a d.number g s)).tgr = _ :=
    (tripIfStops_frame _ _).2.2.2.2.1.trans (joinGroup_tgr a d.number g s)
  have ct : (tripIfStops a (joinGroup a d.number g s)).ct = (joinGroup a d.number g s).ct := by simp
  have tb : (tripIfStops a (joinGroup a d.number g s)).tb = s.tb := by simp
  have rha := same.rha.trans (by simp : _ = s.rha)
  have id : (joinedGroup a d.number g).id = g.id := by rw [joinedGroup_members]
  generalize joinGroup a d.number g s = m at *
  generalize tripIfStops a m = q at *
  have found : q.tgr.groups.get a.unit = some (joinedGroup a d.number g) := by rw [tgr, PerUnit.get_set, if_pos rfl]
  rw [← State.slot_congr ct] at case
  rcases Nat.lt_or_ge s.elapsed (joinedGroup a d.number g).closeAt with waits | due
  · rw [closeIfDue_waits found (by rwa [State.elapsed_congr tb])] at same
    obtain rfl : joinedCase a g d = c :=
      Option.some.inj (case.symm.trans ((State.slot_congr same.ct _ _).symm.trans after))
    exact {
      rha := rha
      counter := by rw [same.tgr, tgr]
      groupId := rfl
      firstOut := rfl
      former := fun moves k e hk => former moves k e (by rwa [State.slot_congr (same.ct.trans ct)] at hk)
      stays := fun _ => ⟨by rw [same.tgr, found], by rw [same.tgr, tgr], rfl⟩
      closes := fun due => absurd waits (Nat.not_lt.mpr due) }
  · rw [closeIfDue_due found (by rwa [State.elapsed_congr tb])] at same
    have closes := closeGroup_closes .expired found
    have slots (k : SlotId) :
        t.slot a.unit k = (m.slot a.unit k).map (settledCase (joinedGroup a d.number g).firstOut) := by
      rw [State.slot_congr same.ct, closes.slots, State.slot_congr ct]
    rw [slots, ← State.slot_congr ct, case, Option.map_some] at after
    obtain rfl := Option.some.inj after
    have settled : (joinedCase a g d).number = (joinedGroup a d.number g).firstOut
        ∨ (joinedCase a g d).provisional = false := by
      by_cases moves : markMoves g a = true
      · exact .inl (joinedGroup_moved d.number moves).1.symm
      · exact .inr (Bool.eq_false_iff.mpr moves)
    exact {
      rha := rha
      counter := by rw [same.tgr, closes.counter, tgr]
      groupId := settledCase_groupId _ _
      firstOut := settledCase_firstOut _ _
      former := fun moves k e hk number other => by
        rw [slots, Option.map_eq_some_iff] at hk
        obtain ⟨e', he', rfl⟩ := hk
        rw [(settledCase_same _ e').number] at number other
        obtain ⟨first, provisional⟩ := former moves k e' he' number other
        exact ⟨(settledCase_firstOut _ e').trans first, settledCase_provisional (.inr provisional)⟩
      stays := fun waits => absurd waits (Nat.not_lt.mpr due)
      closes := fun _ => by
        rw [same.tgr, same.flags, closes.flags, ← id, ← State.now_congr tb]
        exact ⟨closes.group, settledCase_provisional settled, rfl, closes.summary⟩ }

/-! ### The branches of a placing (R84, R87) -/

section

variable {a : Assertion} {n held : Nat} {g : OpenGroup} {s : State}

theorem placeCase_of_test (test : a.test = true) : placeCase a n held s = s := by rw [placeCase, if_pos test]

theorem placeCase_of_none (test : a.test = false) (none : s.tgr.groups.get a.unit = none) :
    placeCase a n held s = placeByOpening a n s := by simp [placeCase, test, none]

theorem placeCase_of_within (test : a.test = false) (found : s.tgr.groups.get a.unit = some g)
    (within : a.stamp.elapsed ≤ g.earliest.elapsed + g.window) : placeCase a n held s
      = closeIfDue a.unit (tripIfStops a (if held = g.id then s else joinGroup a n g s)) := by
  simp only [placeCase, test, Bool.false_eq_true, if_false, found, if_pos within]

theorem placeCase_of_beyond (test : a.test = false) (found : s.tgr.groups.get a.unit = some g)
    (beyond : g.earliest.elapsed + g.window < a.stamp.elapsed) :
    placeCase a n held s = placeByOpening a n (closeGroup a.unit .superseded s) := by
  simp only [placeCase, test, Bool.false_eq_true, if_false, found, if_neg (Nat.not_le.mpr beyond)]

/-- A placing changes no other unit's summary (R81). -/
theorem placeCase_closed {v : UnitId} (h : v ≠ a.unit) :
    (placeCase a n held s).tgr.closed.get v = s.tgr.closed.get v := by
  have opening (s : State) : (placeByOpening a n s).tgr.closed.get v = s.tgr.closed.get v := by
    rw [(placeByOpening_blocks a n s).2.1]; rfl
  have due (s : State) : (closeIfDue a.unit s).tgr.closed.get v = s.tgr.closed.get v := by
    unfold closeIfDue
    (repeat' split) <;> first | rfl | exact closeGroup_closed _ s h
  unfold placeCase
  split
  · rfl
  · split
    · exact opening s
    · rename_i g _
      split
      · rw [due, (tripIfStops_frame _ _).2.2.2.2.1]
        split
        · rfl
        · rw [joinGroup_tgr]
      · rw [opening, closeGroup_closed _ s h]

/-- A placed trip whose stops-unit item is set trips its unit (R90, R105). -/
theorem placeCase_unit_own (test : a.test = false) : (placeCase a n held s).unit a.unit
    = if a.stops = true then (s.unit a.unit).trip else s.unit a.unit := by
  have trips (m : State) (usm : m.usm = s.usm) : (tripIfStops a m).unit a.unit
      = if a.stops = true then (s.unit a.unit).trip else s.unit a.unit := by
    unfold tripIfStops
    split
    · rw [setTripped, State.unit_setUnit, if_pos rfl, State.unit_congr usm]
    · exact State.unit_congr usm _
  cases found : s.tgr.groups.get a.unit with
  | none => rw [placeCase_of_none test found]; exact trips _ (by simp)
  | some g =>
    rcases Nat.lt_or_ge (g.earliest.elapsed + g.window) a.stamp.elapsed with beyond | within
    · rw [placeCase_of_beyond test found beyond]; exact trips _ (by simp)
    · rw [placeCase_of_within test found within, State.unit_congr (closeIfDue_frame _ _).2.2.2.1]
      exact trips _ (by split <;> simp)

end

end Sys2Proof.Proofs
end

section
/-! PROOFS. A confirmed assertion whose case is opened or re-tripped, and what its placing leaves (R42, R58 to R63, R73,
R83 to R90, R105, R114). -/

namespace Sys2Proof.Proofs

open Sys2Proof.Machine Sys2Proof.Safety

/-! ### The case opened or re-tripped (R58, R63) -/

/-- An assertion's case has been opened or re-tripped, and is to be placed; the rest of the part stands. -/
structure CaseMade (a : Assertion) (j : SlotId) (d : Case) (s o : State) : Prop where
  sole : SoleIn a.unit j d o
  found : o.inputCase a.unit a.input = some (j, d)
  active : d.state = .active
  test : d.test = a.test
  marks : ∀ k e, s.inputCase a.unit a.input = some (k, e) → d.firstOut = e.firstOut ∧ d.provisional = e.provisional
  time : o.tb = s.tb
  inputs : o.tiu = s.tiu
  groups : o.tgr = s.tgr
  units : o.usm = s.usm
  accounts : o.rha = s.rha
  store : o.asc = s.asc
  supply : o.spm = s.spm
  queueFull : o.lnu.flags.queueFull = s.lnu.flags.queueFull

theorem SlotPut.sole {u : UnitId} {j : SlotId} {d : Case} {s o : State} (put : SlotPut u j d s o)
    (apart : ∀ v k c, s.slot v k = some c → (v, k) ≠ (u, j) → c.number ≠ d.number) : SoleIn u j d o where
  slot := (put.slots u j).trans (if_pos ⟨rfl, rfl⟩)
  apart v k c hc other := apart v k c (by rwa [put.slots, if_neg (by simpa using other)] at hc) other

theorem openCase_makes {a : Assertion} {j : SlotId} {s : State} (new : s.inputCase a.unit a.input = none) :
    CaseMade a j (openedCase a j s) s (openCase a j s) := by
  have put := openCase_put a j s
  have sole := put.sole fun v k c hc other => openedCase_number a j s hc other
  obtain ⟨tb, -, tiu, tgr, usm, rha, asc, -, spm, -⟩ := openCase_frame a j s
  refine ⟨sole, ?found, rfl, rfl, fun k e held => absurd (new.symm.trans held) (by simp), tb, tiu, tgr, usm, rha, asc,
    spm, rfl⟩
  cases found : (openCase a j s).inputCase a.unit a.input with
  | none => exact absurd (inputCase_none_iff.mp found j _ sole.slot rfl) (by simp [openedCase])
  | some x =>
    obtain ⟨k, e⟩ := x
    obtain ⟨slot, input, live⟩ := inputCase_slot found
    have own : k = j := by
      by_contra other
      rw [put.slots, if_neg fun both => other both.2] at slot
      exact live (inputCase_none_iff.mp new k e slot input)
    subst own
    rw [Option.some.inj (slot.symm.trans sole.slot)]

theorem retripCase_makes {a : Assertion} {j : SlotId} {c : Case} {s : State}
    (apart : ∀ v k e, s.slot v k = some e → (v, k) ≠ (a.unit, j) → e.number ≠ c.number)
    (held : s.inputCase a.unit a.input = some (j, c)) (same : c.test = a.test) :
    CaseMade a j (retrippedCase a c s) s (retripCase a j c s) := by
  have put := retripCase_put a j c s
  have sole := put.sole apart
  obtain ⟨slot, input, live⟩ := inputCase_slot held
  obtain ⟨tb, -, tiu, tgr, usm, rha, asc, -, spm, -⟩ := retripCase_frame a j c s
  have marks (k : SlotId) (e : Case) (held' : s.inputCase a.unit a.input = some (k, e)) :
      (retrippedCase a c s).firstOut = e.firstOut ∧ (retrippedCase a c s).provisional = e.provisional := by
    rw [← (found_unique held held').2]
    exact ⟨rfl, rfl⟩
  refine ⟨sole, ?found, rfl, same, marks, tb, tiu, tgr, usm, rha, asc, spm, rfl⟩
  have own : HoldsFor (retripCase a j c s) a.unit a.input j (retrippedCase a c s) :=
    ⟨sole.slot, input, by simp [retrippedCase, Case.retripped]⟩
  have others {k : SlotId} (other : k ≠ j) (e : Case) :
      HoldsFor (retripCase a j c s) a.unit a.input k e ↔ HoldsFor s a.unit a.input k e := by
    rw [HoldsFor, put.slots, if_neg fun both => other both.2, HoldsFor]
  have forth (k : SlotId) (e : Case) (holds : HoldsFor s a.unit a.input k e) :
      ∃ e', HoldsFor (retripCase a j c s) a.unit a.input k e' ∧ True := by
    by_cases here : k = j
    · subst here; exact ⟨_, own, trivial⟩
    · exact ⟨e, (others here e).mpr holds, trivial⟩
  have back (k : SlotId) (e : Case) (holds : HoldsFor (retripCase a j c s) a.unit a.input k e) :
      ∃ e', HoldsFor s a.unit a.input k e' := by
    by_cases here : k = j
    · subst here; exact ⟨c, slot, input, live⟩
    · exact ⟨e, (others here e).mp holds⟩
  obtain ⟨e, found, -⟩ := (inputCase_corresponds forth back).1 j c held
  rw [found, Option.some.inj ((inputCase_slot found).1.symm.trans sole.slot)]

/-- An assertion that neither overflows nor differs in the TEST mark makes a case, which is then placed by the group id
it held (R58, R63, R84). -/
theorem takeAssertion_makes {a : Assertion} {s : State} {held : Nat} (numbers : (s.cases.map (·.number)).Nodup)
    (which : (s.inputCase a.unit a.input = none ∧ (s.caseSet a.unit).allocate ≠ none ∧ held = 0)
      ∨ ∃ j c, s.inputCase a.unit a.input = some (j, c) ∧ c.test = a.test ∧ held = c.groupId) :
    ∃ j d o, CaseMade a j d s o ∧ d.groupId = held
      ∧ takeAssertion a s = evalCaseLamp (report [a.unit] (placeCase a d.number held o)) := by
  rcases which with ⟨new, free, rfl⟩ | ⟨j, c, found, same, rfl⟩
  · obtain ⟨j, slot⟩ := Option.ne_none_iff_exists'.mp free
    exact ⟨j, _, _, openCase_makes new, rfl, takeAssertion_opens new slot⟩
  · have slot := (inputCase_slot found).1
    have apart := fun v k e (he : s.slot v k = some e) (other : (v, k) ≠ (a.unit, j)) (number : e.number = c.number) =>
      other ((numbers_nodup_iff s).mp numbers v k a.unit j e c he slot number)
    exact ⟨j, _, _, retripCase_makes apart found same, rfl, takeAssertion_retrips found same⟩

/-! ### The report (R73, R105) -/

theorem reported_sameTables (u : UnitId) (p : State) : SameTables p (evalCaseLamp (report [u] p)) := by
  obtain ⟨ct, tgr, rha, asc, flags, unitSets, -⟩ := reported_blocks u p
  exact ⟨ct, tgr, rha, asc, flags, unitSets⟩

/-- A unit that holds an active case keeps its TRIPPED flag and its mode over the report (R73, R105). -/
theorem reported_holding {u : UnitId} {j : SlotId} {c : Case} {p : State} (slot : p.slot u j = some c)
    (active : c.state = .active) (test : c.test = false) :
    let t := evalCaseLamp (report [u] p)
    (t.unit u).caseHeld = true ∧ (t.unit u).tripped = (p.unit u).tripped ∧ (t.unit u).mode = (p.unit u).mode := by
  intro t
  have held : holdsCase (p.caseSet u) = true := (holdsCase_iff _).mpr ⟨j, c, slot, .inl active, test⟩
  have stays (r : UnitRecord) (h : r.caseHeld = true) : r.checkTripped = r := by
    rw [UnitRecord.checkTripped, if_neg (by simp [UnitRecord.mayClear, h])]
  have unit : t.unit u = { p.unit u with caseHeld := holdsCase (p.caseSet u) } :=
    ((State.unit_setUnit _ _ _ _).trans (if_pos rfl)).trans (stays _ held)
  rw [unit]
  exact ⟨held, rfl, rfl⟩

/-! ### The statement -/

/-- The opening of a group as it is seen from the state before the assertion (R83, R85, R114). -/
def TripOpens (a : Assertion) (j : SlotId) (c : Case) (s t : State) : Prop :=
  ∃ g, t.tgr.groups.get a.unit = some g
    ∧ g.earliest = a.stamp ∧ g.firstOut = c.number ∧ g.window = 10000 * 2 ^ s.tgr.windowExp
    ∧ g.closeAt = a.stamp.elapsed + g.window + g.maxFilter
    ∧ g.members = [{ number := c.number, input := a.input, edge := a.stamp, priority := a.priority }]
    ∧ (∀ k, 5000 * 2 ^ (s.input a.unit k).config.exponent ≤ g.maxFilter
        ∧ 5000 * 2 ^ (s.input a.unit k).inForce.exponent ≤ g.maxFilter)
    ∧ (∃ k, g.maxFilter = 5000 * 2 ^ (s.input a.unit k).config.exponent
        ∨ g.maxFilter = 5000 * 2 ^ (s.input a.unit k).inForce.exponent)
    ∧ c.groupId = g.id ∧ c.firstOut = true ∧ c.provisional = true
    ∧ t.tgr.counter = (if g.id < 65535 then g.id + 1 else 1)
    ∧ (∀ v k d, (v, k) ≠ (a.unit, j) → t.slot v k = some d → d.groupId ≠ g.id)
    ∧ (∀ v d, v ≠ a.unit → t.tgr.groups.get v = some d → d.id ≠ g.id)
    ∧ CountHanded a.unit .trips s t

/-- What an opening reads of a state: the window setting, the settings of the inputs, the accounts, the store, the
supply and QUEUE_FULL. -/
structure OpeningAgrees (s q : State) : Prop where
  window : q.tgr.windowExp = s.tgr.windowExp
  settings : ∀ v k, (q.input v k).config = (s.input v k).config ∧ (q.input v k).inForce = (s.input v k).inForce
  accounts : q.rha = s.rha
  store : q.asc = s.asc
  supply : q.spm = s.spm
  queueFull : q.lnu.flags.queueFull = s.lnu.flags.queueFull

theorem GroupOpened.trip {a : Assertion} {j : SlotId} {c d : Case} {s q t : State} (h : GroupOpened a j d q t)
    (agrees : OpeningAgrees s q) (slot : t.slot a.unit j = some c) : TripOpens a j c s t := by
  obtain rfl : firstOutCase (openedGroup a d.number q).id d = c := Option.some.inj (h.case.symm.trans slot)
  obtain ⟨longest, attained⟩ := longestFilter_longest (q.tiu.inputs.get a.unit)
  have settings := agrees.settings a.unit
  have counted := countHanded_congr (t' := t) h.counted
    ⟨agrees.accounts.symm, agrees.store.symm, agrees.supply.symm, agrees.queueFull.symm⟩ ⟨rfl, rfl, rfl⟩
  refine ⟨_, h.group, rfl, rfl, congrArg groupWindow agrees.window, rfl, rfl, fun k => ?_, ?_, rfl, rfl, rfl, h.counter,
    h.caseIds, h.groupIds, counted⟩
  · rw [← (settings k).1, ← (settings k).2]
    exact longest k
  · obtain ⟨k, filter⟩ := attained
    exact ⟨k, by rw [← (settings k).1, ← (settings k).2]; exact filter⟩

theorem setInput_settings (s : State) (u v : UnitId) (i k : InputId) (x : FilterState) :
    ((s.setInput u i { s.input u i with filter := x }).input v k).config = (s.input v k).config
      ∧ ((s.setInput u i { s.input u i with filter := x }).input v k).inForce = (s.input v k).inForce := by
  rw [State.input_setInput]
  split
  · rename_i own; rw [own.1, own.2]; exact ⟨rfl, rfl⟩
  · exact ⟨rfl, rfl⟩

theorem OpeningAgrees.trans {s m q : State} (h : OpeningAgrees s m) (h' : OpeningAgrees m q) : OpeningAgrees s q where
  window := h'.window.trans h.window
  settings v k := ⟨(h'.settings v k).1.trans (h.settings v k).1, (h'.settings v k).2.trans (h.settings v k).2⟩
  accounts := h'.accounts.trans h.accounts
  store := h'.store.trans h.store
  supply := h'.supply.trans h.supply
  queueFull := h'.queueFull.trans h.queueFull

theorem setInput_agrees (s : State) (u : UnitId) (i : InputId) (x : FilterState) :
    OpeningAgrees s (s.setInput u i { s.input u i with filter := x }) :=
  ⟨rfl, fun v k => setInput_settings s u v i k x, rfl, rfl, rfl, rfl⟩

theorem closeGroup_agrees {u : UnitId} {g : OpenGroup} {r : CloseReason} {s : State}
    (found : s.tgr.groups.get u = some g) : OpeningAgrees s (closeGroup u r s) := by
  obtain ⟨-, -, tiu, -, rha, asc, -, spm, -⟩ := closeGroup_frame u r s
  refine ⟨closeGroup_windowExp u r s, fun v k => ?_, rha, asc, spm, ?_⟩
  · rw [State.input_congr tiu]; exact ⟨rfl, rfl⟩
  · rw [(closeGroup_closes r found).flags]; rfl

section

variable {a : Assertion} {j : SlotId} {c d : Case} {g : OpenGroup} {s m o t : State}

theorem CaseMade.agrees (h : CaseMade a j d m o) : OpeningAgrees m o :=
  ⟨by rw [h.groups], fun v k => by rw [State.input_congr h.inputs]; exact ⟨rfl, rfl⟩, h.accounts, h.store, h.supply,
    h.queueFull⟩

/-- A placed trip is held by its unit, which it trips if its stops-unit item is set (R73, R90, R105). -/
theorem CaseMade.trips {n held : Nat} (made : CaseMade a j d m o) (placed : a.test = false)
    (slot : (placeCase a n held o).slot a.unit j = some c) (same : SameButGroup d c) :
    let t := evalCaseLamp (report [a.unit] (placeCase a n held o))
    (t.unit a.unit).caseHeld = true ∧ (t.unit a.unit).tripped = ((m.unit a.unit).tripped || a.stops)
      ∧ (a.stops = true → (t.unit a.unit).mode = .tripped) := by
  intro t
  obtain ⟨held, tripped, mode⟩ := reported_holding slot (by rw [same]; exact made.active)
    (by rw [same]; exact made.test.trans placed)
  rw [placeCase_unit_own placed, State.unit_congr made.units] at tripped mode
  refine ⟨held, tripped.trans ?_, fun stops => mode.trans (by rw [if_pos stops]; rfl)⟩
  cases a.stops
  · exact (Bool.or_false _).symm
  · exact (Bool.or_true _).symm

/-- A trip beyond the window of the OPEN group closes it as superseded, and opens the next (R87, R88). -/
theorem CaseMade.supersedes (made : CaseMade a j d m o) (powered : o.powered = true) (agrees : OpeningAgrees s m)
    (same : SameTables (placeByOpening a d.number (closeGroup a.unit .superseded o)) t)
    (slot : t.slot a.unit j = some c) (found : m.tgr.groups.get a.unit = some g) :
    TripOpens a j c s t ∧ t.lnu.flags.firstOutFinal = true ∧ t.lnu.unitSets.firstOutFinal.get a.unit = true
      ∧ ∃ x, t.tgr.closed.get a.unit = some x ∧ x.id = g.id ∧ x.earliest = g.earliest ∧ x.firstOut = g.firstOut
        ∧ x.members = g.members ∧ x.reason = .superseded ∧ x.closedAt = m.now := by
  rw [← made.groups] at found
  have closes := closeGroup_closes .superseded found
  have powered' : (closeGroup a.unit .superseded o).powered = true := (powered_congr (by simp)).trans powered
  have agrees' := agrees.trans (made.agrees.trans (closeGroup_agrees (r := .superseded) found))
  obtain ⟨e, sole, marked⟩ := made.sole.marked (Marked.closeGroup (u := a.unit) (n := 0) .superseded o)
  generalize closeGroup a.unit .superseded o = q at *
  rw [← marked.number] at same
  have opened := placeByOpening_opens powered' sole same
  have notices := NoticesStay.placeByOpening a e.number q
  refine ⟨opened.trip agrees' slot, ?_, ?_, ?_⟩
  · rw [same.flags]
    exact notices.flags .firstOutFinal (by rw [closes.flags]; rfl)
  · rw [same.unitSets]
    exact notices.firstOutFinal a.unit closes.unitSet
  · rw [opened.closed, ← State.now_congr made.time]
    exact closes.summary

/-- A trip of a member within the window, before the close-at, leaves the group and the marks (R84). -/
theorem CaseMade.returns (made : CaseMade a j d m o) (same : SameTables (closeIfDue a.unit (tripIfStops a o)) t)
    (slot : t.slot a.unit j = some c) (found : m.tgr.groups.get a.unit = some g) (waits : m.elapsed < g.closeAt) :
    t.tgr = m.tgr ∧ t.rha = m.rha ∧ c = d := by
  obtain ⟨tb, -, -, ct, tgr, rha, -⟩ := tripIfStops_frame a o
  rw [closeIfDue_waits (g := g) (by rw [tgr, made.groups, found])
    (by rwa [State.elapsed_congr (tb.trans made.time)])] at same
  refine ⟨same.tgr.trans (tgr.trans made.groups), same.rha.trans (rha.trans made.accounts), ?_⟩
  rw [State.slot_congr (same.ct.trans ct), made.sole.slot] at slot
  exact (Option.some.inj slot).symm

/-- The joining of a group, seen from the state before the assertion. -/
theorem GroupJoined.of_source {n : Nat} (h : GroupJoined a n c g o t) (made : CaseMade a j d m o) :
    GroupJoined a n c g m t := by
  obtain ⟨rha, counter, groupId, firstOut, former, stays, closes⟩ := h
  rw [State.elapsed_congr made.time] at stays closes
  rw [State.now_congr made.time] at closes
  rw [made.accounts] at rha
  rw [made.groups] at counter stays
  exact ⟨rha, counter, groupId, firstOut, former, stays, closes⟩

end

/-- Settles O32: the assertion makes its case, and the placing takes one of its branches. -/
theorem tripsArePlacedInGroups : Obligations.TripsArePlacedInGroups := by
  intro s u i p test held powered pending due numbers _ _ _ _ which f
  rw [execAssertionConfirmation_due powered pending due]
  generalize ha : (s.input u i).assertion u i p test = a
  have stops : f.stops = a.stops := by rw [← ha]; rfl
  have priority : f.priority = a.priority := by rw [← ha]; rfl
  obtain rfl : a.unit = u := by rw [← ha]; rfl
  obtain rfl : a.input = i := by rw [← ha]; rfl
  obtain rfl : a.stamp = p := by rw [← ha]; rfl
  obtain rfl : a.test = test := by rw [← ha]; rfl
  rw [stops, priority]
  clear ha
  have agrees := setInput_agrees s a.unit a.input .asserted
  set m := s.setInput a.unit a.input { s.input a.unit a.input with filter := .asserted }
  have groups := fun v (h : v ≠ a.unit) => takeAssertion_groups a m h
  obtain ⟨j, d, o, made, rfl, taken⟩ := takeAssertion_makes (a := a) (s := m) (held := held) numbers which
  have powered' : o.powered = true := (powered_congr made.supply).trans powered
  have marked := Marked.placeCase a d.number d.groupId o
  obtain ⟨c, found, grouped⟩ := (MarksOnly.inputCase ⟨marked.cases.imp fun _ _ r => r.same, marked.bits⟩ a.input).1 j d
    made.found
  have same := reported_sameTables a.unit (placeCase a d.number d.groupId o)
  have trips := fun placed => made.trips placed (inputCase_slot found).1 grouped
  rw [← inputCase_congr same.ct] at found
  rw [← taken] at found same trips
  generalize takeAssertion a m = t at *
  have slot := (inputCase_slot found).1
  have number : c.number = d.number := grouped.number
  have test : c.test = a.test := by rw [grouped]; exact made.test
  refine ⟨t, j, c, rfl, found, test, fun exempt => ?test, fun placed => ⟨?unit, fun v h => ⟨groups v h, ?closed⟩,
    fun none => ?opens, fun g open_ _ => ⟨fun within other => ?joins, fun within member waits => ?returns,
      fun beyond => ?supersedes⟩⟩⟩
  case test =>
    rw [placeCase_of_test exempt] at same
    rw [State.slot_congr same.ct, made.sole.slot] at slot
    exact ⟨same.tgr.trans made.groups, same.rha.trans made.accounts, congrArg (·.groupId) (Option.some.inj slot).symm⟩
  case unit => exact trips placed
  case closed => rw [same.tgr, placeCase_closed h, made.groups]; rfl
  case opens =>
    rw [placeCase_of_none placed (by rw [made.groups]; exact none)] at same
    have opened := placeByOpening_opens powered' made.sole same
    exact ⟨opened.trip (agrees.trans made.agrees) slot, opened.closed.trans (congrArg (·.closed) made.groups)⟩
  case joins =>
    rw [placeCase_of_within placed (by rw [made.groups]; exact open_) within, if_neg other] at same
    have joined := (joinGroup_joins made.sole.slot slot same).of_source made
    have moves := markMoves_iff (g := g) (a := a)
    rw [number]
    refine ⟨joinedGroup a d.number g, joinedGroup_members a d.number g, fun h => ?moved,
      fun h => joinedGroup_unmoved d.number (mt moves.mp h), joined.groupId, by rw [joined.firstOut]; exact moves,
      joined.rha, joined.counter, fun waits => ?waits, joined.closes⟩
    case moved =>
      obtain ⟨firstOut, earliest, closeAt⟩ := joinedGroup_moved d.number (moves.mpr h)
      exact ⟨firstOut, earliest, closeAt, joined.former (moves.mpr h)⟩
    case waits =>
      obtain ⟨group, closed, provisional⟩ := joined.stays waits
      exact ⟨group, closed, by rw [provisional]; exact moves⟩
  case returns =>
    rw [placeCase_of_within placed (by rw [made.groups]; exact open_) within, if_pos member] at same
    obtain ⟨tgr, rha, rfl⟩ := made.returns same slot open_ waits
    exact ⟨tgr, rha, rfl, made.marks⟩
  case supersedes =>
    rw [placeCase_of_beyond placed (by rw [made.groups]; exact open_) beyond] at same
    exact made.supersedes powered' agrees same slot open_

end Sys2Proof.Proofs
end

section
/-! PROOFS. A sample of a speed channel: what it writes of its unit, the speed it forms, and the speed state that
follows (R96 to R102). -/

namespace Sys2Proof.Proofs

open Sys2Proof.Machine Sys2Proof.Safety

/-! ### The scan (R96) -/

/-- The part with its scan moved on from a channel. -/
def scannedPast (c : Channel) (s : State) : State := { s with usm := { s.usm with scan := nextChannel c } }

theorem execSampleEvent_taken {s : State} {c : Channel} (powered : s.powered = true) (turn : s.usm.scan = c)
    (raw : BitVec 10) : exec (.sampleEvent c raw) s = .next (takeSample c raw.toNat (scannedPast c s)) := by
  show Host.Outcome.next (ite _ _ _) = _
  rw [if_pos ⟨powered, turn⟩]; rfl

theorem execSampleEvent_speed {s : State} {u : UnitId} (powered : s.powered = true) (turn : s.usm.scan = .speed u)
    (raw : BitVec 10) : exec (.sampleEvent (.speed u) raw) s
      = .next (speedSample u raw.toNat (scannedPast (.speed u) s)) := execSampleEvent_taken powered turn raw

theorem execSampleEvent_ignored {s : State} {c : Channel} (h : s.powered = false ∨ s.usm.scan ≠ c) (raw : BitVec 10) :
    exec (.sampleEvent c raw) s = .next s := by
  show Host.Outcome.next (ite _ _ _) = _
  rw [if_neg]
  rintro ⟨powered, turn⟩
  rcases h with off | other
  · rw [powered] at off; cases off
  · exact other turn

theorem channelNumber_nextChannel (c : Channel) : channelNumber (nextChannel c) = channelNumber c % 9 + 1 := by
  rcases c with u | _
  · cases u <;> rfl
  · rfl

/-! ### The record of a unit after a sample (R97, R98) -/

theorem unit_setUnit_own (s : State) (u : UnitId) (r : UnitRecord) : (s.setUnit u r).unit u = r :=
  (State.unit_setUnit s u u r).trans (if_pos rfl)

/-- The record of a unit with the raw and the corrected value of a sample (R97). -/
def rawSeen (r : UnitRecord) (raw : Nat) : UnitRecord :=
  { r with lastRaw := some raw, lastCorrected := some (r.corrected raw) }

/-- The record of a unit with the values of a valid sample (R97, R98). -/
def speedSeen (r : UnitRecord) (raw : Nat) : UnitRecord :=
  { rawSeen r raw with lastSpeed := some (speedOf (r.corrected raw)) }

theorem isValid_iff {c : Nat} : isValid c = true ↔ 164 ≤ c := decide_eq_true_iff

/-- The speed of a valid sample is brought into 0 to 1,500 (R98). -/
theorem speedOf_eq (c : Nat) :
    speedOf c = min 1500 (max 0 ((((c : Int) - 205) * 1500).tdiv 818)).toNat := by
  rw [speedOf, Int.mul_comm]; omega

section
variable {u : UnitId} {raw : Nat} {s : State}

theorem speedSample_invalidLost (lost : (s.unit u).lost = true) (invalid : (s.unit u).corrected raw < 164) :
    speedSample u raw s = s.setUnit u { rawSeen (s.unit u) raw with lossRun := 0 } :=
  (if_pos lost).trans (if_neg (mt isValid_iff.mp (Nat.not_le.mpr invalid)))

theorem speedSample_invalidSound (sound : (s.unit u).lost = false) (invalid : (s.unit u).corrected raw < 164)
    (run : (s.unit u).lossRun < 2) :
    speedSample u raw s = s.setUnit u { rawSeen (s.unit u) raw with lossRun := (s.unit u).lossRun + 1 } :=
  (if_neg (Bool.eq_false_iff.mp sound)).trans
    ((if_neg (mt isValid_iff.mp (Nat.not_le.mpr invalid))).trans (if_pos run))

theorem speedSample_loses (sound : (s.unit u).lost = false) (invalid : (s.unit u).corrected raw < 164)
    (run : 2 ≤ (s.unit u).lossRun) : speedSample u raw s
      = raiseFor .speedSignalLost u (s.setUnit u { rawSeen (s.unit u) raw with lost := true, lossRun := 0 }) :=
  (if_neg (Bool.eq_false_iff.mp sound)).trans
    ((if_neg (mt isValid_iff.mp (Nat.not_le.mpr invalid))).trans (if_neg (Nat.not_lt.mpr run)))

theorem speedSample_evaluates (sound : (s.unit u).lost = false) (valid : 164 ≤ (s.unit u).corrected raw) :
    speedSample u raw s
      = evalSpeed u { speedSeen (s.unit u) raw with lossRun := 0 } (speedOf ((s.unit u).corrected raw)) s :=
  (if_neg (Bool.eq_false_iff.mp sound)).trans (if_pos (isValid_iff.mpr valid))

theorem speedSample_validLost (lost : (s.unit u).lost = true) (valid : 164 ≤ (s.unit u).corrected raw)
    (run : (s.unit u).lossRun < 2) :
    speedSample u raw s = s.setUnit u { speedSeen (s.unit u) raw with lossRun := (s.unit u).lossRun + 1 } :=
  (if_pos lost).trans ((if_pos (isValid_iff.mpr valid)).trans (if_pos run))

theorem speedSample_recovers (lost : (s.unit u).lost = true) (valid : 164 ≤ (s.unit u).corrected raw)
    (run : 2 ≤ (s.unit u).lossRun) : speedSample u raw s
      = recoverSpeed u { speedSeen (s.unit u) raw with lost := false, lossRun := 0 }
          (speedOf ((s.unit u).corrected raw)) (raiseFor .speedSignalBack u s) :=
  (if_pos lost).trans ((if_pos (isValid_iff.mpr valid)).trans (if_neg (Nat.not_lt.mpr run)))

end

/-! ### The speed state settled (R100 to R102, R104, R105) -/

/-- The record of a unit after the start check, the TRIPPED clearing check and the evaluation of its mode. -/
def settledRecord (held : SpeedState) (r : UnitRecord) : UnitRecord :=
  UnitRecord.evaluated (UnitRecord.checkTripped { r with armed := r.armed && !countsStart held r })

theorem settledRecord_eq (held : SpeedState) (r : UnitRecord) :
    let clears := r.tripped && r.speed == .standstill && !r.caseHeld
    settledRecord held r = { r with
      armed := r.armed && !countsStart held r
      tripped := r.tripped && !clears
      mode := modeOf (r.tripped && !clears) r.breaker.stable r.pumpMode.stable r.speed } := by
  simp only [settledRecord, UnitRecord.evaluated, derivedMode_eq, checkTripped_eq]

theorem settleSpeed_counts {held : SpeedState} {r : UnitRecord} (counted : countsStart held r = true) (u : UnitId)
    (s : State) : settleSpeed u held r s = countOne u .starts (s.setUnit u (settledRecord held r)) := if_pos counted

theorem settleSpeed_uncounted {held : SpeedState} {r : UnitRecord} (uncounted : countsStart held r = false)
    (u : UnitId) (s : State) : settleSpeed u held r s = s.setUnit u (settledRecord held r) :=
  if_neg (Bool.eq_false_iff.mp uncounted)

/-- Whether a start is counted or not, the units after it are those with the settled record (R102). -/
theorem settleSpeed_usm (u : UnitId) (held : SpeedState) (r : UnitRecord) (s : State) :
    (settleSpeed u held r s).usm = (s.setUnit u (settledRecord held r)).usm := by
  cases counted : countsStart held r with
  | true => simp only [settleSpeed_counts counted, countOne_frame]
  | false => rw [settleSpeed_uncounted counted]

theorem settleSpeed_unit (u : UnitId) (held : SpeedState) (r : UnitRecord) (s : State) :
    (settleSpeed u held r s).unit u = settledRecord held r :=
  (State.unit_congr (settleSpeed_usm u held r s) u).trans (unit_setUnit_own s u _)

/-- A start counted as a unit settles is handed to its STARTS account (R102, R117). -/
theorem settleSpeed_hands {u : UnitId} {held : SpeedState} {r : UnitRecord} {s m : State}
    (counted : countsStart held r = true) (powered : s.powered = true)
    (same : s.rha = m.rha ∧ s.asc = m.asc ∧ s.spm = m.spm ∧ s.lnu.flags.queueFull = m.lnu.flags.queueFull) :
    CountHanded u .starts s (settleSpeed u held r m) := by
  obtain ⟨-, -, spm, -⟩ := id same
  have works : (m.setUnit u (settledRecord held r)).powered = true := (powered_congr spm.symm).trans powered
  rw [settleSpeed_counts counted]
  exact countHanded_congr (countOne_hands works rfl) same ⟨rfl, rfl, rfl⟩

theorem nextSpeed_known (b : Bands) (held : SpeedState) (v : Nat) : nextSpeed b held v ≠ .unknown := by
  unfold nextSpeed
  (repeat' split) <;> simp

section
variable {r : UnitRecord} {v : Nat}

theorem evalSpeed_stays (same : nextSpeed r.bands r.speed v = r.speed) (u : UnitId) (s : State) :
    evalSpeed u r v s = s.setUnit u r := if_pos same

theorem evalSpeed_moves (moved : nextSpeed r.bands r.speed v ≠ r.speed) (u : UnitId) (s : State) :
    evalSpeed u r v s = settleSpeed u r.speed (r.enter (nextSpeed r.bands r.speed v)) s := if_neg moved

end

/-- An evaluation of the speed state writes the record as it is, or settled (R100). -/
theorem evalSpeed_writes (u : UnitId) (r : UnitRecord) (v : Nat) (s : State) :
    (evalSpeed u r v s).usm = (s.setUnit u r).usm
      ∨ (evalSpeed u r v s).usm
        = (s.setUnit u (settledRecord r.speed (r.enter (nextSpeed r.bands r.speed v)))).usm := by
  by_cases same : nextSpeed r.bands r.speed v = r.speed
  · exact .inl (congrArg State.usm (evalSpeed_stays same u s))
  · exact .inr (by rw [evalSpeed_moves same, settleSpeed_usm])

/-- A start is counted where AT_SPEED is entered armed (R102). -/
theorem countsStart_enter (r : UnitRecord) {new : SpeedState} (moved : new ≠ r.speed) :
    countsStart r.speed (r.enter new) = (new == .atSpeed && r.armed) := by
  have elsewhere : (r.speed != new) = true := bne_iff_ne.mpr moved.symm
  cases new with
  | atSpeed =>
    show ((r.speed != .atSpeed) && true && (r.armed || (false && r.speed != .standstill))) = (true && r.armed)
    simp [elsewhere]
  | unknown | standstill | rolling => exact congrArg (· && _) (Bool.and_false _)

/-- A change of the speed state arms the start in STANDSTILL, keeps it as it was in ROLLING and disarms it in AT_SPEED
(R102). -/
theorem armed_enter (r : UnitRecord) {new : SpeedState} (moved : new ≠ r.speed) (known : new ≠ .unknown) :
    ((r.enter new).armed && !(new == .atSpeed && r.armed)) = (new == .standstill || (r.armed && new == .rolling)) := by
  have elsewhere : (r.speed != new) = true := bne_iff_ne.mpr moved.symm
  rw [UnitRecord.enter]
  dsimp only
  generalize r.armed = armed
  cases new with
  | unknown => exact absurd rfl known
  | standstill => rw [elsewhere]; cases armed <;> rfl
  | rolling | atSpeed => cases armed <;> rfl

theorem settledRecord_enter (r : UnitRecord) {new : SpeedState} (moved : new ≠ r.speed) (known : new ≠ .unknown) :
    let clears := r.tripped && new == .standstill && !r.caseHeld
    settledRecord r.speed (r.enter new) = { r with
      speed := new
      armed := new == .standstill || (r.armed && new == .rolling)
      tripped := r.tripped && !clears
      mode := modeOf (r.tripped && !clears) r.breaker.stable r.pumpMode.stable new } := by
  rw [settledRecord_eq, countsStart_enter r moved, armed_enter r moved known]
  rfl

/-- The record of a unit that enters a speed state as its signal comes back: armed in STANDSTILL alone (R101). -/
def recoveredRecord (r : UnitRecord) (new : SpeedState) : UnitRecord :=
  { r.enter new with armed := (r.enter new).armed && new == .standstill }

theorem recoverSpeed_settles (u : UnitId) (r : UnitRecord) (v : Nat) (s : State) : recoverSpeed u r v s
    = settleSpeed u r.speed (recoveredRecord r (nextSpeed r.bands r.speed v)) s := rfl

theorem armed_recovered (r : UnitRecord) (new : SpeedState) :
    (recoveredRecord r new).armed = (new == .standstill && (r.armed || r.speed != .standstill)) := by
  cases new with
  | standstill => exact Bool.and_true _
  | unknown | rolling | atSpeed => exact Bool.and_false _

/-- No start is counted as a signal comes back (R101). -/
theorem countsStart_recovered (held : SpeedState) (r : UnitRecord) (new : SpeedState) :
    countsStart held (recoveredRecord r new) = false := by
  rw [countsStart, armed_recovered]
  cases new with
  | atSpeed => exact Bool.and_false _
  | unknown | standstill | rolling => exact congrArg (· && _) (Bool.and_false _)

theorem settledRecord_recovered (r : UnitRecord) (new : SpeedState) :
    let clears := r.tripped && new == .standstill && !r.caseHeld
    settledRecord r.speed (recoveredRecord r new) = { r with
      speed := new
      armed := new == .standstill && (r.armed || r.speed != .standstill)
      tripped := r.tripped && !clears
      mode := modeOf (r.tripped && !clears) r.breaker.stable r.pumpMode.stable new } := by
  rw [settledRecord_eq, countsStart_recovered, armed_recovered, Bool.not_false, Bool.and_true]
  rfl

/-! ### What every sample writes (R96 to R98) -/

/-- A unit's record has taken the values of a sample: an invalid one leaves its last valid speed and its speed state
(R97, R98, R100). -/
structure TookValues (r : UnitRecord) (raw : Nat) (r' : UnitRecord) : Prop where
  lastRaw : r'.lastRaw = some raw
  lastCorrected : r'.lastCorrected = some (r.corrected raw)
  invalid : r.corrected raw < 164 → r'.lastSpeed = r.lastSpeed ∧ r'.speed = r.speed
  valid : 164 ≤ r.corrected raw → r'.lastSpeed = some (speedOf (r.corrected raw))

theorem tookValues_rawSeen {r : UnitRecord} {raw : Nat} (invalid : r.corrected raw < 164) (lost : Bool) (run : Nat) :
    TookValues r raw { rawSeen r raw with lost := lost, lossRun := run } :=
  ⟨rfl, rfl, fun _ => ⟨rfl, rfl⟩, fun valid => absurd valid (Nat.not_le.mpr invalid)⟩

theorem tookValues_speedSeen {r : UnitRecord} {raw : Nat} (valid : 164 ≤ r.corrected raw) (lost : Bool) (run : Nat) :
    TookValues r raw { speedSeen r raw with lost := lost, lossRun := run } :=
  ⟨rfl, rfl, fun invalid => absurd valid (Nat.not_le.mpr invalid), fun _ => rfl⟩

theorem tookValues_settled {r x : UnitRecord} {raw : Nat} (valid : 164 ≤ r.corrected raw) (seen : TookValues r raw x)
    (held : SpeedState) (new : SpeedState) (armed : Bool) :
    TookValues r raw (settledRecord held { x with speed := new, armed := armed }) := by
  rw [settledRecord_eq]
  exact ⟨seen.lastRaw, seen.lastCorrected, fun invalid => absurd valid (Nat.not_le.mpr invalid), seen.valid⟩

/-- A sample writes the record of its own unit, with the values of the sample (R97, R98). -/
theorem speedSample_writes (u : UnitId) (raw : Nat) (s : State) :
    ∃ r, (speedSample u raw s).usm = (s.setUnit u r).usm ∧ TookValues (s.unit u) raw r := by
  rcases Nat.lt_or_ge ((s.unit u).corrected raw) 164 with invalid | valid
  · have values := tookValues_rawSeen invalid
    cases lost : (s.unit u).lost with
    | true => exact ⟨_, congrArg State.usm (speedSample_invalidLost lost invalid), values _ _⟩
    | false =>
      rcases Nat.lt_or_ge (s.unit u).lossRun 2 with run | run
      · exact ⟨_, congrArg State.usm (speedSample_invalidSound lost invalid run), values _ _⟩
      · rw [speedSample_loses lost invalid run]
        exact ⟨_, rfl, values _ _⟩
  · have values := tookValues_speedSeen valid
    cases lost : (s.unit u).lost with
    | true =>
      rcases Nat.lt_or_ge (s.unit u).lossRun 2 with run | run
      · exact ⟨_, congrArg State.usm (speedSample_validLost lost valid run), values _ _⟩
      · rw [speedSample_recovers lost valid run, recoverSpeed_settles, settleSpeed_usm]
        exact ⟨_, rfl, tookValues_settled valid (values _ _) _ _ _⟩
    | false =>
      rw [speedSample_evaluates lost valid]
      rcases evalSpeed_writes u { speedSeen (s.unit u) raw with lossRun := 0 } (speedOf ((s.unit u).corrected raw)) s
        with stays | settles
      · exact ⟨_, stays, values _ _⟩
      · exact ⟨_, settles, tookValues_settled valid (values _ _) _ _ _⟩

/-- A sample reaches the units, the accounts, the store and the notices alone (R96 to R102). -/
theorem speedSample_only (u : UnitId) (raw : Nat) (s : State) : speedSample u raw s = { s with
    usm := (speedSample u raw s).usm, rha := (speedSample u raw s).rha, asc := (speedSample u raw s).asc
    lnu := (speedSample u raw s).lnu } := by
  obtain ⟨tb, riu, tiu, ct, tgr, shc, spm, pending, -⟩ := speedSample_frame u raw s
  exact State.ext tb riu tiu ct tgr rfl rfl rfl shc rfl spm pending

/-! ### The statements -/

/-- Settles O36: the scan by its next channel, and the unit's record by the validity of the sample. -/
theorem sampleFormsTheSpeed : Obligations.SampleFormsTheSpeed := by
  refine ⟨fun s c raw => ⟨fun powered turn => ⟨_, execSampleEvent_taken powered turn raw, ?scan⟩,
    fun off => execSampleEvent_ignored off raw⟩, fun s u raw powered turn => ?speed⟩
  case scan => rw [takeSample_scan]; exact channelNumber_nextChannel c
  case speed =>
    intro r c
    let m := scannedPast (.speed u) s
    obtain ⟨r', usm, values⟩ := speedSample_writes u raw.toNat m
    have unit (v : UnitId) : (speedSample u raw.toNat m).unit v = if v = u then r' else m.unit v :=
      (State.unit_congr usm v).trans (State.unit_setUnit _ _ _ _)
    have own : (speedSample u raw.toNat m).unit u = r' := (unit u).trans (if_pos rfl)
    have written {x : UnitRecord} (h : (speedSample u raw.toNat m).usm = (m.setUnit u x).usm) : r' = x :=
      own.symm.trans ((State.unit_congr h u).trans (unit_setUnit_own m u x))
    refine ⟨_, execSampleEvent_speed powered turn raw, ?_⟩
    rw [own]
    refine ⟨values.lastRaw, values.lastCorrected, fun invalid => ?invalid,
      fun valid => (values.valid valid).trans (congrArg some (speedOf_eq c)),
      fun v other => (unit v).trans (if_neg other), speedSample_only u raw.toNat m⟩
    obtain ⟨lastSpeed, speed⟩ := values.invalid invalid
    refine ⟨lastSpeed, speed, fun lost => ?lost, fun sound run => ?sound, fun sound run => ?loses⟩
    case lost =>
      rw [written (congrArg State.usm (speedSample_invalidLost (s := m) lost invalid))]
      exact ⟨lost, rfl⟩
    case sound =>
      rw [written (congrArg State.usm (speedSample_invalidSound (s := m) sound invalid run))]
      exact ⟨sound, rfl⟩
    case loses =>
      have loss := speedSample_loses (s := m) sound invalid run
      rw [written (x := { rawSeen r raw.toNat with lost := true, lossRun := 0 }) (by rw [loss]; rfl), loss]
      exact ⟨rfl, rfl, rfl, (PerUnit.get_set _ _ _ _).trans (if_pos rfl)⟩

/-- Settles O37: a sound signal's sample by what the speed state becomes, a lost one's by its run. -/
theorem speedStatesFollowTheSamples : Obligations.SpeedStatesFollowTheSamples := by
  intro s u raw powered turn valid r v seen new clears
  let m := scannedPast (.speed u) s
  let x : UnitRecord := { seen with lossRun := 0 }
  let y : UnitRecord := { seen with lost := false, lossRun := 0 }
  have known : new ≠ .unknown := nextSpeed_known r.bands r.speed v
  have evaluates (sound : r.lost = false) : speedSample u raw.toNat m = evalSpeed u x v m :=
    speedSample_evaluates sound valid
  have stays (sound : r.lost = false) (same : new = r.speed) : speedSample u raw.toNat m = m.setUnit u x :=
    (evaluates sound).trans (evalSpeed_stays (r := x) same u m)
  have moves (sound : r.lost = false) (moved : new ≠ r.speed) :
      speedSample u raw.toNat m = settleSpeed u r.speed (x.enter new) m :=
    (evaluates sound).trans (evalSpeed_moves (r := x) moved u m)
  have recovers (lost : r.lost = true) (run : 2 ≤ r.lossRun) : speedSample u raw.toNat m
      = settleSpeed u r.speed (recoveredRecord y new) (raiseFor .speedSignalBack u m) :=
    (speedSample_recovers (s := m) lost valid run).trans (recoverSpeed_settles u y v _)
  have counts (moved : new ≠ r.speed) : countsStart r.speed (x.enter new) = (new == .atSpeed && r.armed) :=
    countsStart_enter x moved
  clear_value new
  refine ⟨_, execSampleEvent_speed powered turn raw, fun sound same => ?stays, fun sound moved => ?moves,
    fun sound atSpeed running armed => ?counts, fun sound uncounted => ?uncounted, fun lost run => ?holds,
    fun lost run => ?recovers⟩
  case stays =>
    rw [stays sound same]
    exact ⟨unit_setUnit_own _ _ _, rfl, rfl⟩
  case moves =>
    rw [moves sound moved, settleSpeed_unit]
    exact settledRecord_enter x moved known
  case counts =>
    have moved : new ≠ r.speed := atSpeed ▸ running.symm
    rw [moves sound moved]
    refine settleSpeed_hands ?_ powered ⟨rfl, rfl, rfl, rfl⟩
    rw [counts moved, atSpeed, armed]; rfl
  case uncounted =>
    by_cases same : new = r.speed
    · rw [stays sound same]; rfl
    · rw [moves sound same, settleSpeed_uncounted]
      · rfl
      · rw [counts same]
        rcases uncounted with elsewhere | unarmed
        · rw [beq_eq_false_iff_ne.mpr elsewhere]; rfl
        · rw [unarmed, Bool.and_false]
  case holds =>
    rw [speedSample_validLost (s := m) lost valid run]
    exact ⟨unit_setUnit_own _ _ _, rfl, rfl⟩
  case recovers =>
    rw [recovers lost run, settleSpeed_uncounted (countsStart_recovered _ _ _), unit_setUnit_own]
    exact ⟨settledRecord_recovered y new, rfl, rfl, (PerUnit.get_set _ _ _ _).trans (if_pos rfl)⟩

end Sys2Proof.Proofs
end

section
/-! PROOFS. The contacts of a unit, and the commands that write its bands and its calibration (R97, R103, R104, R108,
R109). -/

namespace Sys2Proof.Proofs

open Sys2Proof.Machine Sys2Proof.Safety

/-! ### Contacts (R103, R104) -/

theorem contact_setContact (r : UnitRecord) (k : ContactId) (c : Contact) : (r.setContact k c).contact k = c := by
  cases k <;> rfl

/-- A contact written leaves the record but for its contacts. -/
theorem setContact_only (r : UnitRecord) (k : ContactId) (c : Contact) : r.setContact k c
    = { r with breaker := (r.setContact k c).breaker, pumpMode := (r.setContact k c).pumpMode } := by
  cases k <;> rfl

section
variable {s : State} {u : UnitId} {k : ContactId} {level : Bool}

theorem execUnitContactEdge_edge (powered : s.powered = true) (edge : level ≠ ((s.unit u).contact k).level) :
    exec (.unitContactEdge u k level) s = .next (s.setUnit u
      ((s.unit u).setContact k (((s.unit u).contact k).edge level s.elapsed))) := by
  show Host.Outcome.next (ite _ _ _) = _
  rw [if_neg edge.symm, if_pos powered]

theorem execUnitContactConfirmation_due (powered : s.powered = true) (due : Due s (.unitContactConfirmation u k)) :
    exec (.unitContactConfirmation u k) s = .next (s.setUnit u ((s.unit u).confirm k)) :=
  congrArg Host.Outcome.next (if_pos ((contactDue_iff powered u k).mpr due))

end

theorem contact_edge_begins {c : Contact} (settled : c.pending = none) (level : Bool) (now : Nat) :
    c.edge level now = { c with level := level, pending := some now } := by
  rw [Contact.edge, settled]

theorem contact_edge_abandons {c : Contact} {p : Nat} (pending : c.pending = some p) (now : Nat) :
    c.edge c.stable now = { c with level := c.stable, pending := none } := by
  rw [Contact.edge, pending]; exact congrArg _ (if_pos rfl)

/-- A confirmation takes the level of its contact and evaluates the mode (R103, R104). -/
theorem confirm_confirms (r : UnitRecord) (k : ContactId) :
    (r.confirm k).contact k = { r.contact k with stable := (r.contact k).level, pending := none }
      ∧ (r.confirm k).mode
        = modeOf r.tripped (r.confirm k).breaker.stable (r.confirm k).pumpMode.stable r.speed
      ∧ r.confirm k = { r with
          breaker := (r.confirm k).breaker, pumpMode := (r.confirm k).pumpMode, mode := (r.confirm k).mode } := by
  refine ⟨?_, ?_, ?_⟩
  · cases k <;> rfl
  · refine (derivedMode_eq _).trans ?_
    cases k <;> rfl
  · cases k <;> rfl

/-- Settles O38: the edges by whether a change is pending, and the confirmation of a due one. -/
theorem unitContactsAreFiltered : Obligations.UnitContactsAreFiltered := by
  intro s u k powered r c
  refine ⟨fun level edge settled => ?begins, fun level p edge pending back => ?abandons, fun p pending due => ?confirms⟩
  case begins => rw [execUnitContactEdge_edge powered edge, contact_edge_begins settled]
  case abandons => rw [execUnitContactEdge_edge powered edge, back, contact_edge_abandons pending]
  case confirms => exact ⟨_, execUnitContactConfirmation_due powered ⟨p, pending, due⟩, confirm_confirms r k⟩

/-! ### SET_SPEED_BANDS (R108) -/

theorem orderBands_ordered (on off aOn aOff : Nat) : BandsOrdered (orderBands on off aOn aOff) := by
  simp only [BandsOrdered, orderBands, clamp]; omega

/-- The status of a request whose settings are echoed as they are applied (R177). -/
theorem okOrClamped_bands (b : Bands) (on off aOn aOff : Nat) :
    okOrClamped (b != { rollingOn := on, rollingOff := off, atSpeedOn := aOn, atSpeedOff := aOff })
      = if b.rollingOn = on ∧ b.rollingOff = off ∧ b.atSpeedOn = aOn ∧ b.atSpeedOff = aOff then .ok else .clamped := by
  simp only [okOrClamped, bne_iff_ne, ne_eq, Bands.ext_iff, ite_not]

theorem exists_unitNumber : ∀ {k : Nat}, k ≠ 0 → k ≤ 8 → ∃ u, k = unitNumber u
  | 1, _, _ => ⟨.u1, rfl⟩
  | 2, _, _ => ⟨.u2, rfl⟩
  | 3, _, _ => ⟨.u3, rfl⟩
  | 4, _, _ => ⟨.u4, rfl⟩
  | 5, _, _ => ⟨.u5, rfl⟩
  | 6, _, _ => ⟨.u6, rfl⟩
  | 7, _, _ => ⟨.u7, rfl⟩
  | 8, _, _ => ⟨.u8, rfl⟩

theorem unitNumber_inj {u v : UnitId} : unitNumber u = unitNumber v ↔ u = v := by
  refine ⟨fun h => ?_, congrArg unitNumber⟩
  exact Option.some.inj ((unitOf?_unitNumber rfl).symm.trans (unitOf?_unitNumber h))

/-- The bands written to every unit, or to the one named (R108). -/
theorem askSetSpeedBands_writes {k : Nat} (within : k ≤ 8) (on off aOn aOff : Nat) (s : State) :
    let b := orderBands on off aOn aOff
    ∃ m, askSetSpeedBands k on off aOn aOff s = (m,
        { status :=
            if b.rollingOn = on ∧ b.rollingOff = off ∧ b.atSpeedOn = aOn ∧ b.atSpeedOff = aOff then .ok else .clamped
          body := bandBytes b })
      ∧ (∀ u, m.unit u = if k = 0 ∨ k = unitNumber u then { s.unit u with bands := b } else s.unit u)
      ∧ m = { s with usm := { s.usm with units := m.usm.units } } := by
  intro b
  simp only [askSetSpeedBands, bandsAnswer, okOrClamped_bands]
  by_cases every : k = 0
  · rw [if_pos every]
    refine ⟨_, rfl, fun u => ?_, rfl⟩
    rw [if_pos (.inl every)]
    exact PerUnit.get_map _ _ _
  · obtain ⟨v, rfl⟩ := exists_unitNumber every within
    rw [if_neg every, unitOf?_unitNumber rfl]
    refine ⟨_, rfl, fun u => ?_, rfl⟩
    simp only [State.unit_setUnit, every, unitNumber_inj, false_or, eq_comm (a := v)]
    split
    · rename_i own; rw [own]; rfl
    · rfl

theorem askSetSpeedBands_refused {k : Nat} (beyond : 8 < k) (on off aOn aOff : Nat) (s : State) :
    askSetSpeedBands k on off aOn aOff s = (s, refuse .outOfRange) := by
  simp only [askSetSpeedBands, if_neg (Nat.ne_zero_of_lt beyond), unitOf?_eq_none (.inr beyond)]

/-- Settles O39: the bands in order, and what is answered for a selector in range and beyond it. -/
theorem setSpeedBandsOrdersThem : Obligations.SetSpeedBandsOrdersThem := by
  intro s k on off aOn aOff taken b
  refine ⟨orderBands_ordered _ _ _ _, ⟨?off, rfl, rfl, rfl⟩, fun beyond => ?refused, fun within => ?written⟩
  case off => exact clamp_zero _ _
  case refused => exact next_serve taken (askSetSpeedBands_refused beyond _ _ _ _ s)
  case written =>
    obtain ⟨m, act, units, only⟩ := askSetSpeedBands_writes within on.toNat off.toNat aOn.toNat aOff.toNat s
    refine ⟨_, next_serve taken act, replied_sendReply ?_, units, ?_⟩ <;> rw [only]
    exact ⟨rfl, rfl, rfl⟩

/-! ### SET_SPEED_CAL (R97, R109) -/

theorem askSetSpeedCal_eq {k x : Nat} {u : UnitId} {minus : Bool} (hu : unitOf? k = some u)
    (hx : flagOf? x = some minus) (m : Nat) (s : State) :
    askSetSpeedCal k x m s = (s.setUnit u { s.unit u with calMinus := minus, calMagnitude := min m 7 },
      { status := if min m 7 = m then .ok else .clamped, body := toBytes 1 minus.toNat ++ toBytes 1 (min m 7) }) := by
  simp only [askSetSpeedCal, hu, hx, clamp_zero, okOrClamped_ne]

theorem askSetSpeedCal_refused {k x : Nat} (h : k = 0 ∨ 8 < k ∨ 1 < x) (m : Nat) (s : State) :
    askSetSpeedCal k x m s = (s, refuse .outOfRange) := by
  unfold askSetSpeedCal
  split
  · rename_i hk hx
    rcases h with h | h | h
    · rw [unitOf?_eq_none (.inl h)] at hk; cases hk
    · rw [unitOf?_eq_none (.inr h)] at hk; cases hk
    · rw [flagOf?_of_gt h] at hx; cases hx
  · rfl

/-- A sign code that has a meaning is echoed as it was sent (R109). -/
theorem toNat_sign {x : Byte} (h : x.toNat ≤ 1) : (x == 1#8).toNat = x.toNat := by
  by_cases minus : x = 1#8
  · rw [minus]; rfl
  · have other : x.toNat ≠ 1 := fun one => minus (BitVec.eq_of_toNat_eq one)
    have plus : x.toNat = 0 := by omega
    rw [beq_eq_false_iff_ne.mpr minus, plus]; rfl

/-- With a magnitude of 0 a sample of ten bits stays raw (R97). -/
theorem corrected_uncalibrated {r : UnitRecord} (h : r.calMagnitude = 0) (raw : BitVec 10) :
    r.corrected raw.toNat = raw.toNat := by
  have width := raw.isLt
  simp only [UnitRecord.corrected, h, Nat.sub_zero, Nat.add_zero, ite_self]
  omega

theorem powered_of_listening {s : State} (h : s.listening = true) : s.powered = true := by
  simp only [State.listening, Bool.and_eq_true] at h
  exact h.1.1

/-- Settles O40: what SET_SPEED_CAL answers in RUN, what hold-up answers to it, and how a sample is corrected. -/
theorem setSpeedCalWritesTheOffset : Obligations.SetSpeedCalWritesTheOffset := by
  intro s k x m listens
  refine ⟨fun run u hu hx => ?written, fun run refused => ?refused, fun holdup => ?holdup, fun u raw turn => ?corrected⟩
  case written =>
    have act := askSetSpeedCal_eq (unitOf?_unitNumber hu) (flagOf?_of_le hx) m.toNat s
    rw [toNat_sign hx] at act
    exact ⟨_, next_serve ⟨listens, run⟩ act, sendReply_answered _ _ rfl⟩
  case refused =>
    have act := askSetSpeedCal_refused refused m.toNat s
    exact ⟨_, next_serve ⟨listens, run⟩ act, sendReply_answered _ _ rfl⟩
  case holdup => exact ⟨_, congrArg Host.Outcome.next (serve_holdup listens holdup), sendReply_answered _ _ rfl⟩
  case corrected =>
    let q := scannedPast (.speed u) s
    obtain ⟨r, usm, values⟩ := speedSample_writes u raw.toNat q
    have corrected : ((speedSample u raw.toNat q).unit u).lastCorrected = some ((s.unit u).corrected raw.toNat) := by
      rw [State.unit_congr usm, unit_setUnit_own]; exact values.lastCorrected
    exact ⟨_, execSampleEvent_speed (powered_of_listening listens) turn raw, corrected,
      fun zero => corrected.trans (congrArg some (corrected_uncalibrated zero raw))⟩

end Sys2Proof.Proofs
end

section
/-! PROOFS. The Supply Monitor: PFI and its filter, the supply readings, the entry to HOLDUP and the restore timer
(R107, R193 to R195). -/

namespace Sys2Proof.Proofs

open Sys2Proof.Machine Sys2Proof.Safety

/-! ### The entry to HOLDUP (R194) -/

theorem enterHoldup_notice (s : State) : (enterHoldup s).lnu.flags.holdup = true :=
  (NoticesStay.commitTrigger _).flags .holdup rfl

/-- The entry to HOLDUP reaches the accounts, the store, the notices and the Supply Monitor alone. -/
theorem enterHoldup_only (s : State) : enterHoldup s = { s with
    rha := (enterHoldup s).rha, asc := (enterHoldup s).asc, lnu := (enterHoldup s).lnu
    spm := (enterHoldup s).spm } := by
  obtain ⟨tb, riu, tiu, ct, tgr, usm, shc, pending, -⟩ := enterHoldup_frame s
  exact State.ext tb riu tiu ct tgr usm rfl rfl shc rfl rfl pending

/-! ### PFI (R193 to R195) -/

/-- The part whose PFI has a level confirmed (R193). -/
def pfiConfirmed (level : Bool) (s : State) : State :=
  { s with spm := { s.spm with pfiStable := level, pfiPending := none } }

section
variable {s : State} (powered : s.powered = true)
include powered

theorem execPfiEdge_edge {level : Bool} (edge : level ≠ s.spm.pfiLevel) :
    exec (.pfiEdge level) s = .next { s with spm := s.spm.edge level s.elapsed } := by
  show Host.Outcome.next (ite _ _ _) = _
  rw [if_neg edge.symm, if_pos powered]

theorem execPfiConfirmation_due (due : Due s .pfiConfirmation) {level : Bool} (pin : s.spm.pfiLevel = level) :
    exec .pfiConfirmation s = .next (takePfi (pfiConfirmed level s)) := by
  rw [← pin]
  exact congrArg Host.Outcome.next (if_pos ((pfiDue_iff powered).mpr due))

theorem execRestoreExpiry_due (due : Due s .restoreExpiry) : exec .restoreExpiry s
    = .next { s with spm := { s.spm with supply := .run, restoreBy := none, lowRun := 0 } } :=
  congrArg Host.Outcome.next (if_pos ((restoreDue_iff powered).mpr due))

end

theorem spm_edge_begins {x : Spm} (settled : x.pfiPending = none) (level : Bool) (now : Nat) :
    x.edge level now = { x with pfiLevel := level, pfiPending := some now } := by
  rw [Spm.edge, settled]

theorem spm_edge_abandons {x : Spm} {e : Nat} (pending : x.pfiPending = some e) (now : Nat) :
    x.edge x.pfiStable now = { x with pfiLevel := x.pfiStable, pfiPending := none } := by
  simp only [Spm.edge, pending, if_true]

section
variable {s : State}

theorem startRestore_stopped (stopped : s.spm.restoreBy = none) :
    startRestore s = { s with spm := { s.spm with restoreBy := some (s.elapsed + 1000000) } } := by
  simp only [startRestore, stopped]

theorem startRestore_running (running : s.spm.restoreBy ≠ none) : startRestore s = s := by
  obtain ⟨e, timer⟩ := Option.ne_none_iff_exists'.mp running
  simp only [startRestore, timer]

theorem takePfi_enters (run : s.spm.supply = .run) (asserted : s.spm.pfiStable = true) : takePfi s = enterHoldup s := by
  simp only [takePfi, run, asserted, if_true]

theorem takePfi_stops (holdup : s.spm.supply = .holdup) (asserted : s.spm.pfiStable = true) :
    takePfi s = stopRestore s := by
  simp only [takePfi, holdup, asserted, if_true]

/-- The supply may come back by the last reading: the part is in HOLDUP and the reading is 95.0 V or more (R195). -/
def LastReadingSound (s : State) : Prop := s.spm.supply = .holdup ∧ s.usm.supplyReading.any (950 ≤ ·) = true

theorem takePfi_starts (released : s.spm.pfiStable = false) (sound : LastReadingSound s) :
    takePfi s = startRestore s := by
  obtain ⟨holdup, reading⟩ := sound
  cases last : s.usm.supplyReading with
  | none => rw [last] at reading; cases reading
  | some v =>
    rw [last] at reading
    have high : isSound v = true := reading
    simp only [takePfi, holdup, released, last, high]; rfl

theorem takePfi_rests (released : s.spm.pfiStable = false) (below : ¬ LastReadingSound s) : takePfi s = s := by
  cases supply : s.spm.supply with
  | run => simp only [takePfi, supply, released]; rfl
  | backup => simp only [takePfi, supply]
  | holdup =>
    cases reading : s.usm.supplyReading with
    | none => simp only [takePfi, supply, released, reading]; rfl
    | some v =>
      have low : isSound v = false := Bool.eq_false_iff.mpr fun high => below ⟨supply, by rw [reading]; exact high⟩
      simp only [takePfi, supply, released, reading, low]; rfl

/-! ### Supply readings (R107, R194, R195) -/

theorem isLow_iff {raw : Nat} : isLow (raw * 1500 / 1023) = true ↔ raw ≤ 600 := by
  rw [isLow, decide_eq_true_iff]; omega

theorem isSound_iff {raw : Nat} : isSound (raw * 1500 / 1023) = true ↔ 648 ≤ raw := by
  rw [isSound, decide_eq_true_iff]; omega

variable {reading : Nat}

theorem takeReading_resets (run : s.spm.supply = .run) (sound : ¬ isLow reading = true) :
    takeReading reading s = { s with spm := { s.spm with lowRun := 0 } } := by
  simp only [takeReading, run, if_neg sound]

theorem takeReading_counts (run : s.spm.supply = .run) (low : isLow reading = true) (first : s.spm.lowRun = 0) :
    takeReading reading s = { s with spm := { s.spm with lowRun := 1 } } := by
  simp only [takeReading, run, if_pos low, if_pos first]

theorem takeReading_enters (run : s.spm.supply = .run) (low : isLow reading = true) (again : s.spm.lowRun ≠ 0) :
    takeReading reading s = enterHoldup s := by
  simp only [takeReading, run, if_pos low, if_neg again]

theorem takeReading_stops (holdup : s.spm.supply = .holdup) (below : ¬ isSound reading = true) :
    takeReading reading s = stopRestore s := by
  simp only [takeReading, holdup, if_neg below]

/-- A sound reading in HOLDUP leaves a running restore timer, and one that PFI holds back (R195). -/
theorem takeReading_rests (holdup : s.spm.supply = .holdup) (sound : isSound reading = true)
    (runs : s.spm.pfiStable = true ∨ s.spm.restoreBy ≠ none) : takeReading reading s = s := by
  simp only [takeReading, holdup, if_pos sound]
  split
  · rfl
  · rename_i released
    exact startRestore_running (runs.resolve_left released)

theorem takeReading_starts (holdup : s.spm.supply = .holdup) (sound : isSound reading = true)
    (released : s.spm.pfiStable = false) : takeReading reading s = startRestore s := by
  simp only [takeReading, holdup, if_pos sound, if_neg (Bool.eq_false_iff.mp released)]

end

/-- Beyond the reading stored, a reading reaches the accounts, the store, the notices and the Supply Monitor alone. -/
theorem takeReading_only (reading : Nat) (s : State) : takeReading reading s = { s with
    usm := (takeReading reading s).usm, rha := (takeReading reading s).rha, asc := (takeReading reading s).asc
    lnu := (takeReading reading s).lnu, spm := (takeReading reading s).spm } := by
  obtain ⟨tb, riu, tiu, ct, tgr, -, shc, pending, -⟩ := takeReading_frame reading s
  exact State.ext tb riu tiu ct tgr rfl rfl rfl shc rfl rfl pending

/-- The part with a supply reading stored, and its scan at channel 1 again (R96, R107). -/
def supplyRead (raw : Nat) (s : State) : State :=
  { s with usm := { s.usm with supplyReading := some (raw * 1500 / 1023), scan := .speed .u1 } }

theorem execSampleEvent_supply {s : State} (powered : s.powered = true) (turn : s.usm.scan = .supply)
    (raw : BitVec 10) : exec (.sampleEvent .supply raw) s
      = .next (takeReading (raw.toNat * 1500 / 1023) (supplyRead raw.toNat s)) := by
  rw [execSampleEvent_taken powered turn, takeSample, supplySample, Nat.mul_comm]; rfl

/-! ### The statement -/

/-- Settles O57: PFI's edges and confirmations, the readings in RUN and in HOLDUP, and the timer's expiry. -/
theorem holdupIsEnteredAndLeft : Obligations.HoldupIsEnteredAndLeft := by
  intro s powered
  have reads (raw : BitVec 10) (turn : s.usm.scan = .supply) := execSampleEvent_supply powered turn raw
  refine ⟨fun level edge settled => ?begins, fun e pending due asserted run => ?enters,
    fun level e edge pending back => ?abandons,
    fun e pending due => ⟨fun asserted holdup => ?stays, fun released => ?released⟩,
    fun raw turn => ⟨fun run above => ?resets, fun holdup below => ?stops, fun holdup sound runs => ?rests⟩,
    fun raw low turn run => ?low, fun raw sound turn holdup released stopped => ?starts,
    fun e timer due => execRestoreExpiry_due powered ⟨e, timer, due⟩⟩
  case begins => rw [execPfiEdge_edge powered edge, spm_edge_begins settled]
  case abandons => rw [execPfiEdge_edge powered edge, back, spm_edge_abandons pending]
  case enters =>
    refine ⟨_, execPfiConfirmation_due powered ⟨e, pending, due⟩ asserted, ?_⟩
    rw [takePfi_enters (s := pfiConfirmed true s) run rfl]
    exact ⟨enterHoldup_spm _, enterHoldup_notice _, enterHoldup_only _⟩
  case stays =>
    rw [execPfiConfirmation_due powered ⟨e, pending, due⟩ asserted, takePfi_stops (s := pfiConfirmed true s) holdup rfl]
    rfl
  case released =>
    rw [execPfiConfirmation_due powered ⟨e, pending, due⟩ released]
    by_cases sound : LastReadingSound (pfiConfirmed false s)
    · obtain ⟨holdup, reading⟩ := id sound
      rw [takePfi_starts rfl sound]
      by_cases stopped : s.spm.restoreBy = none
      · rw [if_pos ⟨holdup, stopped, reading⟩, startRestore_stopped (s := pfiConfirmed false s) stopped]; rfl
      · rw [if_neg fun ⟨_, timer, _⟩ => stopped timer, startRestore_running (s := pfiConfirmed false s) stopped]; rfl
    · rw [takePfi_rests rfl sound, if_neg fun ⟨holdup, _, reading⟩ => sound ⟨holdup, reading⟩]; rfl
  case resets =>
    have high := mt isLow_iff.mp (Nat.not_le.mpr above)
    rw [reads raw turn, takeReading_resets (s := supplyRead raw.toNat s) run high]; rfl
  case stops =>
    have low := mt isSound_iff.mp (Nat.not_le.mpr below)
    rw [reads raw turn, takeReading_stops (s := supplyRead raw.toNat s) holdup low]; rfl
  case rests =>
    have high := isSound_iff.mpr sound
    rw [reads raw turn, takeReading_rests (s := supplyRead raw.toNat s) holdup high runs]; rfl
  case low =>
    have low' := isLow_iff.mpr low
    refine ⟨_, reads raw turn, ?_, fun first => ?_, fun again => ?_, takeReading_only _ (supplyRead raw.toNat s)⟩
    · simp only [takeReading_frame]; rfl
    · rw [takeReading_counts (s := supplyRead raw.toNat s) run low' first]; rfl
    · rw [takeReading_enters (s := supplyRead raw.toNat s) run low' fun zero => Nat.one_ne_zero (again.symm.trans zero)]
      exact ⟨enterHoldup_spm _, enterHoldup_notice _⟩
  case starts =>
    refine ⟨_, reads raw turn, ?_⟩
    rw [takeReading_starts (s := supplyRead raw.toNat s) holdup (isSound_iff.mpr sound) released,
      startRestore_stopped (s := supplyRead raw.toNat s) stopped]
    exact ⟨rfl, rfl⟩

end Sys2Proof.Proofs
end
